-- ==== Sys2Proof/Word.lean ====
section
/-! DEFINITION. The word types of the DQ-26 and their plainest arithmetic. -/

namespace Sys2Proof

/-- One byte on a port or on the Sample Link. -/
abbrev Byte := BitVec 8

/-- A 64-bit energy register in mWh or mvarh (R12, R53, R54). -/
abbrev Energy := BitVec 64

/-- A 32-bit number that wraps or counts: a record sequence, a log sequence, a period number
(R47, R115, R127). -/
abbrev Seq := BitVec 32

/-- One 32-bit word of the Profile Log (section 3.5 of the scope). -/
abbrev LogWord := BitVec 32

/-- An energy register that holds `n`, or its largest value where `n` is larger (R12, R50, R51). -/
def satEnergy (n : Nat) : Energy := BitVec.ofNat 64 (min n (2 ^ 64 - 1))

end Sys2Proof
end

