-- ==== Sys2Proof/Config.lean ====
section
/-! DEFINITION. The constants of the part, and the one value that the spec leaves open. -/

namespace Sys2Proof

/-- The largest demand value, the demand cap (scope section 3.5, R66). -/
def demandCap : Nat := 4294967295

/-- Seconds in a day (R19). -/
def daySeconds : Nat := 86400

/-- Days in the cycle of instants (R19). -/
def cycleDays : Nat := 65536

/-- Seconds in the cycle of instants (R19). -/
def cycleSeconds : Nat := 5662310400

/-- Words of the Profile Log's store (R127). -/
def logWords : Nat := 16384

/-- Entries the period history holds at most (R119). -/
def historyMax : Nat := 13

/-- The largest period number (R109). -/
def lastPeriod : Seq := 0xFFFFFFFF

/-- The filler byte of data out (R191). -/
def filler : Byte := 0xFF

/-- FREE VALUE (assumption 16): the expected number that a channel holds after the n-th stall of a channel
that went to STALLED out of WAITING. R4 says that a channel in STALLED holds a number, 0..15, and names
none for a channel that no record has reached. -/
opaque unheardExpected : Nat → BitVec 4

end Sys2Proof
end

