-- ==== Sys2Proof/Syntax.lean ====
section
/-! DEFINITION. The commands of the DQ-26: one constructor of `Instr` for each row of
spec/opcode_table.json, with the operands the row's event carries. Where the spec gives the result for
both orders of two events that one row holds, an operand says which comes first: `closeFirst` (R150) and
`freezeFirst` (R117). -/

namespace Sys2Proof

/-- The two command ports (chapter 9). -/
inductive Port where
  | utility
  | customer
deriving DecidableEq, Repr

/-- How a write-class transaction was framed when select rose (R162 step 2). -/
inductive Framing where
  /-- exactly the command's number of whole bytes, and no partial byte -/
  | whole
  /-- another number of whole bytes after the command byte, or this many and a partial byte: MALFORMED -/
  | broken (argBytes : Nat)
deriving DecidableEq, Repr

/-- The first filtered levels of SYNC, GUARD and CLOSE at a power-up; true is high (SYNC) or
asserted (GUARD, CLOSE). Taking them is no change of level (R25). -/
structure PinLevels where
  sync  : Bool
  guard : Bool
  close : Bool
deriving DecidableEq, Repr

/-- A frame of the Sample Link as it stands at its arrival (R1). -/
structure LinkFrame where
  /-- how many bits were sampled between the two pauses -/
  nbits : Nat
  /-- the bits of a frame of 48, the first bit sampled being bit 47; of no account otherwise -/
  bits : BitVec 48
  /-- LEN as sampled with the last bit -/
  len : Bool
  /-- LVAL as sampled with the last bit -/
  lval : Bool
  /-- the frame began before a start or a Hold entry, or one of its bits arrived in Hold -/
  straddles : Bool
deriving DecidableEq, Repr

/-- The four entries of a quad write, first to last (R36, R37, R41). -/
structure Four (α : Type) where
  e0 : α
  e1 : α
  e2 : α
  e3 : α
deriving DecidableEq, Repr

/-- One entry of Write Switch Quad: a minute of day and a rate byte (R36). -/
structure SwitchArg where
  minute : BitVec 16
  rate   : Byte
deriving DecidableEq, Repr

/-- Something for each weekday, Monday to Sunday (R32, R37). -/
structure Week (α : Type) where
  mon : α
  tue : α
  wed : α
  thu : α
  fri : α
  sat : α
  sun : α
deriving DecidableEq, Repr

/-- The arguments of Write Limit (R146, section 12.3). -/
structure LimitArgs where
  comparator : Byte
  enable     : Byte
  quantity   : Byte
  threshold  : BitVec 32
  hysteresis : BitVec 32
  minHold    : BitVec 16
  shed       : Byte
deriving DecidableEq, Repr

/-- The commands: every row of spec/opcode_table.json. A READ-class row is the command taken at its
snapshot instant (R161); a write-class row is the rise of select that takes the transaction (R162). An
operand left out of a term says that a date's freeze comes after the close, or that the framing is whole. -/
inductive Instr where
  | linkFrame (f : LinkFrame)
  | secondEvent (closeFirst : Bool)
  | midnightEvent
  | stallTimeout (c : Fin 4)
  | boundaryEvent
  | syncPulse
  | syncExpiry
  | closeDateEvent
  | lockoutExpiry
  | buttonPress
  | guardChange (asserted : Bool)
  | holdEntry
  | holdRelease
  | supplyLoss
  | retentionInvalid
  | coldStart (lv : PinLevels)
  | warmStart (lv : PinLevels)
  | selectFall (p : Port)
  | selectRise (p : Port) (bytes : List Byte) (partialBits : Nat) (dataIn : Bool) (freezeFirst : Bool := false)
  | portReset (p : Port)
  | readStatus (p : Port)
  | readTime (p : Port)
  | readSchedule (p : Port) (tables : Byte) (table : Byte)
  | readCloseDates (p : Port)
  | readChannelStatus (p : Port) (channel : Byte)
  | readRegisters (p : Port) (code : Byte)
  | readSubInterval (p : Port)
  | readDemand (p : Port)
  | readMaxima (p : Port) (code : Byte)
  | readPeriod (p : Port) (index : Byte)
  | readPeriodState (p : Port)
  | readProfile (p : Port) (n : Byte)
  | readProfileState (p : Port)
  | readLimits (p : Port)
  | readConfigItem (p : Port) (item : BitVec 16)
  | setProfileCursor (p : Port) (direction : Byte) (target : Byte) (sequence : Seq)
  | setProfileWindow (p : Port) (selector : Byte) (low : Seq) (high : Seq)
  | requestPreview (p : Port)
  | attentionFetch (p : Port)
  | eventTest (p : Port) (flag : Byte)
  | enableWrite (p : Port) (fr : Framing)
  | disableWrite (p : Port) (fr : Framing)
  | attentionEnable (p : Port) (fr : Framing)
  | setEventMask (p : Port) (fr : Framing) (mask : BitVec 16)
  | resetEnable (p : Port) (fr : Framing)
  | billingClose (p : Port) (fr : Framing)
  | adjustTime (p : Port) (fr : Framing) (seconds : BitVec 16) (freezeFirst : Bool := false)
  | writeSwitchQuad (p : Port) (fr : Framing) (dayType : Byte) (start : Byte) (entries : Four SwitchArg)
  | writeHolidayQuad (p : Port) (fr : Framing) (start : Byte) (days : Four (BitVec 16))
  | writeWeekTable (p : Port) (fr : Framing) (types : Week Byte)
  | writeCloseDateQuad (p : Port) (fr : Framing) (start : Byte) (days : Four (BitVec 16))
  | activateSchedule (p : Port) (fr : Framing) (day : BitVec 16)
  | cancelPending (p : Port) (fr : Framing)
  | reset (p : Port) (fr : Framing)
  | writeLimit (p : Port) (fr : Framing) (args : LimitArgs)
  | writeConfigItem (p : Port) (fr : Framing) (item : BitVec 16) (value : BitVec 32)
  | setTime (p : Port) (fr : Framing) (day : BitVec 16) (second : BitVec 24)
  | clearProfile (p : Port) (fr : Framing)
  | clearHistory (p : Port) (fr : Framing)
  | setLockMode (p : Port) (fr : Framing) (mode : Byte)
  | lockCalibration (p : Port) (fr : Framing) (channel : Byte)
  | unknownCommand (p : Port) (code : Byte) (fr : Framing := .whole)
  | storeCompletion
  | closeCompletion
  | previewCompletion (p : Port)
  | clearProfileCompletion
  | buttonRelease
  | syncLevelFall
deriving DecidableEq, Repr

end Sys2Proof
end

