-- ==== Sys2Proof/Decode.lean ====
section
/-! DEFINITION. The command a word spells by the bits of spec/opcode_table.json. No row of this table
has bits, so no word spells a command; how a port's bytes become commands is `riseSelect` of
Machine/Events.lean. -/

namespace Sys2Proof

/-- The command that the low `nbits` bits of `w` spell: none, as no row gives bits. -/
def decodeTableWord (_nbits _w : Nat) : Option Instr := none

end Sys2Proof
end

