-- ==== Sys2Proof/Machine/State.lean ====
section
/-! DEFINITION. The state of the DQ-26 as plain data: every register, table, record, queue, mode and
pin the spec gives the block, the reasons a step can stop, and the state after reset. -/

namespace Sys2Proof.Machine

/-! ## Small carriers -/

/-- One thing for each of the four channels, comparators or day types. -/
structure PerFour (α : Type) where
  c0 : α
  c1 : α
  c2 : α
  c3 : α
deriving DecidableEq, Repr

/-- The four measured quantities (scope section 3.5). -/
inductive Quantity where
  | impActive
  | expActive
  | lagging
  | leading
deriving DecidableEq, Repr

/-- One thing for each of the four measured quantities, P+, P−, Q+ and Q−. -/
structure Quad (α : Type) where
  pp : α
  pm : α
  qp : α
  qm : α
deriving DecidableEq, Repr

/-- One thing for each of the five totalized quantities P+, P−, Q+, Q− and Eq (R53). -/
structure Quint (α : Type) where
  pp : α
  pm : α
  qp : α
  qm : α
  eq : α
deriving DecidableEq, Repr

/-- A time-of-use rate, 1 to 6. -/
inductive Rate where
  | r1
  | r2
  | r3
  | r4
  | r5
  | r6
deriving DecidableEq, Repr

/-- A rate set of the registers and the maxima: one rate, or rate A (R53, R75). -/
inductive RateSet where
  | one (r : Rate)
  | all
deriving DecidableEq, Repr

/-- One thing for each of the seven rate sets. -/
structure PerRate (α : Type) where
  r1 : α
  r2 : α
  r3 : α
  r4 : α
  r5 : α
  r6 : α
  rA : α
deriving DecidableEq, Repr

/-- A set of rates among 1..6; bit r − 1 stands for rate r (section 12.1). -/
abbrev RateMask := BitVec 6

/-- A day number and a second of day (R19). -/
structure Instant where
  day : Nat
  sec : Nat
deriving DecidableEq, Repr

/-- The fifteen status flags of a sub-interval (R48). -/
inductive StatusFlag where
  | outage
  | short
  | long
  | timeSet
  | timeAdj
  | skip
  | gap
  | stall
  | check
  | clip
  | negTotal
  | config
  | restart
  | noTime
  | noSync
deriving DecidableEq, Repr

/-- A set of status flags, laid out as section 12.4 numbers its bits. -/
abbrev StatusSet := BitVec 15

/-- The fifteen request flags and the five test flags of an Attention Unit, in the order of
section 12.5: flag number n stands at bit n − 1. -/
inductive AttnFlag where
  | supplyWarn
  | closeDone
  | closeDeferred
  | newMaxKW
  | newMaxKVA
  | subintEnd
  | rateChange
  | limitAlert
  | limitRelease
  | linkFault
  | timeChanged
  | previewReady
  | storeDone
  | logOverrun
  | scheduleSwitched
  | linkCheck
  | countClip
  | seqGap
  | regRollover
  | startCold
deriving DecidableEq, Repr

/-- The nine result codes (R163, R191). -/
inductive Result where
  | ok
  | busy
  | denied
  | locked
  | malformed
  | range
  | invalid
  | lockout
  | hold
deriving DecidableEq, Repr

/-! ## Configuration Store -/

/-- Link polarity (R5). -/
inductive Polarity where
  | activeHigh
  | activeLow
deriving DecidableEq, Repr

/-- Totalization weight (R16). -/
inductive Weight where
  | add
  | subtract
  | omit
deriving DecidableEq, Repr

/-- Sync mode (R28). -/
inductive SyncMode where
  | internal
  | external
deriving DecidableEq, Repr

/-- Reactive mode (R51). -/
inductive ReactiveMode where
  | lagOnly
  | lagPlusLead
  | lagMinusLead
deriving DecidableEq, Repr

/-- Register mode (R57). -/
inductive RegisterMode where
  | rollover
  | saturate
deriving DecidableEq, Repr

/-- Demand basis of the bill (R103), and the quantity of a comparator (section 8.1). -/
inductive Basis where
  | kw
  | kva
deriving DecidableEq, Repr

/-- Lock mode (R165). -/
inductive LockMode where
  | opened
  | guarded
  | powerLocked
  | permanent
deriving DecidableEq, Repr

/-- The configuration items of one channel and its calibration lock (section 1.4, R166). -/
structure ChannelConfig where
  k       : Nat
  ss      : Int
  enabled : Bool
  weight  : Weight
  calLock : Bool
deriving DecidableEq, Repr

/-- The billing settings of section 5.9, the settings set of R88. -/
structure BillSettings where
  basis       : Basis
  billable    : RateMask
  ratchetPct  : Nat
  lookback    : Nat
  contractMin : Nat
  excessOn    : Bool
  ratio       : Nat
  pfAdjustOn  : Bool
  pfRef       : Nat
  pfFloor     : Nat
deriving DecidableEq, Repr

/-- The six settings of one comparator (section 8.1). -/
structure LimitConfig where
  enabled    : Bool
  quantity   : Basis
  threshold  : Nat
  hysteresis : Nat
  minHold    : Nat
  shed       : Fin 4
deriving DecidableEq, Repr

/-- Every configuration item of section 12.8, with the values in effect. -/
structure Config where
  channels        : PerFour ChannelConfig
  polarity        : Polarity
  stallTimeout    : Nat
  subLen          : Nat
  syncMode        : SyncMode
  grace           : Nat
  weekdayOffset   : Nat
  closeSecond     : Nat
  reactive        : ReactiveMode
  digits          : Nat
  registerMode    : RegisterMode
  windowLen       : Nat
  excludeFlagged  : Bool
  pickupThreshold : Nat
  pickupLength    : Nat
  bill            : BillSettings
  lockoutLen      : Nat
  logMask         : BitVec 4
  limits          : PerFour LimitConfig
  lockMode        : LockMode
deriving DecidableEq, Repr

/-- A switch point: the minute of day from which a rate runs (R32). A pending list may hold a rate
byte that R38 will reject, so the rate is a number here. -/
structure SwitchPoint where
  minute : Nat
  rate   : Nat
deriving DecidableEq, Repr

/-- The three tables of a schedule (R32). -/
structure Tables where
  week     : Week (Fin 3)
  holidays : List Nat
  switches : PerFour (List SwitchPoint)
deriving DecidableEq, Repr

/-- The pending schedule: its state, and the tables and effective day where it holds them
(section 2.6). -/
inductive PendingSchedule where
  | none
  | loading (t : Tables)
  | armed (t : Tables) (effective : Nat)
deriving DecidableEq, Repr

/-- A checked Write Config Item: the item and the value to be written (R169). -/
inductive Setting where
  | channelK (c : Fin 4) (v : Nat)
  | channelSS (c : Fin 4) (v : Int)
  | channelEnable (c : Fin 4) (v : Bool)
  | channelWeight (c : Fin 4) (v : Weight)
  | polarity (v : Polarity)
  | stallTimeout (v : Nat)
  | subLen (v : Nat)
  | syncMode (v : SyncMode)
  | grace (v : Nat)
  | weekdayOffset (v : Nat)
  | closeSecond (v : Nat)
  | reactive (v : ReactiveMode)
  | digits (v : Nat)
  | registerMode (v : RegisterMode)
  | windowLen (v : Nat)
  | excludeFlagged (v : Bool)
  | pickupThreshold (v : Nat)
  | pickupLength (v : Nat)
  | basis (v : Basis)
  | billable (v : RateMask)
  | ratchetPct (v : Nat)
  | lookback (v : Nat)
  | contractMin (v : Nat)
  | excessOn (v : Bool)
  | ratio (v : Nat)
  | pfAdjustOn (v : Bool)
  | pfRef (v : Nat)
  | pfFloor (v : Nat)
  | lockoutLen (v : Nat)
  | logMask (v : BitVec 4)
deriving DecidableEq, Repr

/-- What a store write in flight will commit (R167). -/
inductive StoreItem where
  | setting (v : Setting)
  | switchQuad (dayType : Fin 4) (start : Nat) (entries : List (Option SwitchPoint))
  | holidayQuad (start : Nat) (days : List (Option Nat))
  | weekTable (types : Week (Fin 3))
  | closeDates (list : List Nat)
  | limit (k : Fin 4) (settings : LimitConfig)
  | lockMode (m : LockMode)
  | calibrationLock (c : Fin 4)
deriving DecidableEq, Repr

/-- The store write in flight: the writing port and the item (R167). -/
structure StoreWrite where
  port : Port
  item : StoreItem
deriving DecidableEq, Repr

/-- The Configuration Store: every item, both schedules, the close-date list, and the store state,
which is STORE_BUSY while a write is held (chapters 2 and 9). -/
structure Store where
  config     : Config
  active     : Tables
  pendSched  : PendingSchedule
  closeDates : List Nat
  writing    : Option StoreWrite
deriving DecidableEq, Repr

/-! ## Time Base, channels and totals -/

/-- The Time Base and the Rate Schedule's day type (R19, R20, R34, R42). -/
structure Clock where
  now       : Instant
  timeValid : Bool
  dayType   : Fin 4
  /-- the entry of the close-date list the pointer names, by position, or none -/
  pointer   : Option Nat
deriving DecidableEq, Repr

/-- The open sub-interval (R22, R49). -/
structure OpenSub where
  start      : Instant
  nominalEnd : Instant
  elapsed    : Nat
  rate       : Rate
  status     : StatusSet
deriving DecidableEq, Repr

/-- The MODEL's own: the parts of the last second event that their block has not yet taken, each
waiting for its own row of the table. See assumption 2. -/
structure Due where
  midnight : Bool
  stall    : PerFour Bool
  dates    : Nat
  lockout  : Bool
deriving DecidableEq, Repr

/-- The four states of a channel (R6). -/
inductive ChannelState where
  | off
  | waiting
  | active
  | stalled
deriving DecidableEq, Repr

/-- One channel of the Channel Intake (R4, R6, R7, R12, R13). -/
structure Channel where
  state    : ChannelState
  expected : Option (BitVec 4)
  timer    : Nat
  residue  : Quad Nat
  cum      : Quad Energy
  part     : Quad Energy
deriving DecidableEq, Repr

/-- A Sub-interval Record (R47). -/
structure SubRecord where
  sequence : Seq
  start    : Instant
  stop     : Instant
  rate     : Rate
  status   : StatusSet
  totals   : Quint Energy
  parts    : PerFour (Quad Energy)
deriving DecidableEq, Repr

/-- The Totalizer (R47, R53, R54, R59). -/
structure Totalizer where
  lastSeq : Seq
  acc     : PerRate (Quint Energy)
  period  : PerRate (Quint Energy)
  present : RateMask
  marks   : PerFour (Quad Energy)
  last    : Option SubRecord
deriving DecidableEq, Repr

/-! ## Demand Engine -/

/-- A summary in the ring (section 4.1.1). -/
structure Summary where
  sequence : Seq
  rate     : Rate
  status   : StatusSet
  ep       : Energy
  eq       : Energy
deriving DecidableEq, Repr

/-- The last window (R69); it is eligible when none of the three reasons holds. -/
structure Window where
  sequence  : Seq
  stop      : Instant
  rate      : Rate
  fill      : Nat
  dp        : Nat
  dq        : Nat
  dva       : Nat
  pf        : Nat
  failFill    : Bool
  failPickup  : Bool
  failFlagged : Bool
deriving DecidableEq, Repr

/-- A present Maximum Record (R75); an empty one is `none`. -/
structure MaxRecord where
  value    : Nat
  stop     : Instant
  sequence : Seq
  dq       : Nat
  other    : Nat
  pf       : Nat
  status   : StatusSet
deriving DecidableEq, Repr

/-- The kW and the kVA Maximum Record of one rate set (R75). -/
structure MaxPair where
  kw  : Option MaxRecord
  kva : Option MaxRecord
deriving DecidableEq, Repr

/-- The Demand Engine (chapter 4). -/
structure Demand where
  ring   : List Summary
  window : Option Window
  pickup : Nat
  maxima : PerRate MaxPair
deriving DecidableEq, Repr

/-! ## Period Unit -/

/-- The cause of a Billing Close, or PREVIEW (R118, R123). -/
inductive Cause where
  | command
  | date
  | button
  | dateLate
  | preview
deriving DecidableEq, Repr

/-- An input set with its close data: the closing snapshot, or a preview copy (R84 to R88, R115,
R122). -/
structure Snapshot where
  energy      : PerRate (Quint Energy)
  maxima      : PerRate MaxPair
  ratePresent : RateMask
  ratchet     : List Nat
  settings    : BillSettings
  number      : Seq
  start       : Instant
  stop        : Instant
  cause       : Cause
  partialMark : Bool
deriving DecidableEq, Repr

/-- The result flags of a billing computation (R102). -/
structure ResultFlags where
  ratchetApplied : Bool
  minApplied     : Bool
  pfAdjusted     : Bool
  clamped        : Bool
  noDemand       : Bool
deriving DecidableEq, Repr

/-- A rate block, or the rate-A block, of a Period Record (R118). -/
structure RateBlock where
  rate   : RateSet
  ep     : Nat
  eq     : Nat
  excess : Nat
  maxima : MaxPair
deriving DecidableEq, Repr

/-- A Period Record or a Preview Record (R118, R123). -/
structure PeriodRecord where
  number      : Seq
  start       : Instant
  stop        : Instant
  cause       : Cause
  partialMark : Bool
  ratePresent : RateMask
  blocks      : List RateBlock
  blockA      : RateBlock
  pfAvg       : Nat
  pfUsed      : Nat
  basis       : Basis
  base        : Nat
  floor       : Nat
  unadjusted  : Nat
  adjusted    : Nat
  flags       : ResultFlags
deriving DecidableEq, Repr

/-- The close state, with the closing snapshot while one is held (R114, R115). -/
inductive CloseState where
  | idle
  | closing (x : Snapshot)
  | resuming (x : Snapshot)
deriving DecidableEq, Repr

/-- The Period Unit (chapter 6); the history is oldest first. -/
structure PeriodUnit where
  close       : CloseState
  number      : Seq
  start       : Instant
  partialMark : Bool
  lockout     : Nat
  deferred    : Option Cause
  history     : List PeriodRecord
deriving DecidableEq, Repr

/-! ## Profile Log -/

/-- The kinds of log record and the marker types (R128, R131). -/
inductive RecordKind where
  | data (mask : BitVec 4)
  | close
  | timeSet
  | outage
  | schedule
  | config
  | restart
  | cleared
deriving DecidableEq, Repr

/-- A log record as it is built, before it takes a sequence (R128, R142). -/
structure LogBody where
  kind    : RecordKind
  rate    : Rate
  status  : StatusSet
  stamp   : Instant
  payload : List LogWord
deriving DecidableEq, Repr

/-- A log record held (R127). -/
structure LogRecord where
  sequence : Seq
  body     : LogBody
deriving DecidableEq, Repr

/-- The twenty log carries (R130). -/
structure Carries where
  totals   : Quad Nat
  channels : PerFour (Quad Nat)
deriving DecidableEq, Repr

/-- The Profile Log, less the cursors, which stand with their ports (chapter 7). -/
structure ProfileLog where
  records   : List LogRecord
  nextSeq   : Seq
  carries   : Carries
  clearBusy : Bool
  slot      : Option LogBody
deriving DecidableEq, Repr

/-- Cursor states (R134). -/
inductive CursorState where
  | atRecord
  | atEnd
  | atEdge
  | overrun
deriving DecidableEq, Repr

/-- Cursor direction (section 7.3). -/
inductive Direction where
  | forward
  | backward
deriving DecidableEq, Repr

/-- A port's profile cursor; the window is ALL when it is `none`, and otherwise a low and a high
sequence (section 7.3). -/
structure Cursor where
  position : Seq
  state    : CursorState
  dir      : Direction
  window   : Option (Seq × Seq)
deriving DecidableEq, Repr

/-! ## Limit Monitor -/

/-- Comparator states (section 8.3). -/
inductive ComparatorState where
  | disabled
  | clear
  | alert
  | releasing
deriving DecidableEq, Repr

/-- A comparator's state and hold timer (chapter 8). -/
structure Comparator where
  state : ComparatorState
  timer : Nat
deriving DecidableEq, Repr

/-- Where a projection came from (R148, R149, R155). -/
inductive ProjectionSource where
  | projected
  | heldEarly
  | heldFill
  | hold
deriving DecidableEq, Repr

/-- The last projection (chapter 8). -/
structure Projection where
  dp      : Nat
  dq      : Nat
  dva     : Nat
  source  : ProjectionSource
  elapsed : Nat
deriving DecidableEq, Repr

/-- The Limit Monitor: comparators, last projection, SHED levels (true is active), and N, S and the
fill as it last read them (chapter 8, R157). -/
structure Monitor where
  comparators : PerFour Comparator
  projection  : Projection
  shed        : PerFour Bool
  seenN       : Nat
  seenS       : Nat
  seenFill    : Nat
deriving DecidableEq, Repr

/-! ## Ports and Attention Units -/

/-- An Attention Unit: request and test flags, mask, enable (chapter 10), and the flags raised since
the port's last snapshot instant, which R176 keeps from a clear. -/
structure AttentionUnit where
  flags  : BitVec 20
  mask   : BitVec 14
  enable : Bool
  fresh  : BitVec 20
deriving DecidableEq, Repr

/-- What a READ-class command will do when its select rises (the effects table of R161). -/
inductive ReadEffect where
  | none
  /-- Read Profile: for each record of the reply, in order, the reply bytes up to its last one and
  the cursor after it (R138) -/
  | advance (steps : List (Nat × Cursor))
  /-- Set Profile Cursor or Set Profile Window: the reply bytes the placement waits for, and the cursor
  (R139, R140) -/
  | place (bytes : Nat) (c : Cursor)
  /-- Attention Fetch: the group returned, and the mask at the snapshot instant (R179) -/
  | fetch (group : Nat) (mask : BitVec 14)
  /-- Event Test: the bit of the flag named, or none for GUARD (R180) -/
  | test (bit : Option Nat)
deriving DecidableEq, Repr

/-- A port's transaction state (R159): IDLE, or in a transaction with no byte taken yet, or past the
snapshot instant of a READ-class command, with the reply found there. -/
inductive Transaction where
  | idle
  | selected
  | replying (command : Byte) (reply : List Byte) (effect : ReadEffect)
deriving DecidableEq, Repr

/-- A command port with everything that is its own: chapter 9's state, its profile cursor, its
Preview and its Attention Unit. `dataOut` is the whole bytes driven on data out, from the command byte
on, in the last transaction, or up to the snapshot instant of one that is past it (R159, R191). The
preview state is RUNNING while a preview copy is held. -/
structure PortState where
  tx          : Transaction
  lastResult  : Result
  lastCommand : Byte
  latch       : Bool
  arm         : Bool
  pattern     : Nat
  dataOut     : List Byte
  cursor      : Cursor
  preview     : Option Snapshot
  previewRec  : Option PeriodRecord
  attn        : AttentionUnit
deriving DecidableEq, Repr

/-! ## Supply Monitor and pins -/

/-- The start cause (R187, R188, R190). -/
inductive StartCause where
  | cold
  | warm
  | restart
deriving DecidableEq, Repr

/-- The Supply Monitor (chapter 11). `mainSupply` is clear from a supply loss to the start that ends
it; while it is clear no output is driven. -/
structure Supply where
  mainSupply     : Bool
  hold           : Bool
  outageStart    : Instant
  outageValid    : Bool
  lossInstant    : Instant
  retentionValid : Bool
  startCause     : StartCause
deriving DecidableEq, Repr

/-- The filtered levels of the filtered inputs; true is high (SYNC) or asserted. -/
structure Pins where
  sync  : Bool
  guard : Bool
  close : Bool
  pfail : Bool
deriving DecidableEq, Repr

/-! ## The whole machine -/

/-- The state of the DQ-26, and the queue of commands that wait. -/
structure State where
  store   : Store
  clock   : Clock
  sub     : OpenSub
  due     : Due
  chans   : PerFour Channel
  tot     : Totalizer
  dem     : Demand
  per     : PeriodUnit
  log     : ProfileLog
  lim     : Monitor
  util    : PortState
  cust    : PortState
  sup     : Supply
  pins    : Pins
  /-- the commands waiting, first in, first out -/
  pending : List Instr
  /-- the model's own: how many free values have been drawn (assumption 16) -/
  free    : Nat
deriving DecidableEq, Repr

/-- Why a step stops with a fault. The spec names no condition in which this block stops: it refuses
commands with result codes and marks what it finds with flags. So there is no fault. -/
inductive Fault where
deriving DecidableEq, Repr

/-- Why a step is refused. -/
inductive Refusal where
  /-- a command that has no meaning in the model yet; raised only by an arm of `exec`; safe, since the
  model stops where the part goes on -/
  | notModelled (mnemonic : String)
deriving DecidableEq, Repr

/-! ## The state after reset -/

/-- Day 0, second 0. -/
def Instant.zero : Instant := ⟨0, 0⟩

/-- The same thing in each of four places. -/
def PerFour.all {α : Type} (x : α) : PerFour α := ⟨x, x, x, x⟩

/-- The same thing for each quantity. -/
def Quad.all {α : Type} (x : α) : Quad α := ⟨x, x, x, x⟩

/-- The same thing for each totalized quantity. -/
def Quint.all {α : Type} (x : α) : Quint α := ⟨x, x, x, x, x⟩

/-- The same thing for each rate set. -/
def PerRate.all {α : Type} (x : α) : PerRate α := ⟨x, x, x, x, x, x, x⟩

/-- A comparator's settings as delivered; its SHED output is its own number (section 8.1). -/
def LimitConfig.delivered (k : Fin 4) : LimitConfig :=
  { enabled := false, quantity := .kw, threshold := 4294967295, hysteresis := 0, minHold := 0, shed := k }

/-- The billing settings as delivered (R103 to R106). -/
def BillSettings.delivered : BillSettings :=
  { basis := .kw, billable := 0, ratchetPct := 0, lookback := 0, contractMin := 0, excessOn := false,
    ratio := 0, pfAdjustOn := false, pfRef := 9000, pfFloor := 5000 }

/-- Every configuration item as delivered, each by its own rule. -/
def Config.delivered : Config :=
  { channels := .all { k := 1, ss := 0, enabled := false, weight := .add, calLock := false },
    polarity := .activeHigh, stallTimeout := 10, subLen := 900, syncMode := .internal, grace := 5,
    weekdayOffset := 0, closeSecond := 0, reactive := .lagOnly, digits := 9, registerMode := .rollover,
    windowLen := 1, excludeFlagged := true, pickupThreshold := 900, pickupLength := 0,
    bill := .delivered, lockoutLen := 3600, logMask := 0xF,
    limits := ⟨.delivered 0, .delivered 1, .delivered 2, .delivered 3⟩, lockMode := .opened }

/-- The active schedule as delivered (R32). -/
def Tables.delivered : Tables :=
  { week := ⟨0, 0, 0, 0, 0, 0, 0⟩, holidays := [], switches := .all [⟨0, 1⟩] }

/-- The Configuration Store as delivered. -/
def Store.delivered : Store :=
  { config := .delivered, active := .delivered, pendSched := .none, closeDates := [], writing := none }

/-- A channel as a cold start leaves one that is disabled (R18). -/
def Channel.cold (st : ChannelState) : Channel :=
  { state := st, expected := none, timer := 0, residue := .all 0, cum := .all 0, part := .all 0 }

/-- The Totalizer after a cold start (R62). -/
def Totalizer.cold : Totalizer :=
  { lastSeq := 0, acc := .all (.all 0), period := .all (.all 0), present := 0, marks := .all (.all 0),
    last := none }

/-- The Demand Engine after a cold start (R83). -/
def Demand.cold : Demand :=
  { ring := [], window := none, pickup := 0, maxima := .all ⟨none, none⟩ }

/-- The Period Unit after a cold start (R126). -/
def PeriodUnit.cold : PeriodUnit :=
  { close := .idle, number := 1, start := .zero, partialMark := true, lockout := 0, deferred := none,
    history := [] }

/-- The Profile Log after a cold start (R145). -/
def ProfileLog.cold : ProfileLog :=
  { records := [], nextSeq := 1, carries := ⟨.all 0, .all (.all 0)⟩, clearBusy := false, slot := none }

/-- A cursor after a cold start (R145). -/
def Cursor.cold : Cursor := { position := 1, state := .atEnd, dir := .forward, window := none }

/-- An Attention Unit after a start; START_COLD is set by a cold start alone (R182). -/
def AttentionUnit.started (isCold : Bool) : AttentionUnit :=
  { flags := if isCold then 0x80000 else 0, mask := 0x3FFF, enable := false, fresh := 0 }

/-- A command port after a cold start (R126, R145, R174, R182). -/
def PortState.cold : PortState :=
  { tx := .idle, lastResult := .ok, lastCommand := 0, latch := false, arm := false, pattern := 0,
    dataOut := [], cursor := .cold, preview := none, previewRec := none, attn := .started true }

/-- Nothing left over of a second event. -/
def Due.nothing : Due := { midnight := false, stall := .all false, dates := 0, lockout := false }

/-- The machine right after reset: the part as delivered, after the cold start that its first
power-up is (R187), with every filtered input inactive and no command waiting; no free value is drawn yet, which is the model's choice (assumption
16). -/
def State.reset : State :=
  { store := .delivered
    clock := { now := .zero, timeValid := false, dayType := 0, pointer := none }
    -- NOTIME is bit 13; the nominal end is second S of day 0 (R45)
    sub := { start := .zero, nominalEnd := ⟨0, 900⟩, elapsed := 0, rate := .r1, status := 0x2000 }
    due := .nothing
    chans := .all (.cold .off)
    tot := .cold
    dem := .cold
    per := .cold
    log := .cold
    lim := { comparators := .all ⟨.disabled, 0⟩,
             -- the fill is 0 and N is 1, so the fill is at least N − 1 (R158)
             projection := { dp := 0, dq := 0, dva := 0, source := .heldEarly, elapsed := 0 },
             shed := .all false, seenN := 1, seenS := 900, seenFill := 0 }
    util := .cold
    cust := .cold
    sup := { mainSupply := true, hold := false, outageStart := .zero, outageValid := false,
             lossInstant := .zero, retentionValid := true, startCause := .cold }
    pins := { sync := false, guard := false, close := false, pfail := false }
    pending := []
    free := 0 }

end Sys2Proof.Machine
end

