-- ==== Sys2Proof/Machine/Ops.lean ====
section
/-! DEFINITION. The named operations over the parts of the state: reading and writing one of several
like things, instants, status sets, the fields of State and the ports. -/

namespace Sys2Proof.Machine

/-! ## One of several -/

/-- The thing of channel, comparator or day type `i`. -/
def PerFour.get {α : Type} (x : PerFour α) (i : Fin 4) : α :=
  match i with
  | 0 => x.c0
  | 1 => x.c1
  | 2 => x.c2
  | 3 => x.c3

/-- `x` with the thing of `i` replaced. -/
def PerFour.set {α : Type} (x : PerFour α) (i : Fin 4) (v : α) : PerFour α :=
  match i with
  | 0 => { x with c0 := v }
  | 1 => { x with c1 := v }
  | 2 => { x with c2 := v }
  | 3 => { x with c3 := v }

/-- The same function applied to each of the four. -/
def PerFour.map {α β : Type} (f : α → β) (x : PerFour α) : PerFour β :=
  ⟨f x.c0, f x.c1, f x.c2, f x.c3⟩

/-- Two fours put together place by place. -/
def PerFour.zipWith {α β γ : Type} (f : α → β → γ) (x : PerFour α) (y : PerFour β) : PerFour γ :=
  ⟨f x.c0 y.c0, f x.c1 y.c1, f x.c2 y.c2, f x.c3 y.c3⟩

/-- The four in ascending order. -/
def PerFour.toList {α : Type} (x : PerFour α) : List α := [x.c0, x.c1, x.c2, x.c3]

/-- The value of quantity `q`. -/
def Quad.get {α : Type} (x : Quad α) (q : Quantity) : α :=
  match q with
  | .impActive => x.pp
  | .expActive => x.pm
  | .lagging => x.qp
  | .leading => x.qm

/-- `x` with the value of quantity `q` replaced. -/
def Quad.set {α : Type} (x : Quad α) (q : Quantity) (v : α) : Quad α :=
  match q with
  | .impActive => { x with pp := v }
  | .expActive => { x with pm := v }
  | .lagging => { x with qp := v }
  | .leading => { x with qm := v }

/-- Two quads put together quantity by quantity. -/
def Quad.zipWith {α β γ : Type} (f : α → β → γ) (x : Quad α) (y : Quad β) : Quad γ :=
  ⟨f x.pp y.pp, f x.pm y.pm, f x.qp y.qp, f x.qm y.qm⟩

/-- The four in the order P+, P−, Q+, Q−. -/
def Quad.toList {α : Type} (x : Quad α) : List α := [x.pp, x.pm, x.qp, x.qm]

/-- Two quints put together quantity by quantity. -/
def Quint.zipWith {α β γ : Type} (f : α → β → γ) (x : Quint α) (y : Quint β) : Quint γ :=
  ⟨f x.pp y.pp, f x.pm y.pm, f x.qp y.qp, f x.qm y.qm, f x.eq y.eq⟩

/-- The five in the order P+, P−, Q+, Q−, Eq. -/
def Quint.toList {α : Type} (x : Quint α) : List α := [x.pp, x.pm, x.qp, x.qm, x.eq]

/-- The thing of a rate set. -/
def PerRate.get {α : Type} (x : PerRate α) (r : RateSet) : α :=
  match r with
  | .one .r1 => x.r1
  | .one .r2 => x.r2
  | .one .r3 => x.r3
  | .one .r4 => x.r4
  | .one .r5 => x.r5
  | .one .r6 => x.r6
  | .all => x.rA

/-- `x` with the thing of a rate set replaced. -/
def PerRate.set {α : Type} (x : PerRate α) (r : RateSet) (v : α) : PerRate α :=
  match r with
  | .one .r1 => { x with r1 := v }
  | .one .r2 => { x with r2 := v }
  | .one .r3 => { x with r3 := v }
  | .one .r4 => { x with r4 := v }
  | .one .r5 => { x with r5 := v }
  | .one .r6 => { x with r6 := v }
  | .all => { x with rA := v }

/-- The seven in the order rate 1 to 6, rate A. -/
def PerRate.toList {α : Type} (x : PerRate α) : List α := [x.r1, x.r2, x.r3, x.r4, x.r5, x.r6, x.rA]

/-- The six rates in ascending order. -/
def allRates : List Rate := [.r1, .r2, .r3, .r4, .r5, .r6]

/-- A rate's number, 1 to 6. -/
def Rate.number (r : Rate) : Nat :=
  match r with
  | .r1 => 1
  | .r2 => 2
  | .r3 => 3
  | .r4 => 4
  | .r5 => 5
  | .r6 => 6

/-- The rate of a number, or none outside 1 to 6. -/
def Rate.ofNumber (n : Nat) : Option Rate :=
  match n with
  | 1 => some .r1
  | 2 => some .r2
  | 3 => some .r3
  | 4 => some .r4
  | 5 => some .r5
  | 6 => some .r6
  | _ => none

/-- Whether a rate is in a set of rates; bit r − 1 stands for rate r (section 12.1). -/
def RateMask.has (m : RateMask) (r : Rate) : Bool := m.getLsbD (r.number - 1)

/-- A set of rates with one more. -/
def RateMask.join (m : RateMask) (r : Rate) : RateMask := m ||| (1#6 <<< (r.number - 1))

/-- The channel or comparator a byte names, or none above 3. -/
def fourOfByte (b : Byte) : Option (Fin 4) :=
  match b.toNat with
  | 0 => some 0
  | 1 => some 1
  | 2 => some 2
  | 3 => some 3
  | _ => none

/-- The weekday's entry, 0 for Monday (R19, R32). -/
def weekEntry {α : Type} (w : Week α) (weekday : Nat) : α :=
  match weekday with
  | 0 => w.mon
  | 1 => w.tue
  | 2 => w.wed
  | 3 => w.thu
  | 4 => w.fri
  | 5 => w.sat
  | _ => w.sun

/-- The seven in the order Monday to Sunday. -/
def weekList {α : Type} (w : Week α) : List α := [w.mon, w.tue, w.wed, w.thu, w.fri, w.sat, w.sun]

/-- The four entries of a quad, in order. -/
def fourList {α : Type} (x : Four α) : List α := [x.e0, x.e1, x.e2, x.e3]

/-! ## Instants (R19) -/

/-- The second of the cycle at which an instant stands. -/
def Instant.abs (t : Instant) : Nat := t.day * daySeconds + t.sec

/-- The instant at a second of the cycle, which runs round after day 65535. -/
def Instant.ofAbs (n : Nat) : Instant :=
  ⟨(n / daySeconds) % cycleDays, n % daySeconds⟩

/-- The instant one second later (R19). -/
def Instant.tick (t : Instant) : Instant :=
  if t.sec + 1 < daySeconds then ⟨t.day, t.sec + 1⟩ else ⟨(t.day + 1) % cycleDays, 0⟩

/-- The instant `n` seconds later. -/
def Instant.later (t : Instant) (n : Nat) : Instant := .ofAbs (n + t.abs)

/-- The instant `n` seconds earlier. -/
def Instant.earlier (t : Instant) (n : Nat) : Instant :=
  .ofAbs (cycleSeconds - n % cycleSeconds + t.abs)

/-- The duration from one instant to another, counted forward round the cycle. -/
def Instant.until (a b : Instant) : Nat := (cycleSeconds - a.abs % cycleSeconds + b.abs) % cycleSeconds

/-- Whether one instant is later than another in plain order of day number and second of day. -/
def Instant.isAfter (a b : Instant) : Bool := decide (b.day < a.day ∨ (b.day = a.day ∧ b.sec < a.sec))

/-- The first instant later than `t` whose second of day is a multiple of `s` (R22). -/
def Instant.nextMultiple (t : Instant) (s : Nat) : Instant :=
  if (t.sec / s + 1) * s < daySeconds then ⟨t.day, (t.sec / s + 1) * s⟩
  else ⟨(t.day + 1) % cycleDays, 0⟩

/-! ## Status sets (R48, section 12.4) -/

/-- The bit of a status flag. -/
def StatusFlag.bit (f : StatusFlag) : Nat :=
  match f with
  | .outage => 0
  | .short => 1
  | .long => 2
  | .timeSet => 3
  | .timeAdj => 4
  | .skip => 5
  | .gap => 6
  | .stall => 7
  | .check => 8
  | .clip => 9
  | .negTotal => 10
  | .config => 11
  | .restart => 12
  | .noTime => 13
  | .noSync => 14

/-- Whether a status set holds a flag. -/
def StatusSet.has (s : StatusSet) (f : StatusFlag) : Bool := s.getLsbD f.bit

/-- The status set of one flag. -/
def StatusSet.single (f : StatusFlag) : StatusSet := 1#15 <<< f.bit

/-- A status set with a flag marked; a flag marked twice is still held once (R48). -/
def StatusSet.mark (s : StatusSet) (f : StatusFlag) : StatusSet := s ||| .single f

/-- A status set with a flag marked when a condition holds. -/
def StatusSet.markIf (s : StatusSet) (c : Bool) (f : StatusFlag) : StatusSet := if c then s.mark f else s

/-! ## The fields of State -/

def State.setStore (s : State) (x : Store) : State := { s with store := x }
def State.setClock (s : State) (x : Clock) : State := { s with clock := x }
def State.setSub (s : State) (x : OpenSub) : State := { s with sub := x }
def State.setDue (s : State) (x : Due) : State := { s with due := x }
def State.setChans (s : State) (x : PerFour Channel) : State := { s with chans := x }
def State.setTot (s : State) (x : Totalizer) : State := { s with tot := x }
def State.setDem (s : State) (x : Demand) : State := { s with dem := x }
def State.setPer (s : State) (x : PeriodUnit) : State := { s with per := x }
def State.setLog (s : State) (x : ProfileLog) : State := { s with log := x }
def State.setLim (s : State) (x : Monitor) : State := { s with lim := x }
def State.setUtil (s : State) (x : PortState) : State := { s with util := x }
def State.setCust (s : State) (x : PortState) : State := { s with cust := x }
def State.setSup (s : State) (x : Supply) : State := { s with sup := x }
def State.setPins (s : State) (x : Pins) : State := { s with pins := x }
def State.setPending (s : State) (x : List Instr) : State := { s with pending := x }
def State.setFree (s : State) (x : Nat) : State := { s with free := x }

/-- The state of a port. -/
def State.port (s : State) (p : Port) : PortState :=
  match p with
  | .utility => s.util
  | .customer => s.cust

/-- The state with a port's own state replaced. -/
def State.setPort (s : State) (p : Port) (x : PortState) : State :=
  match p with
  | .utility => s.setUtil x
  | .customer => s.setCust x

/-- The state with the configuration items replaced. -/
def State.setConfig (s : State) (c : Config) : State := s.setStore { s.store with config := c }

/-- The configuration items in effect. -/
abbrev State.config (s : State) : Config := s.store.config

/-- The state with the status set of the open sub-interval gaining a flag (R48). -/
def State.markSub (s : State) (f : StatusFlag) : State :=
  s.setSub { s.sub with status := s.sub.status.mark f }

/-- The state with one channel replaced. -/
def State.setChan (s : State) (c : Fin 4) (x : Channel) : State := s.setChans (s.chans.set c x)

/-- Whether the main domain runs: the main supply is present and the start steps are complete. While
it does not, no event reaches a block (R186, R187). -/
abbrev State.running (s : State) : Bool := s.sup.mainSupply

end Sys2Proof.Machine
end

