-- ==== Sys2Proof/Machine/Flags.lean ====
section
/-! DEFINITION. The Attention Units (chapter 10): raising, reading and clearing flags, the groups, and
the ATTN level. -/

namespace Sys2Proof.Machine

/-- The bit of a flag: its number in section 12.5, less 1. -/
def AttnFlag.bit (f : AttnFlag) : Nat :=
  match f with
  | .supplyWarn => 0
  | .closeDone => 1
  | .closeDeferred => 2
  | .newMaxKW => 3
  | .newMaxKVA => 4
  | .subintEnd => 5
  | .rateChange => 6
  | .limitAlert => 7
  | .limitRelease => 8
  | .linkFault => 9
  | .timeChanged => 10
  | .previewReady => 11
  | .storeDone => 12
  | .logOverrun => 13
  | .scheduleSwitched => 14
  | .linkCheck => 15
  | .countClip => 16
  | .seqGap => 17
  | .regRollover => 18
  | .startCold => 19

/-- Whether a flag is pending (a request flag) or set (a test flag) in a unit. -/
def AttentionUnit.has (u : AttentionUnit) (f : AttnFlag) : Bool := u.flags.getLsbD f.bit

/-- A unit in which a flag is raised: it becomes pending, or stays so, whatever the mask and the
enable are, and it counts as raised since the port's last snapshot instant (R176). -/
def AttentionUnit.raise (u : AttentionUnit) (f : AttnFlag) : AttentionUnit :=
  { u with flags := u.flags ||| (1#20 <<< f.bit), fresh := u.fresh ||| (1#20 <<< f.bit) }

/-- A unit in which a clear by a transaction is made for the flag at a bit: it applies to the flag as
it stood at the snapshot instant, so a flag raised since stays (R176). -/
def AttentionUnit.clearBit (u : AttentionUnit) (bit : Nat) : AttentionUnit :=
  { u with flags := u.flags &&& ~~~((1#20 <<< bit) &&& ~~~u.fresh) }

/-- Whether the request flag at a bit counts: it is pending and not masked. SUPPLY_WARN, at bit 0, has
no mask bit; mask bit b belongs to the flag at bit b + 1 (R177, section 12.5). -/
def AttentionUnit.counts (u : AttentionUnit) (bit : Nat) : Bool :=
  u.flags.getLsbD bit && (bit == 0 || !u.mask.getLsbD (bit - 1))

/-- The bits of the flags of a group, 1 to 8; group 0 has none (R175). -/
def groupBits (g : Nat) : List Nat :=
  match g with
  | 1 => [0]
  | 2 => [1, 2]
  | 3 => [3, 4]
  | 4 => [5, 6]
  | 5 => [7, 8]
  | 6 => [9, 10]
  | 7 => [11, 12]
  | 8 => [13, 14]
  | _ => []

/-- The group number an Attention Fetch returns: that of the highest-priority group with a flag that
counts, or 0 (R179). -/
def AttentionUnit.topGroup (u : AttentionUnit) : Nat :=
  ([1, 2, 3, 4, 5, 6, 7, 8].find? (fun g => (groupBits g).any u.counts)).getD 0

/-- The bits an Attention Fetch clears in the group it returned, by the mask at its snapshot instant:
SUPPLY_WARN, or the one unmasked member of a group whose other member is masked (R179). -/
def fetchClears (g : Nat) (mask : BitVec 14) : List Nat :=
  if g = 1 then [0]
  else
    match (groupBits g).filter (fun b => !mask.getLsbD (b - 1)) with
    | [b] => [b]
    | _ => []

/-- Whether a unit asserts its port's ATTN output (R178). -/
def AttentionUnit.level (u : AttentionUnit) : Bool :=
  u.flags.getLsbD 0 ||
    (u.enable && [1, 2, 3, 4, 5, 6, 7, 8, 9, 10, 11, 12, 13, 14].any u.counts)

/-- Whether the ATTN output of a port is driven low; it is not driven during supply loss (R178). -/
def State.attnAsserted (s : State) (p : Port) : Bool := s.running && (s.port p).attn.level

/-- Whether a SHED output is driven high; it is not driven during supply loss (R153, R186). -/
def State.shedDriven (s : State) (k : Fin 4) : Bool := s.running && s.lim.shed.get k

/-- The state in which a flag is raised in one port's unit. -/
def State.raiseOn (s : State) (p : Port) (f : AttnFlag) : State :=
  s.setPort p { s.port p with attn := (s.port p).attn.raise f }

/-- The state in which a flag is raised in both units (R175). -/
def State.raise (s : State) (f : AttnFlag) : State := (s.raiseOn .utility f).raiseOn .customer f

end Sys2Proof.Machine
end

