-- ==== Sys2Proof/Machine/DemandEngine.lean ====
section
/-! DEFINITION. The Demand Engine: windows, eligibility and Maximum Records (chapter 4). -/

namespace Sys2Proof.Machine

/-! ## Window demand (R66 to R68) -/

/-- The demand of an energy over T seconds: mWh to watts, halves rounded up, capped (R66). -/
def demandOf (energy t : Nat) : Nat := min demandCap ((energy * 36 + 5 * t) / (10 * t))

/-- The bits of the largest integer whose square does not exceed `x`, from bit `n − 1` down, on top of
`acc`. -/
def sqrtFrom (x : Nat) : Nat → Nat → Nat
  | 0, acc => acc
  | n + 1, acc => sqrtFrom x n (if (acc + 2 ^ n) * (acc + 2 ^ n) ≤ x then acc + 2 ^ n else acc)

/-- The largest integer whose square does not exceed `x`, for `x` below 2^66 (R67). -/
def isqrt (x : Nat) : Nat := sqrtFrom x 33 0

/-- The apparent demand: the root of Dp² + Dq², rounded, halves up, capped (R67). -/
def apparentOf (dp dq : Nat) : Nat :=
  let x := dp * dp + dq * dq
  let f := isqrt x
  min demandCap (if f < x - f * f then f + 1 else f)

/-- The window power factor (R68). -/
def windowPF (dp dva : Nat) : Nat := if 0 < dva then (20000 * dp + dva) / (2 * dva) else 10000

/-- The window length T (R66). -/
def Config.windowSeconds (cfg : Config) : Nat := cfg.windowLen * cfg.subLen

/-- The sum of Ep over summaries, exact (R66). -/
def sumEp (ring : List Summary) : Nat := (ring.map (fun x => x.ep.toNat)).sum

/-- The sum of Eq over summaries, exact (R66). -/
def sumEq (ring : List Summary) : Nat := (ring.map (fun x => x.eq.toNat)).sum

/-! ## The arrival (R64, R69, R70) -/

/-- The summary of a record (section 4.1.1). -/
def SubRecord.summary (r : SubRecord) : Summary :=
  { sequence := r.sequence, rate := r.rate, status := r.status, ep := r.totals.pp, eq := r.totals.eq }

/-- The ring after an arrival (R64 steps 1 and 2). -/
def pushRing (n : Nat) (ring : List Summary) (x : Summary) : List Summary :=
  (if ring.length = n then ring.tail else ring) ++ [x]

/-- Whether a status set holds one of the flags that R70 names. -/
def isFlagged (st : StatusSet) : Bool :=
  st.has .outage || st.has .short || st.has .long || st.has .stall || st.has .timeSet || st.has .noSync

/-- The window of an arrival: the demands, and the conditions that fail (R64 steps 3 and 4, R69, R70). -/
def windowOf (cfg : Config) (ring : List Summary) (pickup : Nat) (r : SubRecord) : Window :=
  let dp := demandOf (sumEp ring) cfg.windowSeconds
  let dq := demandOf (sumEq ring) cfg.windowSeconds
  { sequence := r.sequence, stop := r.stop, rate := r.rate, fill := ring.length,
    dp := dp, dq := dq, dva := apparentOf dp dq, pf := windowPF dp (apparentOf dp dq),
    failFill := ring.length != cfg.windowLen,
    failPickup := pickup != 0,
    failFlagged := cfg.excludeFlagged && ring.any (fun x => isFlagged x.status) }

/-- A window is eligible when no condition fails (R70). -/
def Window.eligible (w : Window) : Bool := !w.failFill && !w.failPickup && !w.failFlagged

/-! ## Maximum Records (R75 to R78) -/

/-- Whether a record is replaced by a value: it is empty, or the value is strictly greater (R76). -/
def replacedBy (old : Option MaxRecord) (value : Nat) : Bool :=
  match old with
  | none => true
  | some m => decide (m.value < value)

/-- The kW record of a window (R77). -/
def Window.kwRecord (w : Window) (st : StatusSet) : MaxRecord :=
  { value := w.dp, stop := w.stop, sequence := w.sequence, dq := w.dq, other := w.dva, pf := w.pf, status := st }

/-- The kVA record of a window (R77). -/
def Window.kvaRecord (w : Window) (st : StatusSet) : MaxRecord :=
  { value := w.dva, stop := w.stop, sequence := w.sequence, dq := w.dq, other := w.dp, pf := w.pf, status := st }

/-- The two records of a rate set after an eligible window; each is judged on its own (R76). -/
def MaxPair.updated (m : MaxPair) (w : Window) (st : StatusSet) : MaxPair :=
  { kw := if replacedBy m.kw w.dp then some (w.kwRecord st) else m.kw
    kva := if replacedBy m.kva w.dva then some (w.kvaRecord st) else m.kva }

/-- The fourteen records after an eligible window: its rate's and rate A's are checked (R76). -/
def updateMaxima (x : PerRate MaxPair) (w : Window) (st : StatusSet) : PerRate MaxPair :=
  (x.set (.one w.rate) ((x.get (.one w.rate)).updated w st)).set .all ((x.get .all).updated w st)

/-- Whether a kW replacement of this window raises NEW_MAX_KW (R78). -/
def newMaxKW (billable : RateMask) (x : PerRate MaxPair) (w : Window) : Bool :=
  replacedBy x.rA.kw w.dp || (billable.has w.rate && replacedBy (x.get (.one w.rate)).kw w.dp)

/-- Whether a kVA replacement of this window raises NEW_MAX_KVA (R78). -/
def newMaxKVA (billable : RateMask) (x : PerRate MaxPair) (w : Window) : Bool :=
  replacedBy x.rA.kva w.dva || (billable.has w.rate && replacedBy (x.get (.one w.rate)).kva w.dva)

/-- A flag raised in both units when a condition holds. -/
def State.raiseIf (s : State) (c : Bool) (f : AttnFlag) : State := if c then s.raise f else s

/-- The Demand Engine after an arrival (R64 steps 1 to 7). -/
def Demand.arrived (d : Demand) (cfg : Config) (r : SubRecord) : Demand :=
  let ring := pushRing cfg.windowLen d.ring r.summary
  let w := windowOf cfg ring d.pickup r
  { ring := ring, window := some w, pickup := d.pickup - 1,
    maxima := if w.eligible then updateMaxima d.maxima w r.status else d.maxima }

/-- The arrival of a Sub-interval Record (R64). -/
def demandArrival (r : SubRecord) (s : State) : State :=
  let w := windowOf s.config (pushRing s.config.windowLen s.dem.ring r.summary) s.dem.pickup r
  ((s.setDem (s.dem.arrived s.config r)).raiseIf (w.eligible && newMaxKW s.config.bill.billable s.dem.maxima w)
      .newMaxKW).raiseIf (w.eligible && newMaxKVA s.config.bill.billable s.dem.maxima w) .newMaxKVA

/-- The ring emptied; the last window, the pickup counter and the maxima stay (R65). -/
def emptyRing (s : State) : State := s.setDem { s.dem with ring := [] }

/-- The pickup counter at a warm start (R72). -/
def loadPickup (duration : Nat) (s : State) : State :=
  if s.config.pickupThreshold ≤ duration then s.setDem { s.dem with pickup := s.config.pickupLength } else s

end Sys2Proof.Machine
end

