-- ==== Sys2Proof/Machine/Totals.lean ====
section
/-! DEFINITION. The Totalizer's sums, accumulators and registers (chapter 3). -/

namespace Sys2Proof.Machine

/-! ## Totals (R50, R51) -/

/-- The sum of one quantity's partials over the channels of a weight. -/
def weightedSum (w : Weight) (cfg : Config) (parts : PerFour (Quad Energy)) (q : Quantity) : Nat :=
  ((cfg.channels.zipWith (fun (c : ChannelConfig) (x : Quad Energy) =>
    if c.weight = w then (x.get q).toNat else 0) parts).toList).sum

/-- Whether the total of a quantity falls below 0 (R50). -/
def totalNegative (cfg : Config) (parts : PerFour (Quad Energy)) (q : Quantity) : Bool :=
  decide (weightedSum .add cfg parts q < weightedSum .subtract cfg parts q)

/-- The clamped total of a quantity (R50). -/
def totalOf (cfg : Config) (parts : PerFour (Quad Energy)) (q : Quantity) : Energy :=
  satEnergy (weightedSum .add cfg parts q - weightedSum .subtract cfg parts q)

/-- Eq from the clamped totals Q+ and Q− (R51). -/
def reactiveOf (mode : ReactiveMode) (qp qm : Energy) : Energy :=
  match mode with
  | .lagOnly => qp
  | .lagPlusLead => satEnergy (qp.toNat + qm.toNat)
  | .lagMinusLead => if qm.toNat ≤ qp.toNat then qp - qm else 0

/-- The four totals and Eq (R50, R51). -/
def totalize (cfg : Config) (parts : PerFour (Quad Energy)) : Quint Energy :=
  { pp := totalOf cfg parts .impActive
    pm := totalOf cfg parts .expActive
    qp := totalOf cfg parts .lagging
    qm := totalOf cfg parts .leading
    eq := reactiveOf cfg.reactive (totalOf cfg parts .lagging) (totalOf cfg parts .leading) }

/-- Whether any of the four totals falls below 0 (R50). -/
def anyNegative (cfg : Config) (parts : PerFour (Quad Energy)) : Bool :=
  [Quantity.impActive, .expActive, .lagging, .leading].any (totalNegative cfg parts)

/-- The sixteen partials as they stand. -/
def State.partials (s : State) : PerFour (Quad Energy) := s.chans.map Channel.part

/-- The sixteen cumulative energies as they stand. -/
def State.cumulative (s : State) : PerFour (Quad Energy) := s.chans.map Channel.cum

/-! ## Accumulators (R53, R54) -/

/-- The seven rate sets' quints with a record's values added to its rate and to rate A (R53, R54). -/
def addToRates (x : PerRate (Quint Energy)) (r : Rate) (v : Quint Energy) : PerRate (Quint Energy) :=
  let y := x.set (.one r) ((x.get (.one r)).zipWith (· + ·) v)
  y.set .all ((y.get .all).zipWith (· + ·) v)

/-! ## Registers (R57 to R59) -/

/-- Whole Wh of an energy. -/
def whOf (a : Energy) : Nat := a.toNat / 1000

/-- The reported value of a register (R57). -/
def reportedValue (mode : RegisterMode) (d : Nat) (a : Energy) : Nat :=
  match mode with
  | .rollover => whOf a % 10 ^ d
  | .saturate => min (whOf a) (10 ^ d - 1)

/-- The rollover count of a register; SATURATE carries 0 (R57). -/
def rolloverCount (mode : RegisterMode) (d : Nat) (a : Energy) : Nat :=
  match mode with
  | .rollover => min (whOf a / 10 ^ d) 255
  | .saturate => 0

/-- Whether a register has rolled between two values of its accumulator (R58). -/
def hasRolled (mode : RegisterMode) (d : Nat) (a0 a1 : Energy) : Bool :=
  match mode with
  | .rollover => decide (whOf a1 / 10 ^ d ≠ whOf a0 / 10 ^ d)
  | .saturate => decide (whOf a0 < 10 ^ d - 1 ∧ 10 ^ d - 1 ≤ whOf a1)

/-- Whether any of the 35 totalized registers has rolled (R58). -/
def anyTotalRolled (cfg : Config) (before after : PerRate (Quint Energy)) : Bool :=
  (before.toList.zip after.toList).any (fun x =>
    (x.1.toList.zip x.2.toList).any (fun y => hasRolled cfg.registerMode cfg.digits y.1 y.2))

/-- Whether any of the sixteen channel registers has rolled since the last close (R59). -/
def anyChannelRolled (cfg : Config) (marks cum : PerFour (Quad Energy)) : Bool :=
  (marks.toList.zip cum.toList).any (fun x =>
    (x.1.toList.zip x.2.toList).any (fun y => hasRolled cfg.registerMode cfg.digits y.1 y.2))

/-! ## Steps 1 to 7 of a close (R52) -/

/-- The status set the record will carry: that of the open sub-interval, with OUTAGE in Hold as the
close begins (R185), the flags of the cause (step 1) and NEGTOTAL (step 3). -/
def closingStatus (cause : StatusSet) (s : State) : StatusSet :=
  StatusSet.markIf (StatusSet.markIf s.sub.status s.sup.hold .outage ||| cause)
    (anyNegative s.config s.partials) .negTotal

/-- The Sub-interval Record of a close (R47). -/
def closingRecord (cause : StatusSet) (stop : Instant) (s : State) : SubRecord :=
  { sequence := s.tot.lastSeq + 1, start := s.sub.start, stop := stop, rate := s.sub.rate,
    status := closingStatus cause s, totals := totalize s.config s.partials, parts := s.partials }

/-- The Totalizer after steps 4 to 6 of a close (R47, R53, R54, R59). -/
def Totalizer.filed (t : Totalizer) (r : SubRecord) (cum : PerFour (Quad Energy)) : Totalizer :=
  { lastSeq := r.sequence
    acc := addToRates t.acc r.rate r.totals
    period := addToRates t.period r.rate r.totals
    present := RateMask.join t.present r.rate
    marks := cum
    last := some r }

/-- Steps 1 to 7 of a close: the record is built and filed, the partials are cleared, REG_ROLLOVER is
set when a register rolled, SUBINT_END is raised (R52). -/
def takeClose (cause : StatusSet) (stop : Instant) (s : State) : State :=
  let r := closingRecord cause stop s
  let filed := (s.setTot (s.tot.filed r s.cumulative)).setChans
    (s.chans.map (fun ch => { ch with part := .all 0 }))
  let checked :=
    if anyTotalRolled s.config s.tot.acc filed.tot.acc || anyChannelRolled s.config s.tot.marks s.cumulative then
      filed.raise .regRollover
    else filed
  checked.raise .subintEnd

end Sys2Proof.Machine
end

