-- ==== Sys2Proof/Machine/Billing.lean ====
section
/-! DEFINITION. The billing computation on a frozen input set (chapter 5) and the record it makes
(R118). -/

namespace Sys2Proof.Machine

/-! ## Stage 1 (R90, R91) -/

/-- The average power factor: the largest k in 0..10000 with k = 0 or (2k − 1)² M ≤ 400,000,000 Ep². -/
def averagePF (ep eq : Nat) : Nat :=
  Nat.findGreatest
    (fun k => k = 0 ∨ (2 * k - 1) * (2 * k - 1) * (ep * ep + eq * eq) ≤ 400000000 * (ep * ep)) 10000

/-! ## Stage 2 (R92, R93) -/

/-- The excess reactive energy of a rate (R92). -/
def excessOf (st : BillSettings) (ep eq : Nat) : Nat := if st.excessOn then eq - ep * st.ratio / 65536 else 0

/-- Ep of a rate set of the input, in Wh (R85). -/
def Snapshot.ep (x : Snapshot) (r : RateSet) : Nat := whOf (x.energy.get r).pp

/-- Eq of a rate set of the input, in Wh (R85). -/
def Snapshot.eq (x : Snapshot) (r : RateSet) : Nat := whOf (x.energy.get r).eq

/-- X(r) (R92). -/
def Snapshot.excess (x : Snapshot) (r : Rate) : Nat := excessOf x.settings (x.ep (.one r)) (x.eq (.one r))

/-- X(A), the sum of X(1) to X(6) (R93). -/
def Snapshot.excessAll (x : Snapshot) : Nat := (allRates.map x.excess).sum

/-! ## Stages 3 to 5 (R94 to R98) -/

/-- The Maximum Record of a rate set that the demand basis considers (R94). -/
def Snapshot.basisRecord (x : Snapshot) (r : RateSet) : Option MaxRecord :=
  match x.settings.basis with
  | .kw => (x.maxima.get r).kw
  | .kva => (x.maxima.get r).kva

/-- The rate sets considered: the billable rates, or rate A for an empty set (R94). -/
def consideredSets (billable : RateMask) : List RateSet :=
  if billable = 0 then [.all] else (allRates.filter billable.has).map .one

/-- The values of the considered records that are present (R94). -/
def Snapshot.baseValues (x : Snapshot) : List Nat :=
  (consideredSets x.settings.billable).filterMap (fun r => (x.basisRecord r).map MaxRecord.value)

/-- The largest of a list of values, 0 for none. -/
def largest (l : List Nat) : Nat := l.foldl max 0

/-- The base demand (R94, R95). -/
def Snapshot.base (x : Snapshot) : Nat := largest x.baseValues

/-- The ratchet floor (R96). -/
def Snapshot.floor (x : Snapshot) : Nat := (2 * largest x.ratchet * x.settings.ratchetPct + 100) / 200

/-- The unadjusted billing demand U (R97). -/
def Snapshot.unadjusted (x : Snapshot) : Nat := max x.base (max x.floor x.settings.contractMin)

/-! ## Stage 6 (R99 to R101) -/

/-- PF_used (R99): PF_floor acts as PF_ref where it is greater. -/
def usedPF (st : BillSettings) (avg : Nat) : Nat := max (min st.pfFloor st.pfRef) (min avg st.pfRef)

/-- The adjusted demand before the cap (R100). -/
def adjustedRaw (st : BillSettings) (u used : Nat) : Nat := (2 * u * st.pfRef + used) / (2 * used)

/-- Whether stage 6 adjusts (R100, R101). -/
def BillSettings.adjusts (st : BillSettings) : Bool := st.pfAdjustOn && st.basis == .kw

/-- PF_avg of the input (R90). -/
def Snapshot.avgPF (x : Snapshot) : Nat := averagePF (x.ep .all) (x.eq .all)

/-- PF_used of the input (R99). -/
def Snapshot.usedPF (x : Snapshot) : Nat := Sys2Proof.Machine.usedPF x.settings x.avgPF

/-- The adjusted billing demand (R100, R101). -/
def Snapshot.adjusted (x : Snapshot) : Nat :=
  if x.settings.adjusts then min demandCap (adjustedRaw x.settings x.unadjusted x.usedPF) else x.unadjusted

/-- The result flags (R95, R98, R100, R101). -/
def Snapshot.flags (x : Snapshot) : ResultFlags :=
  { ratchetApplied := decide (x.base < x.floor ∧ x.settings.contractMin ≤ x.floor)
    minApplied := decide (x.base < x.settings.contractMin ∧ x.floor < x.settings.contractMin)
    pfAdjusted := x.settings.adjusts && decide (x.unadjusted < x.adjusted)
    clamped := x.settings.adjusts && decide (demandCap < adjustedRaw x.settings x.unadjusted x.usedPF)
    noDemand := x.baseValues.isEmpty }

/-! ## The record (R102, R118) -/

/-- The rate block of a rate (R118). -/
def Snapshot.block (x : Snapshot) (r : Rate) : RateBlock :=
  { rate := .one r, ep := x.ep (.one r), eq := x.eq (.one r), excess := x.excess r, maxima := x.maxima.get (.one r) }

/-- The rate-A block (R118). -/
def Snapshot.blockAll (x : Snapshot) : RateBlock :=
  { rate := .all, ep := x.ep .all, eq := x.eq .all, excess := x.excessAll, maxima := x.maxima.rA }

/-- The record of a completed computation (R102, R118, R123). -/
def Snapshot.record (x : Snapshot) : PeriodRecord :=
  { number := x.number, start := x.start, stop := x.stop, cause := x.cause, partialMark := x.partialMark,
    ratePresent := x.ratePresent, blocks := (allRates.filter x.ratePresent.has).map x.block, blockA := x.blockAll,
    pfAvg := x.avgPF, pfUsed := x.usedPF, basis := x.settings.basis, base := x.base, floor := x.floor,
    unadjusted := x.unadjusted, adjusted := x.adjusted, flags := x.flags }

/-! ## The input set (R85 to R88, R115, R122) -/

/-- The ratchet list: the ratchet bases of the newest min(H, length) entries, newest first (R87). -/
def ratchetList (h : Nat) (history : List PeriodRecord) : List Nat :=
  (history.reverse.take h).map PeriodRecord.unadjusted

/-- The input set and the close data, as they stand now (R85 to R88, R115, R122). -/
def takeSnapshot (cause : Cause) (s : State) : Snapshot :=
  { energy := s.tot.period, maxima := s.dem.maxima, ratePresent := s.tot.present,
    ratchet := ratchetList s.config.bill.lookback s.per.history, settings := s.config.bill,
    number := s.per.number, start := s.per.start, stop := s.clock.now, cause := cause,
    partialMark := s.per.partialMark }

/-- The history after a push: at most 13 entries, the oldest leaving (R116, R119). -/
def pushHistory (history : List PeriodRecord) (r : PeriodRecord) : List PeriodRecord :=
  (if historyMax ≤ history.length then history.tail else history) ++ [r]

end Sys2Proof.Machine
end

