-- ==== Sys2Proof/Machine/Calendar.lean ====
section
/-! DEFINITION. The Time Base's nominal ends and close dates, and the Rate Schedule (chapter 2). -/

namespace Sys2Proof.Machine

/-! ## Nominal ends and the status of a close (R22, R23, R26, R27) -/

/-- The nominal end of a sub-interval opened at an instant (R22). -/
def nominalEndOf (cfg : Config) (start : Instant) : Instant :=
  match cfg.syncMode with
  | .internal => start.nextMultiple cfg.subLen
  | .external => start.later cfg.subLen

/-- SHORT and LONG at a boundary, a pulse or a forced close, from the elapsed count (R23, R26, R27). -/
def lengthStatus (cfg : Config) (elapsed : Nat) : StatusSet :=
  match cfg.syncMode with
  | .internal =>
    StatusSet.markIf (StatusSet.markIf 0 (elapsed < cfg.subLen) .short) (cfg.subLen < elapsed) .long
  | .external => StatusSet.markIf 0 (elapsed < cfg.subLen - cfg.grace) .short

/-- NOSYNC, and LONG when G is above 0: the status of a sync expiry (R27). -/
def expiryStatus (cfg : Config) : StatusSet :=
  StatusSet.markIf (StatusSet.single .noSync) (0 < cfg.grace) .long

/-- Whether the boundary of the open sub-interval has been reached and not yet taken (R22). DESIGN CHOICE
(assumption 2): it is read from the state as it stands when BOUNDARY_EVENT or the next SECOND_EVENT comes, so
a boundary that a second event has reached is dropped where a sync mode completion or a backward Adjust Time
comes before its row; after the latter it is raised when the nominal end is reached again. -/
def State.boundaryDue (s : State) : Bool :=
  s.config.syncMode == .internal && s.clock.now == s.sub.nominalEnd

/-- Whether the expiry of the open sub-interval has been reached and not yet taken (R27). DESIGN CHOICE
(assumption 2): it is read from the state as it stands when SYNC_EXPIRY or the next SECOND_EVENT comes, so an
expiry that a second event has reached is dropped where the completion of a change to INTERNAL mode or of a
greater grace comes before its row; after the latter it comes at S and the new grace. -/
def State.expiryDue (s : State) : Bool :=
  s.config.syncMode == .external && decide (s.config.subLen + s.config.grace ≤ s.sub.elapsed)

/-! ## Day type and rate (R32 to R34) -/

/-- The weekday of a day, 0 for Monday (R19). -/
def weekdayOf (offset day : Nat) : Nat := (day + offset) % 7

/-- The day type of a day (R34). -/
def dayTypeOf (t : Tables) (offset day : Nat) : Fin 4 :=
  if day ∈ t.holidays then 3 else (weekEntry t.week (weekdayOf offset day)).castSucc

/-- The rate of the last switch point not after a minute of day. A valid list begins at minute 0 and
holds rates 1..6 (R38), so rate 1 for a list that gives none stands in no reachable state. -/
def rateInList (points : List SwitchPoint) (minute : Nat) : Rate :=
  (((points.filter (fun p => p.minute ≤ minute)).getLast?).bind (fun p => Rate.ofNumber p.rate)).getD .r1

/-- The rate the active schedule gives a sub-interval that starts at an instant (R33). -/
def rateAt (t : Tables) (offset : Nat) (start : Instant) : Rate :=
  rateInList (t.switches.get (dayTypeOf t offset start.day)) (start.sec / 60)

/-- The rate for a sub-interval that starts at an instant, by the schedule in effect. -/
def State.rateFor (s : State) (start : Instant) : Rate :=
  rateAt s.store.active s.config.weekdayOffset start

/-- The current day type found anew for the present day (R34). -/
def refreshDayType (s : State) : State :=
  s.setClock { s.clock with dayType := dayTypeOf s.store.active s.config.weekdayOffset s.clock.now.day }

/-! ## The pending schedule (R35 to R40) -/

/-- The pending tables: a copy of the active schedule in state NONE, which the first write starts from
(R35). -/
def Store.pendingTables (st : Store) : Tables :=
  match st.pendSched with
  | .none => st.active
  | .loading t => t
  | .armed t _ => t

/-- A list with a quad's entries written from a position; the first unused entry ends the list there
(R36, R37, R41). -/
def writeQuad {α : Type} (list : List α) (start : Nat) (entries : List (Option α)) : List α :=
  let used := (entries.takeWhile Option.isSome).filterMap id
  if used.length = 4 then list.take start ++ used ++ list.drop (start + 4) else list.take start ++ used

/-- Strictly ascending (R32, R38, R41). -/
def ascending : List Nat → Bool
  | [] => true
  | [_] => true
  | a :: b :: rest => decide (a < b) && ascending (b :: rest)

/-- Whether a switch-point list passes the validation of R38. -/
def validPoints (points : List SwitchPoint) : Bool :=
  (points.map SwitchPoint.minute).head? == some 0 && ascending (points.map SwitchPoint.minute)
    && points.all (fun p => decide (1 ≤ p.rate ∧ p.rate ≤ 6))

/-- Whether pending tables pass the validation of R38. -/
def validTables (t : Tables) : Bool :=
  t.switches.toList.all validPoints && ascending t.holidays

/-- The effective day of an activation due at a sub-interval start at the present day (R39). -/
def State.activationAtStart (s : State) : Option Nat :=
  match s.store.pendSched with
  | .armed _ day => if day ≤ s.clock.now.day then some day else none
  | _ => none

/-- The effective day of an activation due at a midnight event (R39). DESIGN CHOICE (assumption 2): it is
judged by the present day when MIDNIGHT_EVENT is taken, also where a Set Time or an Adjust Time has moved that
day since the midnight. -/
def State.activationAtMidnight (s : State) : Option Nat :=
  match s.store.pendSched with
  | .armed _ day => if day = s.clock.now.day then some day else none
  | _ => none

/-- Steps 1 to 3 and 5 of an activation (R39): the pending tables become active, the state NONE, the
day type is found anew, SCHEDULE_SWITCHED is raised. The marker of step 4 is the caller's. -/
def activateSchedule (s : State) : State :=
  (refreshDayType (s.setStore { s.store with active := s.store.pendingTables, pendSched := .none })).raise
    .scheduleSwitched

/-! ## Close dates (R41 to R43) -/

/-- The close instant of the entry at a position (R41). -/
def Store.closeInstant (st : Store) (i : Nat) : Option Instant :=
  (st.closeDates[i]?).map (fun d => ⟨d, st.config.closeSecond⟩)

/-- The pointer to the first entry whose close instant is later than an instant, in plain order (R43). -/
def Store.pointerAfter (st : Store) (t : Instant) : Option Nat :=
  st.closeDates.findIdx? (fun d => Instant.isAfter ⟨d, st.config.closeSecond⟩ t)

/-- The pointer found anew for the present instant (R43). -/
def refreshPointer (s : State) : State :=
  s.setClock { s.clock with pointer := s.store.pointerAfter s.clock.now }

/-- The close instant the pointer names (R42, R44). -/
def State.pointedInstant (s : State) : Option Instant := s.clock.pointer.bind s.store.closeInstant

/-- The entry after a position, or none (R42). -/
def Store.nextEntry (st : Store) (i : Nat) : Option Nat :=
  if i + 1 < st.closeDates.length then some (i + 1) else none

/-- The close-date detection of a second event: when the present instant is the close instant the
pointer names, a close-date event is raised, to be taken by CLOSE_DATE_EVENT, and the pointer
advances (R42). DESIGN CHOICE (assumption 2): the raised event is counted in `Due`, so it is kept where the
clock is moved or the list rewritten before its row. -/
def detectCloseDate (s : State) : State :=
  match s.clock.pointer with
  | some i =>
    if s.store.closeInstant i = some s.clock.now then
      (s.setClock { s.clock with pointer := s.store.nextEntry i }).setDue { s.due with dates := s.due.dates + 1 }
    else s
  | none => s

/-- Whether a close instant lies after one instant and not after another in plain order (R30). -/
def passedPlain (old new close : Instant) : Bool := close.isAfter old && !close.isAfter new

/-- Whether a close instant fell in an outage, judged by durations from the loss instant (R19, R43). -/
def passedInOutage (loss now close : Instant) : Bool :=
  decide (0 < loss.until close) && decide (loss.until close ≤ loss.until now)

/-! ## The second at the Time Base (R19, R22) -/

/-- The present instant and the elapsed count advance by one second. This is all that a second counted
during supply loss does (R19, R22). -/
def advanceSecond (s : State) : State :=
  (s.setClock { s.clock with now := s.clock.now.tick }).setSub { s.sub with elapsed := s.sub.elapsed + 1 }

/-- What the Time Base does beside: it marks a midnight, sends the pointer back to the first entry at
the midnight that ends day 65535, notes the loss instant, and detects a close date (R19, R42, R186). -/
def timeBaseSecond (s : State) : State :=
  let s1 := advanceSecond s
  let s2 := if s1.clock.now.sec = 0 then s1.setDue { s1.due with midnight := true } else s1
  let s3 :=
    if s2.clock.now = .zero then
      s2.setClock { s2.clock with pointer := if s2.store.closeDates.isEmpty then none else some 0 }
    else s2
  detectCloseDate (s3.setSup { s3.sup with lossInstant := s3.clock.now })

end Sys2Proof.Machine
end

