-- ==== Sys2Proof/Machine/Limits.lean ====
section
/-! DEFINITION. The Limit Monitor: projection, comparators and SHED levels (chapter 8). -/

namespace Sys2Proof.Machine

/-! ## Projection (R148, R149) -/

/-- Whether the ring has at least N − 1 entries (R148, R151). -/
def State.fillReady (s : State) : Bool := decide (s.config.windowLen - 1 ≤ s.dem.ring.length)

/-- The newest N − 1 entries of the ring (R148 step 2). -/
def newestBut (n : Nat) (ring : List Summary) : List Summary := ring.drop (ring.length - (n - 1))

/-- The projection at a second event that forms one (R148). -/
def projectedDemand (s : State) : Projection :=
  let totals := totalize s.config s.partials
  let ring := newestBut s.config.windowLen s.dem.ring
  let ep := sumEp ring + totals.pp.toNat * s.config.subLen / s.sub.elapsed
  let eq := sumEq ring + totals.eq.toNat * s.config.subLen / s.sub.elapsed
  let dp := demandOf ep s.config.windowSeconds
  let dq := demandOf eq s.config.windowSeconds
  { dp := dp, dq := dq, dva := apparentOf dp dq, source := .projected, elapsed := s.sub.elapsed }

/-- The source of a held projection (R149). -/
def State.heldSource (s : State) : ProjectionSource := if s.fillReady then .heldEarly else .heldFill

/-- A projection held from the last window, or 0, 0 and 0 where there is none (R149). -/
def heldDemand (elapsed : Nat) (s : State) : Projection :=
  match s.dem.window with
  | some w => { dp := w.dp, dq := w.dq, dva := w.dva, source := s.heldSource, elapsed := elapsed }
  | none => { dp := 0, dq := 0, dva := 0, source := s.heldSource, elapsed := elapsed }

/-- The projection of a second event outside Hold (R148, R149). -/
def secondProjection (s : State) : Projection :=
  if s.fillReady && decide (30 ≤ s.sub.elapsed) then projectedDemand s else heldDemand s.sub.elapsed s

/-- The monitor with a projection, and with N, S and the fill as it reads them (R157). -/
def setProjection (p : Projection) (s : State) : State :=
  s.setLim { s.lim with projection := p, seenN := s.config.windowLen, seenS := s.config.subLen, seenFill := s.dem.ring.length }

/-- The taking of a Sub-interval Record: the held projection is reset (R149). -/
def resetProjection (s : State) : State := setProjection (heldDemand 0 s) s

/-! ## Comparators (R151 to R153) -/

/-- The value a comparator compares (R151). -/
def comparedValue (q : Basis) (p : Projection) : Nat :=
  match q with
  | .kw => p.dp
  | .kva => p.dva

/-- The release level: threshold less hysteresis (section 8.1). -/
def LimitConfig.release (l : LimitConfig) : Nat := l.threshold - l.hysteresis

/-- The hold timer at an evaluating second event, before the transition (R151). -/
def Comparator.counted (c : Comparator) : Comparator :=
  match c.state with
  | .alert => { c with timer := c.timer - 1 }
  | .releasing => { c with timer := c.timer - 1 }
  | _ => c

/-- The transition of a comparator whose timer has been counted (R152). -/
def Comparator.moved (c : Comparator) (l : LimitConfig) (value : Nat) : Comparator :=
  match c.state with
  | .disabled => c
  | .clear => if l.threshold ≤ value then { state := .alert, timer := l.minHold } else c
  | .alert => if value < l.release then { c with state := .releasing } else c
  | .releasing =>
    if l.release ≤ value then { c with state := .alert }
    else if c.timer = 0 then { c with state := .clear }
    else c

/-- An enabled comparator at an evaluating second event; a disabled one is not evaluated (R151). -/
def Comparator.evaluated (l : LimitConfig) (p : Projection) (c : Comparator) : Comparator :=
  if l.enabled then c.counted.moved l (comparedValue l.quantity p) else c

/-- Whether a comparator went from CLEAR to ALERT (R154). -/
def alerted (before after : Comparator) : Bool := before.state == .clear && after.state == .alert

/-- Whether a comparator went from RELEASING to CLEAR (R154). -/
def released (before after : Comparator) : Bool := before.state == .releasing && after.state == .clear

/-- Whether a comparator holds a SHED output active (R153). -/
def holdsShed (k : Fin 4) (l : LimitConfig) (c : Comparator) : Bool :=
  l.enabled && l.shed == k && (c.state == .alert || c.state == .releasing)

/-- The four SHED levels (R153). -/
def shedLevels (limits : PerFour LimitConfig) (cs : PerFour Comparator) : PerFour Bool :=
  let level := fun k => ((limits.zipWith (holdsShed k) cs).toList).any id
  ⟨level 0, level 1, level 2, level 3⟩

/-- The SHED levels formed again (R153). -/
def refreshShed (s : State) : State :=
  s.setLim { s.lim with shed := shedLevels s.config.limits s.lim.comparators }

/-- The comparators evaluated with the last projection (R151 to R154). -/
def evaluateComparators (s : State) : State :=
  let after := s.config.limits.zipWith (Comparator.evaluated · s.lim.projection ·) s.lim.comparators
  let moved := refreshShed (s.setLim { s.lim with comparators := after })
  ((moved.raiseIf (((s.lim.comparators.zipWith alerted after).toList).any id) .limitAlert).raiseIf
    (((s.lim.comparators.zipWith released after).toList).any id) .limitRelease)

/-- The second event as the monitor takes it (R148 to R155). -/
def monitorSecond (s : State) : State :=
  if s.sup.hold then s.setLim { s.lim with projection := { s.lim.projection with source := .hold } }
  else
    let s1 := setProjection (secondProjection s) s
    if s1.fillReady then evaluateComparators s1 else s1

/-- The monitor at a start (R158). -/
def monitorStarted (s : State) : State :=
  setProjection { dp := 0, dq := 0, dva := 0, source := s.heldSource, elapsed := 0 }
    (s.setLim { s.lim with
      comparators := s.config.limits.map (fun l => { state := if l.enabled then .clear else .disabled, timer := 0 })
      shed := .all false })

/-- One comparator's new settings taken at a Write Limit completion (R147). -/
def applyLimit (k : Fin 4) (l : LimitConfig) (s : State) : State :=
  let s1 := s.setConfig { s.config with limits := s.config.limits.set k l }
  refreshShed (s1.setLim { s1.lim with
    comparators := s1.lim.comparators.set k { state := if l.enabled then .clear else .disabled, timer := 0 } })

end Sys2Proof.Machine
end

