-- ==== Sys2Proof/Machine/Metering.lean ====
section
/-! DEFINITION. The Sample Link Receiver and the Channel Intake (chapter 1). -/

namespace Sys2Proof.Machine

/-! ## Conversion (R10 to R12) -/

/-- The energy of a magnitude, and the residue it leaves (R11). DEDUCED (assumption 12): with SS of 0 or more
the residue becomes 0 whatever it was. -/
def convertCount (k : Nat) (ss : Int) (m r : Nat) : Nat × Nat :=
  if 0 ≤ ss then (m * k * 2 ^ ss.toNat, 0)
  else ((m * k + r) / 2 ^ (-ss).toNat, (m * k + r) % 2 ^ (-ss).toNat)

/-- A channel with a magnitude of one quantity converted and accumulated: the cumulative energy wraps
and the partial saturates (R11, R12). -/
def Channel.accumulate (ch : Channel) (cfg : ChannelConfig) (q : Quantity) (m : Nat) : Channel :=
  let er := convertCount cfg.k cfg.ss m (ch.residue.get q)
  { ch with
    residue := ch.residue.set q er.2
    cum := ch.cum.set q (ch.cum.get q + BitVec.ofNat 64 er.1)
    part := ch.part.set q (satEnergy ((ch.part.get q).toNat + er.1)) }

/-- A magnitude of one quantity taken into a channel. -/
def addCount (c : Fin 4) (q : Quantity) (m : Nat) (s : State) : State :=
  s.setChan c ((s.chans.get c).accumulate (s.config.channels.get c) q m)

/-- One count of an accepted record: its quantity by its sign, its magnitude, and the clipping of
−32768 (R10). A count of 0 is not converted. -/
def takeCount (c : Fin 4) (pos neg : Quantity) (v : BitVec 16) (s : State) : State :=
  if v.toInt = 0 then s
  else if 0 < v.toInt then addCount c pos v.toInt.toNat s
  else if v.toInt = -32768 then addCount c neg 32767 ((s.raise .countClip).markSub .clip)
  else addCount c neg (-v.toInt).toNat s

/-! ## Classification (R2 to R4) -/

/-- The record of a complete frame: six bytes, the first bit sampled first (section 12.2). -/
def recordByte (f : LinkFrame) (i : Nat) : Byte := f.bits.extractLsb' (40 - 8 * i) 8

/-- The sum of the six bytes of a record (R2 step 1). -/
def recordSum (f : LinkFrame) : Nat :=
  (recordByte f 0).toNat + (recordByte f 1).toNat + (recordByte f 2).toNat + (recordByte f 3).toNat
    + (recordByte f 4).toNat + (recordByte f 5).toNat

/-- The channel number field of a record, 0..15 (section 12.2). -/
def recordChannel (f : LinkFrame) : Nat := (recordByte f 0).toNat / 16

/-- The sequence number of a record (section 12.2). -/
def recordSequence (f : LinkFrame) : BitVec 4 := (recordByte f 0).extractLsb' 0 4

/-- The active count of a record. -/
def recordP (f : LinkFrame) : BitVec 16 := recordByte f 1 ++ recordByte f 2

/-- The reactive count of a record. -/
def recordQ (f : LinkFrame) : BitVec 16 := recordByte f 3 ++ recordByte f 4

/-- Whether ENABLE is active after the link polarity (R3). -/
def linkEnabled (pol : Polarity) (len : Bool) : Bool :=
  match pol with
  | .activeHigh => len
  | .activeLow => !len

/-- A frame or record dropped with LINK_CHECK in both units and CHECK (R1, R2). -/
def dropWithCheck (s : State) : State := (s.raise .linkCheck).markSub .check

/-- Whether a record's sequence number is a gap: the channel holds an expected number, in ACTIVE or
STALLED, and it differs (R4). A channel that stalled out of WAITING holds a free one (assumption 16). -/
def isGap (ch : Channel) (seq : BitVec 4) : Bool :=
  (ch.state == .active || ch.state == .stalled) && ch.expected != some seq

/-- The sequence check of a skip or accepted record, with the stall timer and the state (R4, R6). -/
def hearRecord (c : Fin 4) (seq : BitVec 4) (s : State) : State :=
  let s1 := if isGap (s.chans.get c) seq then (s.raise .seqGap).markSub .gap else s
  s1.setChan c { s1.chans.get c with state := .active, expected := some (seq + 1), timer := 0 }

/-- A skip or accepted record of a channel (R3). -/
def useRecord (c : Fin 4) (f : LinkFrame) (s : State) : State :=
  let s1 := hearRecord c (recordSequence f) s
  if f.lval then
    takeCount c .lagging .leading (recordQ f) (takeCount c .impActive .expActive (recordP f) s1)
  else s1.markSub .skip

/-- A complete record through the checks of R2 and the classification of R3. -/
def takeRecord (f : LinkFrame) (s : State) : State :=
  if recordSum f % 256 ≠ 255 then dropWithCheck s
  else
    match fourOfByte (BitVec.ofNat 8 (recordChannel f)) with
    | none => dropWithCheck s
    | some c =>
      if (s.chans.get c).state = .off then s
      else if linkEnabled s.config.polarity f.len then useRecord c f s
      else s

/-- Whether the receiver takes a frame at all: it takes none in Hold or outside the running main
domain, none that began before, and a frame has at least one bit (R1, R184). -/
def takesFrame (f : LinkFrame) (s : State) : Bool :=
  s.running && !s.sup.hold && !f.straddles && f.nbits != 0

/-- The arrival of a frame (R1). -/
def takeFrame (f : LinkFrame) (s : State) : State :=
  if takesFrame f s then (if f.nbits = 48 then takeRecord f s else dropWithCheck s) else s

/-! ## Stall timers (R7 to R9) -/

/-- The expected number held in STALLED: the one held before the stall (R4). DESIGN CHOICE (assumption
16): out of WAITING, where the channel held none and R4 names none, it is the free value `drawn`. -/
def Channel.expectedStalled (ch : Channel) (drawn : BitVec 4) : Option (BitVec 4) :=
  match ch.state with
  | .waiting => some drawn
  | _ => ch.expected

/-- The free values drawn once a channel has stalled: one more out of WAITING (assumption 16). -/
def Channel.drawnStalled (ch : Channel) (n : Nat) : Nat :=
  match ch.state with
  | .waiting => n + 1
  | _ => n

/-- A channel entering STALLED at a second event, its timer counted, with LINK_FAULT and STALL (R7). -/
def enterStalled (c : Fin 4) (s : State) : State :=
  let ch := s.chans.get c
  let s1 := s.setChan c
    { ch with state := .stalled, expected := ch.expectedStalled (unheardExpected s.free), timer := ch.timer + 1 }
  ((s1.setFree (ch.drawnStalled s.free)).raise .linkFault).markSub .stall

/-- The second event as a channel takes it: in WAITING or ACTIVE the timer counts, and a timer that
is then at or above the stall timeout puts the channel in STALLED. -/
def stallSecond (c : Fin 4) (s : State) : State :=
  let ch := s.chans.get c
  if ch.state = .waiting ∨ ch.state = .active then
    if s.config.stallTimeout ≤ ch.timer + 1 then enterStalled c s
    else s.setChan c { ch with timer := ch.timer + 1 }
  else s

/-- Whether the next second of a channel would stall it. -/
def stallsNext (cfg : Config) (ch : Channel) : Bool :=
  (ch.state == .waiting || ch.state == .active) && decide (cfg.stallTimeout ≤ ch.timer + 1)

/-- The second event at the stall timer of a channel: it counts here, unless it would stall the
channel; then the whole is left due to STALL_TIMEOUT (assumption 2). -/
def countStall (c : Fin 4) (s : State) : State :=
  if stallsNext s.config (s.chans.get c) then s.setDue { s.due with stall := s.due.stall.set c true }
  else stallSecond c s

/-- STALL_TIMEOUT where it is due: the channel takes the second event left to it. DESIGN CHOICE (assumption 2):
it is judged by the channel and the stall timeout that stand when this row is taken, in Hold too, since the
second event was raised before Hold entry. -/
def takeStall (c : Fin 4) (s : State) : State :=
  if s.due.stall.get c then stallSecond c (s.setDue { s.due with stall := s.due.stall.set c false }) else s

/-! ## Channel configuration and starts (R13, R15, R18) -/

/-- A channel with its four residues cleared (R13). -/
def Channel.clearResidues (ch : Channel) : Channel := { ch with residue := .all 0 }

/-- A channel at the completion of a change of its enable (R6, R15). -/
def Channel.enableChanged (ch : Channel) (on : Bool) : Channel :=
  { ch with state := if on then .waiting else .off, expected := none, timer := 0 }

/-- A channel at a warm start or a Restart: WAITING or OFF, timers, sequence and residues cleared,
energies kept (R18). -/
def Channel.started (ch : Channel) (cfg : ChannelConfig) : Channel :=
  { ch with state := if cfg.enabled then .waiting else .off, expected := none, timer := 0, residue := .all 0 }

/-- All four channels at a warm start or a Restart (R18). -/
def channelsStarted (s : State) : State :=
  s.setChans (s.chans.zipWith Channel.started s.config.channels)

end Sys2Proof.Machine
end

