-- ==== Sys2Proof/Machine/Operands.lean ====
section
/-! DEFINITION. The operands of the commands: byte order, the command codes of section 12.3 and the
numbers of the configuration items of section 12.8 with their ranges. -/

namespace Sys2Proof.Machine

/-! ## Byte order (scope section 3.5: most significant byte first) -/

/-- A number in `n` bytes, most significant first; what does not fit is cut off at the top. -/
def beBytes (n v : Nat) : List Byte :=
  match n with
  | 0 => []
  | k + 1 => BitVec.ofNat 8 (v / 256 ^ k) :: beBytes k v

/-- The argument byte at a position; the framing check has passed when it is read. -/
def argByte (args : List Byte) (i : Nat) : Byte := args.getD i 0

/-- Two argument bytes. -/
def arg16 (args : List Byte) (i : Nat) : BitVec 16 := argByte args i ++ argByte args (i + 1)

/-- Three argument bytes. -/
def arg24 (args : List Byte) (i : Nat) : BitVec 24 := arg16 args i ++ argByte args (i + 2)

/-- Four argument bytes. -/
def arg32 (args : List Byte) (i : Nat) : BitVec 32 := arg16 args i ++ arg16 args (i + 2)

/-! ## Command codes (section 12.3) -/

/-- The classes of R160. -/
inductive CommandClass where
  | read
  | port
  | operation
  | config
deriving DecidableEq, Repr

/-- The class of a command code, or none for an unknown code (R160, R162). -/
def commandClass (code : Byte) : Option CommandClass :=
  if 0x10 ≤ code.toNat ∧ code.toNat ≤ 0x23 then some .read
  else if 0x30 ≤ code.toNat ∧ code.toNat ≤ 0x34 then some .port
  else if 0x40 ≤ code.toNat ∧ code.toNat ≤ 0x49 then some .operation
  else if 0x50 ≤ code.toNat ∧ code.toNat ≤ 0x55 then some .config
  else none

/-- The number of argument bytes of a command code (section 12.3). -/
def commandArgs (code : Byte) : Nat :=
  match code.toNat with
  | 0x12 => 2
  | 0x14 => 1
  | 0x15 => 1
  | 0x18 => 1
  | 0x19 => 1
  | 0x1B => 1
  | 0x1E => 2
  | 0x1F => 6
  | 0x20 => 9
  | 0x23 => 1
  | 0x33 => 2
  | 0x41 => 2
  | 0x42 => 14
  | 0x43 => 9
  | 0x44 => 7
  | 0x45 => 9
  | 0x46 => 2
  | 0x49 => 14
  | 0x50 => 6
  | 0x51 => 5
  | 0x54 => 1
  | 0x55 => 1
  | _ => 0

/-- The whole bytes a write-class transaction carried after its command byte. -/
def framedBytes (fr : Framing) (code : Byte) : Nat :=
  match fr with
  | .whole => commandArgs code
  | .broken n => n

/-- Whether a write-class command is accepted on a port (R160). -/
def acceptedOn (code : Byte) (p : Port) : Bool :=
  match commandClass code with
  | some .read => true
  | some .port => code != 0x34 || p == .utility
  | some .operation => if code = 0x49 then p == .customer else p == .utility
  | some .config => p == .utility
  | none => true

/-! ## Codes of values, in the order the owning rule lists them (section 12.8) -/

/-- The code of a result (R191). -/
def Result.code (r : Result) : Byte :=
  match r with
  | .ok => 0
  | .busy => 1
  | .denied => 2
  | .locked => 3
  | .malformed => 4
  | .range => 5
  | .invalid => 6
  | .lockout => 7
  | .hold => 8

/-- The code of a rate set; rate A is 0x0A (section 12.1). -/
def RateSet.code (r : RateSet) : Nat :=
  match r with
  | .one r => r.number
  | .all => 0x0A

/-- The rate set a code names (sections 12.1 and 12.3). -/
def RateSet.ofCode (b : Byte) : Option RateSet :=
  if b = 0x0A then some .all else (Rate.ofNumber b.toNat).map .one

def Weight.code (w : Weight) : Nat := match w with | .add => 0 | .subtract => 1 | .omit => 2
def Polarity.code (x : Polarity) : Nat := match x with | .activeHigh => 0 | .activeLow => 1
def SyncMode.code (x : SyncMode) : Nat := match x with | .internal => 0 | .external => 1
def ReactiveMode.code (x : ReactiveMode) : Nat := match x with | .lagOnly => 0 | .lagPlusLead => 1 | .lagMinusLead => 2
def RegisterMode.code (x : RegisterMode) : Nat := match x with | .rollover => 0 | .saturate => 1
def Basis.code (x : Basis) : Nat := match x with | .kw => 0 | .kva => 1
def LockMode.code (x : LockMode) : Nat := match x with | .opened => 0 | .guarded => 1 | .powerLocked => 2 | .permanent => 3
def ChannelState.code (x : ChannelState) : Nat := match x with | .off => 0 | .waiting => 1 | .active => 2 | .stalled => 3
def ComparatorState.code (x : ComparatorState) : Nat := match x with | .disabled => 0 | .clear => 1 | .alert => 2 | .releasing => 3
def ProjectionSource.code (x : ProjectionSource) : Nat := match x with | .projected => 0 | .heldEarly => 1 | .heldFill => 2 | .hold => 3
def CursorState.code (x : CursorState) : Nat := match x with | .atRecord => 0 | .atEnd => 1 | .atEdge => 2 | .overrun => 3
def Direction.code (x : Direction) : Nat := match x with | .forward => 0 | .backward => 1
def Cause.code (x : Cause) : Nat := match x with | .command => 0 | .date => 1 | .button => 2 | .dateLate => 3 | .preview => 4
def StartCause.code (x : StartCause) : Nat := match x with | .cold => 0 | .warm => 1 | .restart => 2

/-- A flag's code: 0 clear, 1 set. DESIGN CHOICE (assumption 9) where it is a byte of its own in a reply. -/
def boolCode (b : Bool) : Nat := if b then 1 else 0

/-- The code of an item that takes "ON or OFF" in that order: ON 0, OFF 1 (R71, R105, R106 with
section 12.8). DEDUCED; see assumption 8. -/
def onOffCode (b : Bool) : Nat := if b then 0 else 1

/-- The switch a code names in the order "ON or OFF". -/
def onOffOfCode (v : Nat) : Option Bool := match v with | 0 => some true | 1 => some false | _ => none

/-- The switch a code names in the order "OFF, ON" or "DISABLED, ENABLED". -/
def offOnOfCode (v : Nat) : Option Bool := match v with | 0 => some false | 1 => some true | _ => none

def Weight.ofCode (v : Nat) : Option Weight := match v with | 0 => some .add | 1 => some .subtract | 2 => some .omit | _ => none
def Polarity.ofCode (v : Nat) : Option Polarity := match v with | 0 => some .activeHigh | 1 => some .activeLow | _ => none
def SyncMode.ofCode (v : Nat) : Option SyncMode := match v with | 0 => some .internal | 1 => some .external | _ => none
def ReactiveMode.ofCode (v : Nat) : Option ReactiveMode := match v with | 0 => some .lagOnly | 1 => some .lagPlusLead | 2 => some .lagMinusLead | _ => none
def RegisterMode.ofCode (v : Nat) : Option RegisterMode := match v with | 0 => some .rollover | 1 => some .saturate | _ => none
def Basis.ofCode (v : Nat) : Option Basis := match v with | 0 => some .kw | 1 => some .kva | _ => none
def LockMode.ofCode (v : Nat) : Option LockMode := match v with | 0 => some .opened | 1 => some .guarded | 2 => some .powerLocked | 3 => some .permanent | _ => none

/-! ## Configuration items (section 12.8) -/

/-- The item an item number names. The read-only items stand apart (R169 step 3). -/
inductive ItemName where
  | channelK (c : Fin 4)
  | channelSS (c : Fin 4)
  | channelEnable (c : Fin 4)
  | channelWeight (c : Fin 4)
  | polarity
  | stallTimeout
  | calibrationLock (c : Fin 4)
  | subLen
  | syncMode
  | grace
  | weekdayOffset
  | closeSecond
  | reactive
  | digits
  | registerMode
  | windowLen
  | excludeFlagged
  | pickupThreshold
  | pickupLength
  | basis
  | billable
  | ratchetPct
  | lookback
  | contractMin
  | excessOn
  | ratio
  | pfAdjustOn
  | pfRef
  | pfFloor
  | lockoutLen
  | logMask
  | limit (k : Fin 4) (j : Fin 6)
  | lockMode
deriving DecidableEq, Repr

/-- The setting number of a comparator item, or none above 5. -/
def sixOfNat (n : Nat) : Option (Fin 6) :=
  match n with
  | 0 => some 0
  | 1 => some 1
  | 2 => some 2
  | 3 => some 3
  | 4 => some 4
  | 5 => some 5
  | _ => none

/-- The item of an item number, or none where it is not in the numbering (section 12.8). -/
def ItemName.ofNumber (n : BitVec 16) : Option ItemName :=
  match n.toNat / 16, fourOfByte (BitVec.ofNat 8 (n.toNat % 16)) with
  | 0x10, some c => some (.channelK c)
  | 0x11, some c => some (.channelSS c)
  | 0x12, some c => some (.channelEnable c)
  | 0x13, some c => some (.channelWeight c)
  | 0x15, some c => some (.calibrationLock c)
  | _, _ =>
    match n.toNat with
    | 0x0140 => some .polarity
    | 0x0141 => some .stallTimeout
    | 0x0200 => some .subLen
    | 0x0201 => some .syncMode
    | 0x0202 => some .grace
    | 0x0203 => some .weekdayOffset
    | 0x0204 => some .closeSecond
    | 0x0400 => some .reactive
    | 0x0401 => some .digits
    | 0x0402 => some .registerMode
    | 0x0500 => some .windowLen
    | 0x0501 => some .excludeFlagged
    | 0x0502 => some .pickupThreshold
    | 0x0503 => some .pickupLength
    | 0x0600 => some .basis
    | 0x0601 => some .billable
    | 0x0602 => some .ratchetPct
    | 0x0603 => some .lookback
    | 0x0604 => some .contractMin
    | 0x0605 => some .excessOn
    | 0x0606 => some .ratio
    | 0x0607 => some .pfAdjustOn
    | 0x0608 => some .pfRef
    | 0x0609 => some .pfFloor
    | 0x060A => some .lockoutLen
    | 0x0700 => some .logMask
    | 0x0900 => some .lockMode
    | _ =>
      match n.toNat / 16, sixOfNat (n.toNat % 16) with
      | 0x80, some j => some (.limit 0 j)
      | 0x81, some j => some (.limit 1 j)
      | 0x82, some j => some (.limit 2 j)
      | 0x83, some j => some (.limit 3 j)
      | _, _ => none

/-- Clamped to a..b (scope section 3.5). -/
def clampTo (a b v : Nat) : Nat := max a (min b v)

/-- The values S takes (R24). -/
def subLenValues : List Nat := [60, 120, 180, 300, 600, 900, 1800, 3600]

/-- A value within range, or none. -/
def inRange (lo hi v : Nat) : Option Nat := if lo ≤ v ∧ v ≤ hi then some v else none

/-- The checked setting for an item and its value field: none where the item's rule refuses the value
RANGE (or the item is read-only), and the clamped value where it clamps (R169 step 5). SS is the low
byte of the field, signed (section 12.8). -/
def Setting.checked (cfg : Config) (item : ItemName) (value : BitVec 32) : Option Setting :=
  let v := value.toNat
  match item with
  | .channelK c => (inRange 1 65535 v).map (.channelK c)
  | .channelSS c =>
    let ss := (value.extractLsb' 0 8).toInt
    if -6 ≤ ss ∧ ss ≤ 6 then some (.channelSS c ss) else none
  | .channelEnable c => (offOnOfCode v).map (.channelEnable c)
  | .channelWeight c => (Weight.ofCode v).map (.channelWeight c)
  | .polarity => (Polarity.ofCode v).map .polarity
  | .stallTimeout => some (.stallTimeout (clampTo 1 60 v))
  | .subLen => if v ∈ subLenValues ∧ v * cfg.windowLen ≤ 3600 then some (.subLen v) else none
  | .syncMode => (SyncMode.ofCode v).map .syncMode
  | .grace => some (.grace (clampTo 0 60 v))
  | .weekdayOffset => (inRange 0 6 v).map .weekdayOffset
  | .closeSecond => (inRange 0 86399 v).map .closeSecond
  | .reactive => (ReactiveMode.ofCode v).map .reactive
  | .digits => (inRange 6 12 v).map .digits
  | .registerMode => (RegisterMode.ofCode v).map .registerMode
  | .windowLen => if 1 ≤ v ∧ v ≤ 15 ∧ v * cfg.subLen ≤ 3600 then some (.windowLen v) else none
  | .excludeFlagged => (onOffOfCode v).map .excludeFlagged
  | .pickupThreshold => some (.pickupThreshold (clampTo 0 65535 v))
  | .pickupLength => some (.pickupLength (clampTo 0 63 v))
  | .basis => (Basis.ofCode v).map .basis
  | .billable => (inRange 0 63 v).map (fun m => .billable (BitVec.ofNat 6 m))
  | .ratchetPct => some (.ratchetPct (clampTo 0 100 v))
  | .lookback => some (.lookback (clampTo 0 12 v))
  | .contractMin => some (.contractMin v)
  | .excessOn => (onOffOfCode v).map .excessOn
  | .ratio => (inRange 0 262143 v).map .ratio
  | .pfAdjustOn => (onOffOfCode v).map .pfAdjustOn
  | .pfRef => some (.pfRef (clampTo 5000 10000 v))
  | .pfFloor => some (.pfFloor (clampTo 1000 10000 v))
  | .lockoutLen => some (.lockoutLen (clampTo 0 86400 v))
  | .logMask => (inRange 0 15 v).map (fun m => .logMask (BitVec.ofNat 4 m))
  | .calibrationLock _ => none
  | .limit _ _ => none
  | .lockMode => none

/-- Whether an item is written by another command than Write Config Item (R169 step 3). -/
def ItemName.readOnly (item : ItemName) : Bool :=
  match item with
  | .calibrationLock _ => true
  | .limit _ _ => true
  | .lockMode => true
  | _ => false

/-- Whether a channel's calibration lock refuses an item (R14, R169 step 4). -/
def ItemName.calibrationLocked (cfg : Config) (item : ItemName) : Bool :=
  match item with
  | .channelK c => (cfg.channels.get c).calLock
  | .channelSS c => (cfg.channels.get c).calLock
  | _ => false

/-- The value of an item in effect, as its four-byte field (R169, section 12.8). A negative SS fills
the low byte and leaves the upper three 0; see assumption 8. -/
def ItemName.value (cfg : Config) (item : ItemName) : Nat :=
  match item with
  | .channelK c => (cfg.channels.get c).k
  | .channelSS c => (BitVec.ofInt 8 (cfg.channels.get c).ss).toNat
  | .channelEnable c => boolCode (cfg.channels.get c).enabled
  | .channelWeight c => (cfg.channels.get c).weight.code
  | .polarity => cfg.polarity.code
  | .stallTimeout => cfg.stallTimeout
  | .calibrationLock c => boolCode (cfg.channels.get c).calLock
  | .subLen => cfg.subLen
  | .syncMode => cfg.syncMode.code
  | .grace => cfg.grace
  | .weekdayOffset => cfg.weekdayOffset
  | .closeSecond => cfg.closeSecond
  | .reactive => cfg.reactive.code
  | .digits => cfg.digits
  | .registerMode => cfg.registerMode.code
  | .windowLen => cfg.windowLen
  | .excludeFlagged => onOffCode cfg.excludeFlagged
  | .pickupThreshold => cfg.pickupThreshold
  | .pickupLength => cfg.pickupLength
  | .basis => cfg.bill.basis.code
  | .billable => cfg.bill.billable.toNat
  | .ratchetPct => cfg.bill.ratchetPct
  | .lookback => cfg.bill.lookback
  | .contractMin => cfg.bill.contractMin
  | .excessOn => onOffCode cfg.bill.excessOn
  | .ratio => cfg.bill.ratio
  | .pfAdjustOn => onOffCode cfg.bill.pfAdjustOn
  | .pfRef => cfg.bill.pfRef
  | .pfFloor => cfg.bill.pfFloor
  | .lockoutLen => cfg.lockoutLen
  | .logMask => cfg.logMask.toNat
  | .limit k j =>
    match j with
    | 0 => boolCode (cfg.limits.get k).enabled
    | 1 => (cfg.limits.get k).quantity.code
    | 2 => (cfg.limits.get k).threshold
    | 3 => (cfg.limits.get k).hysteresis
    | 4 => (cfg.limits.get k).minHold
    | 5 => (cfg.limits.get k).shed.val
  | .lockMode => cfg.lockMode.code

end Sys2Proof.Machine
end

