-- ==== Sys2Proof/Machine/Profile.lean ====
section
/-! DEFINITION. The Profile Log: building records, writing and overwriting, the holding slot, the
cursors, and the clear (chapter 7, section 12.7). -/

namespace Sys2Proof.Machine

/-! ## Records (R127 to R131) -/

/-- The length of a record in words: a header of four and its payload (R128). -/
def LogBody.words (b : LogBody) : Nat := 4 + b.payload.length

/-- The words a list of records occupies (R127). -/
def wordsOf (rs : List LogRecord) : Nat := (rs.map (fun r => r.body.words)).sum

/-- Whether a list of records holds a sequence. -/
def heldIn (rs : List LogRecord) (q : Seq) : Bool := rs.any (fun r => r.sequence == q)

/-- A logged value in whole Wh, and the carry it leaves (R130). -/
def logWh (v : Energy) (carry : Nat) : LogWord × Nat :=
  if 4294967295 < (v.toNat + carry) / 1000 then (0xFFFFFFFF, 0)
  else (BitVec.ofNat 32 ((v.toNat + carry) / 1000), (v.toNat + carry) % 1000)

/-- The four words of a block and the carries after it (R129, R130). -/
def logBlock (v : Quad Energy) (carry : Quad Nat) : List LogWord × Quad Nat :=
  let x := Quad.zipWith logWh v carry
  ([x.pp.1, x.pm.1, x.qp.1, x.qm.1], ⟨x.pp.2, x.pm.2, x.qp.2, x.qm.2⟩)

/-- A channel's block where the mask has the channel, and nothing where it has not (R129, R130). -/
def channelBlock (mask : BitVec 4) (c : Fin 4) (v : Quad Energy) (carry : Quad Nat) : List LogWord × Quad Nat :=
  if mask.getLsbD c.val then logBlock v carry else ([], carry)

/-- The totalized block of a Sub-interval Record: P+, P−, Q+ and Q− (R129). -/
def SubRecord.loggedTotals (r : SubRecord) : Quad Energy :=
  ⟨r.totals.pp, r.totals.pm, r.totals.qp, r.totals.qm⟩

/-- The words of a DATA record after its header, and the carries it leaves (R129, R130). -/
def dataPayload (mask : BitVec 4) (r : SubRecord) (k : Carries) : List LogWord × Carries :=
  let t := logBlock r.loggedTotals k.totals
  let b0 := channelBlock mask 0 r.parts.c0 k.channels.c0
  let b1 := channelBlock mask 1 r.parts.c1 k.channels.c1
  let b2 := channelBlock mask 2 r.parts.c2 k.channels.c2
  let b3 := channelBlock mask 3 r.parts.c3 k.channels.c3
  (t.1 ++ b0.1 ++ b1.1 ++ b2.1 ++ b3.1, ⟨t.2, ⟨b0.2, b1.2, b2.2, b3.2⟩⟩)

/-- The DATA record of a Sub-interval Record (R128, R129). -/
def dataBody (mask : BitVec 4) (r : SubRecord) (k : Carries) : LogBody :=
  { kind := .data mask, rate := r.rate, status := r.status, stamp := r.stop, payload := (dataPayload mask r k).1 }

/-! ## Writing (R133 to R135, R142) -/

/-- The records that stay when room is made for a record of `need` words: whole records leave from the
oldest end while the words would exceed the store (R133 step 1). -/
def trimFor (need : Nat) : List LogRecord → List LogRecord
  | [] => []
  | r :: rest => if logWords < wordsOf (r :: rest) + need then trimFor need rest else r :: rest

/-- A port at a write: a cursor AT_RECORD on a removed record enters OVERRUN and LOG_OVERRUN is raised
on that port; a cursor AT_END at the new record's sequence becomes AT_RECORD on it (R134, R135). -/
def PortState.afterWrite (x : PortState) (before kept : List LogRecord) (new : Seq) : PortState :=
  match x.cursor.state with
  | .atRecord =>
    if heldIn before x.cursor.position && !heldIn kept x.cursor.position then
      { x with cursor := { x.cursor with state := .overrun }, attn := x.attn.raise .logOverrun }
    else x
  | .atEnd => if x.cursor.position = new then { x with cursor := { x.cursor with state := .atRecord } } else x
  | _ => x

/-- A record written to the log (R133). -/
def writeRecord (b : LogBody) (s : State) : State :=
  let kept := trimFor b.words s.log.records
  let s1 := s.setLog { s.log with
    records := kept ++ [{ sequence := s.log.nextSeq, body := b }], nextSeq := s.log.nextSeq + 1 }
  (s1.setUtil (s1.util.afterWrite s.log.records kept s.log.nextSeq)).setCust
    (s1.cust.afterWrite s.log.records kept s.log.nextSeq)

/-- A record built during a clear: it takes the holding slot, with GAP when one was lost (R142). -/
def slotRecord (b : LogBody) (s : State) : State :=
  s.setLog { s.log with slot := some { b with status := b.status.markIf s.log.slot.isSome .gap } }

/-- A record that comes to the log: to the holding slot during a clear, and otherwise written (R133,
R142). -/
def logRecord (b : LogBody) (s : State) : State :=
  if s.log.clearBusy then slotRecord b s else writeRecord b s

/-- A marker at an instant, with the rate of the open sub-interval (R128, R131). -/
def markerBody (kind : RecordKind) (stamp : Instant) (payload : List Nat) (s : State) : LogBody :=
  { kind := kind, rate := s.sub.rate, status := 0, stamp := stamp, payload := payload.map (BitVec.ofNat 32) }

/-- A marker written at the present instant (R131). -/
def logMarker (kind : RecordKind) (payload : List Nat) (s : State) : State :=
  logRecord (markerBody kind s.clock.now payload s) s

/-- The DATA record of a Sub-interval Record written, and the carries kept (R129, R130). -/
def logData (r : SubRecord) (s : State) : State :=
  logRecord (dataBody s.config.logMask r s.log.carries)
    (s.setLog { s.log with carries := (dataPayload s.config.logMask r s.log.carries).2 })

/-- The marker type's number (R192). -/
def RecordKind.typeCode (k : RecordKind) : Nat :=
  match k with
  | .data mask => mask.toNat
  | .close => 1
  | .timeSet => 2
  | .outage => 3
  | .schedule => 4
  | .config => 5
  | .restart => 6
  | .cleared => 7

/-- The kind's number: DATA 1, MARKER 2 (R192). -/
def RecordKind.kindCode (k : RecordKind) : Nat :=
  match k with
  | .data _ => 1
  | _ => 2

/-- The first word of a record's header (R192). -/
def LogBody.firstWord (b : LogBody) : LogWord :=
  BitVec.ofNat 4 b.kind.kindCode ++ BitVec.ofNat 5 b.words ++ BitVec.ofNat 4 b.kind.typeCode
    ++ BitVec.ofNat 3 b.rate.number ++ (0#1) ++ b.status

/-- A record's words, header first (R192). -/
def LogRecord.toWords (r : LogRecord) : List LogWord :=
  [r.body.firstWord, r.sequence, BitVec.ofNat 32 r.body.stamp.day, BitVec.ofNat 32 r.body.stamp.sec] ++ r.body.payload

/-! ## Cursors (R134 to R140) -/

/-- Whether a sequence is in a window (section 7.3). -/
def inWindow (w : Option (Seq × Seq)) (q : Seq) : Bool :=
  match w with
  | none => true
  | some (low, high) => decide ((q - low).toNat ≤ (high - low).toNat)

/-- The oldest record held that is in a window. -/
def ProfileLog.oldestIn (l : ProfileLog) (w : Option (Seq × Seq)) : Option Seq :=
  (l.records.find? (fun r => inWindow w r.sequence)).map LogRecord.sequence

/-- The newest record held that is in a window. -/
def ProfileLog.newestIn (l : ProfileLog) (w : Option (Seq × Seq)) : Option Seq :=
  (l.records.reverse.find? (fun r => inWindow w r.sequence)).map LogRecord.sequence

/-- The newest record held, or the next sequence in an empty log: where an AT_EDGE placement stands
(R136, R139, R140). -/
def ProfileLog.edge (l : ProfileLog) : Seq := (l.newestIn none).getD l.nextSeq

/-- A cursor with no record held in its window: AT_END at the next sequence where that is in the
window, and AT_EDGE otherwise (R139, R140). -/
def Cursor.placeNowhere (c : Cursor) (l : ProfileLog) : Cursor :=
  if inWindow c.window l.nextSeq then { c with position := l.nextSeq, state := .atEnd }
  else { c with position := l.edge, state := .atEdge }

/-- A cursor placed on a record, or nowhere where none is given. -/
def Cursor.placeOn (c : Cursor) (l : ProfileLog) (q : Option Seq) : Cursor :=
  match q with
  | some q => { c with position := q, state := .atRecord }
  | none => c.placeNowhere l

/-- The first record in the cursor's direction and window: the oldest FORWARD, the newest BACKWARD
(R136, R140). -/
def Cursor.firstOf (c : Cursor) (l : ProfileLog) : Option Seq :=
  match c.dir with
  | .forward => l.oldestIn c.window
  | .backward => l.newestIn c.window

/-- Whether a sequence that is not held lies before the oldest record (R139). -/
def ProfileLog.isBefore (l : ProfileLog) (q : Seq) : Bool :=
  match l.oldestIn none with
  | some o => decide (2 ^ 31 ≤ (q - o).toNat)
  | none => false

/-- The record a sequence target names: itself where it is held, and otherwise the nearest record held
in the window (R139). -/
def Cursor.nearest (c : Cursor) (l : ProfileLog) (q : Seq) : Option Seq :=
  if heldIn l.records q then some q
  else if l.isBefore q then l.oldestIn c.window
  else l.newestIn c.window

/-- A cursor moved out of OVERRUN by Read Profile (R136). -/
def Cursor.recovered (c : Cursor) (l : ProfileLog) : Cursor :=
  match c.firstOf l with
  | some q => { c with position := q, state := .atRecord }
  | none => { c with position := l.edge, state := .atEdge }

/-- A cursor after the record at its position has been returned (R137). -/
def Cursor.stepped (c : Cursor) (l : ProfileLog) : Cursor :=
  match c.dir with
  | .forward =>
    if c.window.any (fun w => w.2 == c.position) then { c with state := .atEdge }
    else if l.newestIn none = some c.position then { c with position := l.nextSeq, state := .atEnd }
    else { c with position := c.position + 1 }
  | .backward =>
    if c.window.any (fun w => w.1 == c.position) then { c with state := .atEdge }
    else if l.oldestIn none = some c.position then { c with state := .atEdge }
    else { c with position := c.position - 1 }

/-- Up to `n` records returned from a cursor, each with the cursor after it (R137). -/
def readRecords (l : ProfileLog) : Nat → Cursor → List (LogRecord × Cursor)
  | 0, _ => []
  | n + 1, c =>
    if c.state = .atRecord then
      match l.records.find? (fun r => r.sequence == c.position) with
      | some r => (r, c.stepped l) :: readRecords l n (c.stepped l)
      | none => []
    else []

/-- The number of records Read Profile asks for: 0 is taken as 1, above 16 as 16 (R136). -/
def profileCount (n : Byte) : Nat := clampTo 1 16 n.toNat

/-- The cursor left after the records returned. -/
def lastCursor (start : Cursor) (steps : List (LogRecord × Cursor)) : Cursor :=
  (steps.getLast?.map Prod.snd).getD start

/-- The cursor from which Read Profile reads (R136). -/
def Cursor.readStart (c : Cursor) (l : ProfileLog) : Cursor :=
  if c.state = .overrun then c.recovered l else c

/-- The status byte of a Read Profile of a log that is not empty: OK 0, AT_END 1, AT_EDGE 2, GAP 3
(R137, R191). -/
def profileStatus (found : Cursor) (n : Nat) (start : Cursor) (steps : List (LogRecord × Cursor)) : Byte :=
  if found.state = .overrun then 3
  else if steps.length = n then 0
  else if (lastCursor start steps).state = .atEnd then 1
  else 2

/-- The reply bytes up to the last one of each record, after the tag, the result and the presence
byte, and the cursor after each (R138, R191). -/
def advanceSteps (before : Nat) : List (LogRecord × Cursor) → List (Nat × Cursor)
  | [] => []
  | (r, c) :: rest => (before + 4 * r.body.words, c) :: advanceSteps (before + 4 * r.body.words) rest

/-- The cursor a Read Profile leaves when `k` reply bytes were clocked out: that after the last record
whose final byte was among them, or none (R138). -/
def reachedCursor (steps : List (Nat × Cursor)) (k : Nat) : Option Cursor :=
  ((steps.filter (fun x => x.1 ≤ k)).getLast?).map Prod.snd

/-- A port's cursor placed at the rise of select, and checked against the log as it stands there: a
record removed meanwhile gives OVERRUN and LOG_OVERRUN; an AT_END whose sequence has been given to a
record becomes AT_RECORD on it (R135, R138). -/
def placeChecked (p : Port) (c : Cursor) (s : State) : State :=
  let x := s.port p
  let lost : State :=
    s.setPort p { x with cursor := { c with state := .overrun }, attn := x.attn.raise .logOverrun }
  match c.state with
  | .atRecord => if heldIn s.log.records c.position then s.setPort p { x with cursor := c } else lost
  | .atEnd =>
    if c.position = s.log.nextSeq then s.setPort p { x with cursor := c }
    else if heldIn s.log.records c.position then s.setPort p { x with cursor := { c with state := .atRecord } }
    else lost
  | _ => s.setPort p { x with cursor := c }

/-! ## Clear Profile (R141, R143) -/

/-- The start of a clear (R141). -/
def startClear (s : State) : State :=
  s.setLog { s.log with clearBusy := true, carries := ⟨.all 0, .all (.all 0)⟩, slot := none }

/-- A READ-class effect after a clear has completed: a placement is not made (R143). -/
def ReadEffect.afterClear (e : ReadEffect) : ReadEffect :=
  match e with
  | .advance _ => .none
  | .place _ _ => .none
  | x => x

/-- A transaction after a clear has completed (R143). -/
def Transaction.afterClear (t : Transaction) : Transaction :=
  match t with
  | .replying cmd reply e => .replying cmd reply e.afterClear
  | x => x

/-- A port at a clear completion: its cursor stands on the CLEARED marker (R143 step 4). -/
def PortState.afterClear (x : PortState) (marker : Seq) : PortState :=
  { x with cursor := { position := marker, state := .atRecord, dir := .forward, window := none }
           tx := x.tx.afterClear }

/-- The held record written after the CLEARED marker, if there is one (R143 step 3). -/
def writeHeld (held : Option LogBody) (s : State) : State :=
  match held with
  | some b => writeRecord b s
  | none => s

/-- The completion of a Clear Profile (R143). -/
def completeClear (s : State) : State :=
  let marker := s.log.nextSeq
  let emptied := s.setLog { s.log with records := [], clearBusy := false, slot := none }
  let written := writeHeld s.log.slot (writeRecord (markerBody .cleared s.clock.now [] s) emptied)
  (written.setUtil (written.util.afterClear marker)).setCust (written.cust.afterClear marker)

/-- A clear in progress is completed, as a start requires; without one nothing changes (R142). -/
def finishClear (s : State) : State := if s.log.clearBusy then completeClear s else s

end Sys2Proof.Machine
end

