-- ==== Sys2Proof/Machine/Closing.lean ====
section
/-! DEFINITION. The events several blocks share: the sub-interval close, the schedule activation, the
Billing Close and the Preview (R39, R46 to R52, R109 to R124). -/

namespace Sys2Proof.Machine

/-! ## The sub-interval close (R49, R52) -/

/-- The status set a sub-interval opens with (R49). -/
def openingStatus (s : State) : StatusSet :=
  StatusSet.markIf (StatusSet.markIf 0 (!s.clock.timeValid) .noTime)
    ((s.chans.toList).any (fun ch => ch.state == .stalled)) .stall

/-- An activation made where one is due at this sub-interval start (R39). -/
def activateAtStart (s : State) : State :=
  if s.activationAtStart.isSome then activateSchedule s else s

/-- The open sub-interval replaced by one that starts at an instant, with the rate given for it (R33,
R49). -/
def placeSub (start : Instant) (s : State) : State :=
  s.setSub { start := start, nominalEnd := nominalEndOf s.config start, elapsed := 0, rate := s.rateFor start,
             status := openingStatus s }

/-- The next sub-interval opened at an instant: an activation that is due comes first, and RATE_CHANGE
is raised when the rate differs from that of the sub-interval just closed (R33, R39, R49). -/
def openNext (start : Instant) (s : State) : State :=
  let opened := placeSub start (activateAtStart s)
  opened.raiseIf (opened.sub.rate != s.sub.rate) .rateChange

/-- The SCHEDULE marker of an activation, where one was made (R39 step 4). -/
def scheduleMarker (effective : Option Nat) (s : State) : State :=
  match effective with
  | some day => logMarker .schedule [day] s
  | none => s

/-- The record handed on, in order: the Demand Engine, the Profile Log with the SCHEDULE marker of an
activation, the Limit Monitor (R52 steps 9 to 11). -/
def handOn (r : SubRecord) (effective : Option Nat) (s : State) : State :=
  resetProjection (scheduleMarker effective (logData r (demandArrival r s)))

/-- A sub-interval close as one event (R52): the flags of the cause, the end instant the record takes,
what happens between the close and the opening (nothing, but for Set Time), and the start of the
next sub-interval. -/
def closeWith (cause : StatusSet) (stop : Instant) (between : State → State) (start : Instant) (s : State) : State :=
  let closed := between (takeClose cause stop s)
  handOn (closingRecord cause stop s) closed.activationAtStart (openNext start closed)

/-- A close at the present instant, the next sub-interval opening there. -/
def closeNow (cause : StatusSet) (s : State) : State := closeWith cause s.clock.now id s.clock.now s

/-- A forced close: the cause's own flag, with SHORT or LONG as the elapsed count gives (R23, R27, R46).
DESIGN CHOICE (assumption 2): in EXTERNAL mode no NOSYNC is added, also where the elapsed count stands at
S + G because the expiry of that second is still due to SYNC_EXPIRY. R46, R55 and R80 name NOSYNC "as the Time
Base finds" it, and R27 gives it to the expiry and no other forced close. -/
def forceClose (f : StatusFlag) (s : State) : State :=
  closeNow (StatusSet.single f ||| lengthStatus s.config s.sub.elapsed) s

/-- The close of a sync expiry: NOSYNC, with LONG when G is above 0 (R27, R28). -/
def closeExpired (s : State) : State := closeNow (expiryStatus s.config) s

/-- The boundary taken where it is due (R22). -/
def takeBoundary (s : State) : State :=
  if s.boundaryDue then closeNow (lengthStatus s.config s.sub.elapsed) s else s

/-- The sync expiry taken where it is due (R27). -/
def takeExpiry (s : State) : State := if s.expiryDue then closeExpired s else s

/-- The midnight event taken where it is due: the day type is found anew, and an armed schedule whose
effective day begins becomes active (R34, R39). DESIGN CHOICE (assumption 2): the day compared with the
effective day, and the instant of the activation, are those that stand when this row is taken, also where a
Set Time or an Adjust Time has moved the clock since the midnight, or Activate Schedule armed the schedule
since. Moved back below the effective day, the schedule of the day that had begun is not activated here and
stays ARMED; moved back to a day that is the effective day, it is. -/
def takeMidnight (s : State) : State :=
  if s.due.midnight then
    let s1 := s.setDue { s.due with midnight := false }
    if s1.activationAtMidnight.isSome then scheduleMarker s1.activationAtMidnight (activateSchedule s1)
    else refreshDayType s1
  else s

/-! ## Billing Close (R109 to R116) -/

/-- Whether the close state is IDLE. -/
def State.closeIdle (s : State) : Bool :=
  match s.per.close with
  | .idle => true
  | _ => false

/-- Whether a freeze can be taken: IDLE, no lockout running, and a period number left (R109 to R111). -/
def State.canFreeze (s : State) : Bool :=
  s.closeIdle && s.per.lockout == 0 && s.per.number != lastPeriod

/-- The Period Unit, the period energies and the maxima after steps 1 to 5, 7 and 8 of a freeze (R115). -/
def freezePeriod (cause : Cause) (clearDeferred : Bool) (s : State) : State :=
  ((s.setPer { s.per with
      close := .closing (takeSnapshot cause s), number := s.per.number + 1, start := s.clock.now, partialMark := false,
      lockout := s.config.lockoutLen, deferred := if clearDeferred then none else s.per.deferred }).setTot
    { s.tot with period := .all (.all 0), present := 0 }).setDem { s.dem with maxima := .all ⟨none, none⟩ }

/-- A freeze, with its CLOSE marker (R115). -/
def freeze (cause : Cause) (clearDeferred : Bool) (s : State) : State :=
  logMarker .close [s.per.number.toNat] (freezePeriod cause clearDeferred s)

/-- A date request deferred: the first cause stays, and CLOSE_DEFERRED is raised (R112). -/
def deferClose (cause : Cause) (s : State) : State :=
  (s.setPer { s.per with deferred := some (s.per.deferred.getD cause) }).raise .closeDeferred

/-- A date request, DATE or DATE_LATE (R110). -/
def dateRequest (cause : Cause) (s : State) : State :=
  if s.canFreeze then freeze cause false s
  else if s.closeIdle && s.per.lockout == 0 then s
  else deferClose cause s

/-- A set deferred close carried out; at the last period number it is cleared without a freeze (R113). -/
def carryOutDeferred (s : State) : State :=
  match s.per.deferred with
  | some cause =>
    if s.per.number = lastPeriod then s.setPer { s.per with deferred := none } else freeze cause true s
  | none => s

/-- The lockout timer at a second event: it counts here, unless the count would bring it to 0; then the
expiry is left due to LOCKOUT_EXPIRY (R112, assumption 2). -/
def countLockout (s : State) : State :=
  if s.per.lockout = 1 then s.setDue { s.due with lockout := true }
  else s.setPer { s.per with lockout := s.per.lockout - 1 }

/-- The lockout expiry taken where it is due (R112, R113). DESIGN CHOICE (assumption 2): it stays due across a
Set Time, an Adjust Time and a Restart, and a deferred close then freezes at the instant that stands when
this row is taken. -/
def takeLockout (s : State) : State :=
  if s.due.lockout then
    let s1 := (s.setDue { s.due with lockout := false }).setPer { s.per with lockout := s.per.lockout - 1 }
    if s1.per.lockout = 0 && s1.closeIdle then carryOutDeferred s1 else s1
  else s

/-- One close-date event taken where one is due (R42, R110). DESIGN CHOICE (assumption 2): an event raised and
not yet taken stays due across a Set Time, an Adjust Time, a rewrite of the close dates or the close second,
and a Restart; its freeze is then taken at the instant that stands when this row is taken. -/
def takeDate (s : State) : State :=
  if s.due.dates = 0 then s else dateRequest .date (s.setDue { s.due with dates := s.due.dates - 1 })

/-- The completion of a close on its snapshot (R116). -/
def completeClose (x : Snapshot) (s : State) : State :=
  let s1 := (s.setPer { s.per with close := .idle, history := pushHistory s.per.history x.record }).raise .closeDone
  if s1.per.lockout = 0 then carryOutDeferred s1 else s1

/-- The completion of a Preview on its copy (R123). -/
def completePreview (p : Port) (x : Snapshot) (s : State) : State :=
  (s.setPort p { s.port p with preview := none, previewRec := some x.record }).raiseOn p .previewReady

/-! ## What a second event leaves due (assumption 2) -/

/-- Every close-date event still due. -/
def takeDates : Nat → State → State
  | 0, s => s
  | n + 1, s => takeDates n (takeDate s)

/-- All that the last second event has left, in the order midnight, stalls, boundary or expiry, close
date, lockout. -/
def settleDue (s : State) : State :=
  let s1 := takeStall 3 (takeStall 2 (takeStall 1 (takeStall 0 (takeMidnight s))))
  let s2 := takeExpiry (takeBoundary s1)
  takeLockout (takeDates s2.due.dates s2)

end Sys2Proof.Machine
end

