-- ==== Sys2Proof/Machine/Storing.lean ====
section
/-! DEFINITION. Configuration Store writes: the value an item takes, every effect of its change, and
the store completion (R131, R132, R147, R165 to R168 and the rule of each item). -/

namespace Sys2Proof.Machine

/-! ## Values -/

/-- The configuration items with one channel's replaced. -/
def Config.setChannel (cfg : Config) (c : Fin 4) (x : ChannelConfig) : Config :=
  { cfg with channels := cfg.channels.set c x }

/-- The configuration items with a setting's value written. -/
def Setting.apply (v : Setting) (cfg : Config) : Config :=
  match v with
  | .channelK c k => cfg.setChannel c { cfg.channels.get c with k := k }
  | .channelSS c ss => cfg.setChannel c { cfg.channels.get c with ss := ss }
  | .channelEnable c on => cfg.setChannel c { cfg.channels.get c with enabled := on }
  | .channelWeight c w => cfg.setChannel c { cfg.channels.get c with weight := w }
  | .polarity x => { cfg with polarity := x }
  | .stallTimeout x => { cfg with stallTimeout := x }
  | .subLen x => { cfg with subLen := x }
  | .syncMode x => { cfg with syncMode := x }
  | .grace x => { cfg with grace := x }
  | .weekdayOffset x => { cfg with weekdayOffset := x }
  | .closeSecond x => { cfg with closeSecond := x }
  | .reactive x => { cfg with reactive := x }
  | .digits x => { cfg with digits := x }
  | .registerMode x => { cfg with registerMode := x }
  | .windowLen x => { cfg with windowLen := x }
  | .excludeFlagged x => { cfg with excludeFlagged := x }
  | .pickupThreshold x => { cfg with pickupThreshold := x }
  | .pickupLength x => { cfg with pickupLength := x }
  | .basis x => { cfg with bill := { cfg.bill with basis := x } }
  | .billable x => { cfg with bill := { cfg.bill with billable := x } }
  | .ratchetPct x => { cfg with bill := { cfg.bill with ratchetPct := x } }
  | .lookback x => { cfg with bill := { cfg.bill with lookback := x } }
  | .contractMin x => { cfg with bill := { cfg.bill with contractMin := x } }
  | .excessOn x => { cfg with bill := { cfg.bill with excessOn := x } }
  | .ratio x => { cfg with bill := { cfg.bill with ratio := x } }
  | .pfAdjustOn x => { cfg with bill := { cfg.bill with pfAdjustOn := x } }
  | .pfRef x => { cfg with bill := { cfg.bill with pfRef := x } }
  | .pfFloor x => { cfg with bill := { cfg.bill with pfFloor := x } }
  | .lockoutLen x => { cfg with lockoutLen := x }
  | .logMask x => { cfg with logMask := x }

/-- The item group a CONFIG marker carries (R132). -/
def Setting.group (v : Setting) : Nat :=
  match v with
  | .channelK _ _ => 1
  | .channelSS _ _ => 1
  | .channelEnable _ _ => 1
  | .channelWeight _ _ => 1
  | .polarity _ => 1
  | .stallTimeout _ => 1
  | .subLen _ => 2
  | .syncMode _ => 2
  | .grace _ => 2
  | .weekdayOffset _ => 2
  | .closeSecond _ => 2
  | .reactive _ => 4
  | .digits _ => 4
  | .registerMode _ => 4
  | .windowLen _ => 5
  | .excludeFlagged _ => 5
  | .pickupThreshold _ => 5
  | .pickupLength _ => 5
  | .basis _ => 6
  | .billable _ => 6
  | .ratchetPct _ => 6
  | .lookback _ => 6
  | .contractMin _ => 6
  | .excessOn _ => 6
  | .ratio _ => 6
  | .pfAdjustOn _ => 6
  | .pfRef _ => 6
  | .pfFloor _ => 6
  | .lockoutLen _ => 6
  | .logMask _ => 7

/-- The item group of a store item (R132). -/
def StoreItem.group (i : StoreItem) : Nat :=
  match i with
  | .setting v => v.group
  | .switchQuad _ _ _ => 3
  | .holidayQuad _ _ => 3
  | .weekTable _ => 3
  | .closeDates _ => 2
  | .limit _ _ => 8
  | .lockMode _ => 9
  | .calibrationLock _ => 1

/-- The pending tables with a switch quad applied (R36). -/
def Tables.withSwitches (t : Tables) (d : Fin 4) (start : Nat) (entries : List (Option SwitchPoint)) : Tables :=
  { t with switches := t.switches.set d (writeQuad (t.switches.get d) start entries) }

/-- The pending tables after a pending write, where the item is one (R35 to R37). -/
def StoreItem.newTables (i : StoreItem) (st : Store) : Option Tables :=
  match i with
  | .switchQuad d start entries => some (st.pendingTables.withSwitches d start entries)
  | .holidayQuad start days => some { st.pendingTables with holidays := writeQuad st.pendingTables.holidays start days }
  | .weekTable types => some { st.pendingTables with week := types }
  | _ => none

/-! ## Effects of a change -/

/-- A channel's residues cleared (R13). -/
def clearResidues (c : Fin 4) (s : State) : State := s.setChan c (s.chans.get c).clearResidues

/-- An effect that a completion has only when the stored value changes. -/
def onChange (v : Setting) (f : State → State) (s : State) : State :=
  if v.apply s.config = s.config then s else f s

/-- A setting's value written, with no more. -/
def writeSetting (v : Setting) (s : State) : State := s.setConfig (v.apply s.config)

/-- A change of S: the close is made with the old S, the ring emptied, and the new sub-interval's
nominal end found with the new S (R24, R65). -/
def changeSubLen (v : Setting) (s : State) : State :=
  let s1 := writeSetting v (emptyRing (forceClose .config s))
  s1.setSub { s1.sub with nominalEnd := nominalEndOf s1.config s1.sub.start }

/-- A change of N: the close is made with the old N and the ring emptied (R65, R80). -/
def changeWindowLen (v : Setting) (s : State) : State := writeSetting v (emptyRing (forceClose .config s))

/-- A change of the sync mode: CONFIG, a new nominal end, and a close where the elapsed count has
already reached S + G in EXTERNAL mode (R28). -/
def changeSyncMode (v : Setting) (m : SyncMode) (s : State) : State :=
  let s1 := (writeSetting v s).markSub .config
  match m with
  | .external => takeExpiry (s1.setSub { s1.sub with nominalEnd := s1.sub.start.later s1.config.subLen })
  | .internal => s1.setSub { s1.sub with nominalEnd := s1.clock.now.nextMultiple s1.config.subLen }

/-- A change of a channel's enable (R15). -/
def changeEnable (v : Setting) (c : Fin 4) (on : Bool) (s : State) : State :=
  let s1 := (writeSetting v s).markSub .config
  s1.setChan c ((s1.chans.get c).enableChanged on)

/-- The completion of a Write Config Item: the value in force, with every effect its rule states. -/
def commitSetting (v : Setting) (s : State) : State :=
  match v with
  | .channelK c _ => onChange v (fun s => clearResidues c ((writeSetting v s).markSub .config)) s
  | .channelSS c _ => onChange v (fun s => clearResidues c ((writeSetting v s).markSub .config)) s
  | .channelEnable c on => onChange v (changeEnable v c on) s
  | .channelWeight _ _ => onChange v (fun s => writeSetting v (forceClose .config s)) s
  | .polarity _ => onChange v (fun s => (writeSetting v s).markSub .config) s
  | .reactive _ => onChange v (fun s => (writeSetting v s).markSub .config) s
  | .subLen _ => onChange v (changeSubLen v) s
  | .windowLen _ => onChange v (changeWindowLen v) s
  | .syncMode m => onChange v (changeSyncMode v m) s
  | .grace _ => onChange v (fun s => takeExpiry (writeSetting v s)) s
  | .weekdayOffset _ => refreshDayType (writeSetting v s)
  | .closeSecond _ => refreshPointer (writeSetting v s)
  | _ => writeSetting v s

/-- A new lock mode at the completion of its write; the lock mode never leaves PERMANENT (R165). -/
def commitLockMode (m : LockMode) (s : State) : State :=
  if s.config.lockMode = .permanent then s else s.setConfig { s.config with lockMode := m }

/-- A calibration lock set (R166). -/
def commitCalibrationLock (c : Fin 4) (s : State) : State :=
  s.setConfig (s.config.setChannel c { s.config.channels.get c with calLock := true })

/-- Step 1 of a store completion: the value takes effect with all that belongs to it (R168). -/
def commitItem (i : StoreItem) (s : State) : State :=
  match i with
  | .setting v => commitSetting v s
  | .closeDates l => refreshPointer (s.setStore { s.store with closeDates := l })
  | .limit k l => applyLimit k l s
  | .lockMode m => commitLockMode m s
  | .calibrationLock c => commitCalibrationLock c s
  | i =>
    match i.newTables s.store with
    | some t => s.setStore { s.store with pendSched := .loading t }
    | none => s

/-- Whether a completion changes a stored value, judged before it; a pending write is judged against
the tables it starts from (R132, assumption 11), and a lock mode of PERMANENT stays as it is (R165,
assumption 12). -/
def changesStore (i : StoreItem) (s : State) : Bool :=
  match i with
  | .setting v => decide (v.apply s.config ≠ s.config)
  | .closeDates l => decide (l ≠ s.store.closeDates)
  | .limit k l => decide (l ≠ s.config.limits.get k)
  | .lockMode m => decide (m ≠ s.config.lockMode ∧ s.config.lockMode ≠ .permanent)
  | .calibrationLock c => !(s.config.channels.get c).calLock
  | i => decide (i.newTables s.store ≠ some s.store.pendingTables)

/-- A store completion: effects, CONFIG marker on a change, STORE_DONE on the writing port, IDLE
(R168). -/
def completeStore (w : StoreWrite) (s : State) : State :=
  let s1 := commitItem w.item s
  let s2 := if changesStore w.item s then logMarker .config [w.item.group] s1 else s1
  let s3 := s2.raiseOn w.port .storeDone
  s3.setStore { s3.store with writing := none }

/-- A store write begun: the store is STORE_BUSY with its port and item (R167). -/
def startWrite (p : Port) (i : StoreItem) (s : State) : State :=
  s.setStore { s.store with writing := some { port := p, item := i } }

/-- Whether the store is STORE_BUSY (R167). -/
def State.storeBusy (s : State) : Bool := s.store.writing.isSome

/-- The reversion of POWER_LOCKED at a cold or warm start (R165). -/
def revertLock (s : State) : State :=
  if s.config.lockMode = .powerLocked then s.setConfig { s.config with lockMode := .guarded } else s

/-- A store write in flight abandoned whole at a start (R186). -/
def abandonWrite (s : State) : State := s.setStore { s.store with writing := none }

end Sys2Proof.Machine
end

