-- ==== Sys2Proof/Machine/Replies.lean ====
section
/-! DEFINITION. The bytes of the records and of the READ replies (chapter 12, and the reply rule of
each command). Fields stand in the order their command's rule lists them; assumption 9 says what the
spec leaves to the reader of those rules. -/

namespace Sys2Proof.Machine

/-! ## Field types (section 12.1) -/

/-- A field of a code, a flag or a small count. -/
def byteField (n : Nat) : List Byte := beBytes 1 n

/-- An instant: day number (2), second of day (3). -/
def instantField (t : Instant) : List Byte := beBytes 2 t.day ++ beBytes 3 t.sec

/-- An energy in 8 bytes. -/
def energyField (n : Nat) : List Byte := beBytes 8 n

/-- An optional field: a presence byte, then the field; an absent field is sent as zeros. -/
def optionField {α : Type} (width : Nat) (f : α → List Byte) (x : Option α) : List Byte :=
  match x with
  | some v => 1 :: f v
  | none => 0 :: List.replicate width 0

/-- A status set in 2 bytes (section 12.4). -/
def statusField (st : StatusSet) : List Byte := beBytes 2 st.toNat

/-! ## Records (sections 12.4, 12.6) -/

def quadField (q : Quad Energy) : List Byte := (q.toList.map (fun e => energyField e.toNat)).flatten
def quintField (q : Quint Energy) : List Byte := (q.toList.map (fun e => energyField e.toNat)).flatten

/-- A Sub-interval Record, 185 bytes. -/
def subRecordBytes (r : SubRecord) : List Byte :=
  beBytes 4 r.sequence.toNat ++ instantField r.start ++ instantField r.stop ++ byteField r.rate.number
    ++ statusField r.status ++ quintField r.totals ++ (r.parts.toList.map quadField).flatten

/-- A Maximum Record, 26 bytes; an empty one holds zeros and a clear present marker (R75). -/
def maxRecordBytes (m : Option MaxRecord) : List Byte :=
  optionField 25 (fun m => beBytes 4 m.value ++ instantField m.stop ++ beBytes 4 m.sequence.toNat
    ++ beBytes 4 m.dq ++ beBytes 4 m.other ++ beBytes 2 m.pf ++ statusField m.status) m

/-- A rate block or rate-A block, 77 bytes. -/
def rateBlockBytes (b : RateBlock) : List Byte :=
  byteField b.rate.code ++ energyField b.ep ++ energyField b.eq ++ energyField b.excess
    ++ maxRecordBytes b.maxima.kw ++ maxRecordBytes b.maxima.kva

/-- The result flags and PERIOD_PARTIAL in one byte. -/
def resultFlagsCode (f : ResultFlags) (partialMark : Bool) : Nat :=
  boolCode f.ratchetApplied + 2 * boolCode f.minApplied + 4 * boolCode f.pfAdjusted + 8 * boolCode f.clamped
    + 16 * boolCode f.noDemand + 128 * boolCode partialMark

/-- A Period Record or Preview Record, 39 + 77 × (b + 1) bytes. -/
def periodRecordBytes (r : PeriodRecord) : List Byte :=
  beBytes 4 r.number.toNat ++ instantField r.start ++ instantField r.stop ++ byteField r.cause.code
    ++ byteField (resultFlagsCode r.flags r.partialMark) ++ byteField r.ratePresent.toNat ++ byteField r.basis.code
    ++ beBytes 2 r.pfAvg ++ beBytes 2 r.pfUsed ++ beBytes 4 r.base ++ beBytes 4 r.floor ++ beBytes 4 r.unadjusted
    ++ beBytes 4 r.adjusted ++ byteField r.blocks.length ++ (r.blocks.map rateBlockBytes).flatten
    ++ rateBlockBytes r.blockA

/-- A log record, its words most significant byte first (R192, scope section 3.5). -/
def logRecordBytes (r : LogRecord) : List Byte := (r.toWords.map (fun w => beBytes 4 w.toNat)).flatten

/-! ## Status, time and schedule (R44, R173) -/

/-- The third byte of the Read Status reply. -/
def statusBits (s : State) (p : Port) : Nat :=
  boolCode (s.port p).latch + 2 * boolCode (s.port p).arm + 4 * boolCode s.pins.guard + 8 * boolCode s.sup.hold
    + 16 * boolCode s.clock.timeValid + 32 * boolCode (s.port p).attn.level + 64 * boolCode s.storeBusy
    + 128 * boolCode (s.store.writing.any (fun w => w.port == .customer))

/-- The four calibration locks, bit c for channel c. -/
def calibrationBits (cfg : Config) : Nat :=
  boolCode cfg.channels.c0.calLock + 2 * boolCode cfg.channels.c1.calLock + 4 * boolCode cfg.channels.c2.calLock
    + 8 * boolCode cfg.channels.c3.calLock

def CloseState.code (c : CloseState) : Nat := match c with | .idle => 0 | .closing _ => 1 | .resuming _ => 2

/-- Read Status (R173). -/
def statusReply (s : State) (p : Port) : List Byte :=
  [(s.port p).lastResult.code, (s.port p).lastCommand] ++ byteField (statusBits s p)
    ++ byteField s.config.lockMode.code ++ byteField (calibrationBits s.config) ++ byteField s.sup.startCause.code
    ++ byteField s.per.close.code ++ byteField (boolCode s.log.clearBusy) ++ byteField 0

def PendingSchedule.code (x : PendingSchedule) : Nat := match x with | .none => 0 | .loading _ => 1 | .armed _ _ => 2

/-- The effective day, in ARMED (R44). -/
def PendingSchedule.effectiveDay (x : PendingSchedule) : Option Nat :=
  match x with
  | .armed _ d => some d
  | _ => Option.none

/-- Read Time (R44). DESIGN CHOICE (assumption 9): no type of section 12.1 names a flag or a level, so
TIME_VALID and the filtered level of SYNC are sent as one byte each, 1 for set or high, 0 for clear or low. -/
def timeReply (s : State) : List Byte :=
  instantField s.clock.now ++ byteField (weekdayOf s.config.weekdayOffset s.clock.now.day)
    ++ byteField (boolCode s.clock.timeValid) ++ byteField s.config.syncMode.code ++ byteField s.config.grace
    ++ byteField (boolCode s.pins.sync) ++ beBytes 2 s.config.subLen ++ instantField s.sub.start
    ++ instantField s.sub.nominalEnd ++ beBytes 4 s.sub.elapsed ++ byteField s.sub.rate.number
    ++ byteField s.clock.dayType.val ++ byteField s.store.pendSched.code
    ++ optionField 2 (beBytes 2) s.store.pendSched.effectiveDay ++ optionField 5 instantField s.pointedInstant

/-- A switch point: minute (2), rate (1). -/
def switchPointField (p : SwitchPoint) : List Byte := beBytes 2 p.minute ++ byteField p.rate

/-- One table of a schedule: its entries and then its length (R44). -/
def tableField (t : Tables) (table : Byte) : Option (List Byte) :=
  match fourOfByte table with
  | some d =>
    some (((t.switches.get d).map switchPointField).flatten ++ byteField (t.switches.get d).length)
  | none =>
    match table.toNat with
    | 4 => some ((weekList t.week).map (fun d => BitVec.ofNat 8 d.val) ++ byteField 7)
    | 5 => some ((t.holidays.map (beBytes 2)).flatten ++ byteField t.holidays.length)
    | _ => none

/-- Read Schedule: pending tables named in state NONE have length 0 (R44). -/
def scheduleReply (s : State) (tables table : Byte) : Option (List Byte) :=
  match tables.toNat with
  | 0 => tableField s.store.active table
  | 1 =>
    match s.store.pendSched with
    | .none => (tableField s.store.active table).map (fun _ => byteField 0)
    | _ => tableField s.store.pendingTables table
  | _ => none

/-- Read Close Dates (R44): the list and the close second. DESIGN CHOICE (assumption 9): a length byte
follows the entries, as the length of a table does in Read Schedule. -/
def closeDatesReply (s : State) : List Byte :=
  (s.store.closeDates.map (beBytes 2)).flatten ++ byteField s.store.closeDates.length ++ beBytes 4 s.config.closeSecond

/-! ## Channels and totals (R17, R60, R61) -/

/-- A register: reported value and rollover count (R57). -/
def registerField (cfg : Config) (a : Energy) : List Byte :=
  energyField (reportedValue cfg.registerMode cfg.digits a) ++ byteField (rolloverCount cfg.registerMode cfg.digits a)

/-- An energy in whole Wh. -/
def whField (a : Energy) : List Byte := energyField (whOf a)

/-- Read Channel Status (R17). DESIGN CHOICE (assumption 9): the calibration lock is 1 set and 0 clear. -/
def channelReply (s : State) (c : Fin 4) : List Byte :=
  let ch := s.chans.get c
  let cfg := s.config.channels.get c
  byteField ch.state.code ++ byteField ch.timer ++ optionField 1 (fun q => byteField (BitVec.toNat q)) ch.expected
    ++ beBytes 2 cfg.k ++ [BitVec.ofInt 8 cfg.ss] ++ byteField (boolCode cfg.enabled) ++ byteField cfg.weight.code
    ++ byteField (boolCode cfg.calLock) ++ (ch.cum.toList.map (registerField s.config)).flatten
    ++ (ch.part.toList.map whField).flatten

/-- Read Registers (R60): a rate set, or 0x20 + channel. -/
def registersReply (s : State) (code : Byte) : Option (List Byte) :=
  let head := byteField s.config.digits ++ byteField s.config.registerMode.code
  match RateSet.ofCode code with
  | some r =>
    some (head ++ ((s.tot.acc.get r).toList.map (registerField s.config)).flatten
      ++ ((s.tot.period.get r).toList.map whField).flatten)
  | none =>
    (fourOfByte (code - 0x20)).map (fun c => head ++ ((s.chans.get c).cum.toList.map (registerField s.config)).flatten)

/-- Read Sub-interval (R61, R191). -/
def subIntervalReply (s : State) : List Byte :=
  optionField 185 subRecordBytes s.tot.last ++ instantField s.sub.start ++ byteField s.sub.rate.number
    ++ statusField s.sub.status ++ quintField (totalize s.config s.partials)

/-! ## Demand and periods (R81, R82, R120, R125) -/

def summaryField (x : Summary) : List Byte :=
  beBytes 4 x.sequence.toNat ++ byteField x.rate.number ++ statusField x.status ++ energyField x.ep.toNat
    ++ energyField x.eq.toNat

/-- The last window with every field of R69. DESIGN CHOICE (assumption 9): eligible is 1 and not eligible
0, and the reasons are bits FILL 0, PICKUP 1, FLAGGED 2. -/
def windowField (w : Window) : List Byte :=
  beBytes 4 w.sequence.toNat ++ instantField w.stop ++ byteField w.rate.number ++ byteField w.fill ++ beBytes 4 w.dp
    ++ beBytes 4 w.dq ++ beBytes 4 w.dva ++ beBytes 2 w.pf ++ byteField (boolCode w.eligible)
    ++ byteField (boolCode w.failFill + 2 * boolCode w.failPickup + 4 * boolCode w.failFlagged)

/-- Read Demand (R81). -/
def demandReply (s : State) : List Byte :=
  byteField s.config.windowLen ++ beBytes 2 s.config.subLen ++ beBytes 2 s.config.windowSeconds
    ++ byteField (onOffCode s.config.excludeFlagged) ++ beBytes 2 s.config.pickupThreshold
    ++ byteField s.config.pickupLength ++ byteField s.dem.pickup ++ byteField s.dem.ring.length
    ++ (s.dem.ring.map summaryField).flatten ++ optionField 27 windowField s.dem.window

/-- Read Maxima (R82). -/
def maximaReply (s : State) (code : Byte) : Option (List Byte) :=
  (RateSet.ofCode code).map (fun r => maxRecordBytes (s.dem.maxima.get r).kw ++ maxRecordBytes (s.dem.maxima.get r).kva)

/-- A Period Record or the EMPTY byte with no further data (R120, R191). -/
def periodField (r : Option PeriodRecord) : List Byte :=
  match r with
  | some r => 1 :: periodRecordBytes r
  | none => [0]

/-- The cause of the close in CLOSING or RESUMING (R125). -/
def CloseState.cause (c : CloseState) : Option Cause :=
  match c with
  | .idle => none
  | .closing x => some x.cause
  | .resuming x => some x.cause

def causeField (c : Cause) : List Byte := byteField c.code

/-- Read Period State (R125). DESIGN CHOICE (assumption 9): PERIOD_PARTIAL is 1 set and 0 clear, and a
Preview is 1 running and 0 not. The cause of the close, the oldest and the newest period number are optional
fields. The deferred close, and "Preview Record present", are the presence bytes of the cause and of the
period number that follow them, and not bytes of their own. -/
def periodStateReply (s : State) (p : Port) : List Byte :=
  byteField s.per.close.code ++ optionField 1 causeField s.per.close.cause ++ beBytes 4 s.per.number.toNat
    ++ instantField s.per.start ++ byteField (boolCode s.per.partialMark) ++ beBytes 4 s.per.lockout
    ++ optionField 1 causeField s.per.deferred ++ byteField s.tot.present.toNat ++ byteField s.per.history.length
    ++ optionField 4 (fun r => beBytes 4 (BitVec.toNat r)) (s.per.history.head?.map PeriodRecord.number)
    ++ optionField 4 (fun r => beBytes 4 (BitVec.toNat r)) (s.per.history.getLast?.map PeriodRecord.number)
    ++ byteField (boolCode (s.port p).preview.isSome)
    ++ optionField 4 (fun r => beBytes 4 (BitVec.toNat r)) ((s.port p).previewRec.map PeriodRecord.number)

/-! ## Profile and limits (R136, R144, R157) -/

def seqField (q : Seq) : List Byte := beBytes 4 q.toNat

/-- A cursor: position, state, direction, window (R144). DESIGN CHOICE (assumption 9): no layout says how
the window stands; it is sent as an optional field, ALL as the byte 0x00 and eight zero bytes, and a range
as 0x01, its low sequence and its high sequence. -/
def cursorField (c : Cursor) : List Byte :=
  seqField c.position ++ byteField c.state.code ++ byteField c.dir.code
    ++ optionField 8 (fun w => seqField w.1 ++ seqField w.2) c.window

/-- Read Profile State (R144). DESIGN CHOICE (assumption 9): the holding slot is 1 full and 0 empty. -/
def profileStateReply (s : State) (p : Port) : List Byte :=
  beBytes 2 (wordsOf s.log.records) ++ beBytes 2 s.log.records.length ++ optionField 4 seqField (s.log.oldestIn none)
    ++ optionField 4 seqField (s.log.newestIn none) ++ seqField s.log.nextSeq ++ byteField s.config.logMask.toNat
    ++ byteField (boolCode s.log.clearBusy) ++ byteField (boolCode s.log.slot.isSome) ++ cursorField (s.port p).cursor

/-- The data of a Read Profile reply (R136, R137, R191). -/
def profileData (l : ProfileLog) (found : Cursor) (n : Nat) : List Byte :=
  if l.records.isEmpty then [0, 4]
  else
    let start := found.readStart l
    let steps := readRecords l n start
    1 :: ((steps.map (fun x => logRecordBytes x.1)).flatten ++ [profileStatus found n start steps])

/-- The effect of a Read Profile at the rise of select; its records begin after the tag, the result and
the presence byte (R138). -/
def profileEffect (l : ProfileLog) (found : Cursor) (n : Nat) : ReadEffect :=
  if l.records.isEmpty then .none else .advance (advanceSteps 3 (readRecords l n (found.readStart l)))

def comparatorField (l : LimitConfig) (c : Comparator) : List Byte :=
  byteField (boolCode l.enabled) ++ byteField l.quantity.code ++ beBytes 4 l.threshold ++ beBytes 4 l.hysteresis
    ++ beBytes 2 l.minHold ++ byteField l.shed.val ++ byteField c.state.code ++ beBytes 2 c.timer

/-- Read Limits (R157). DESIGN CHOICE (assumption 9): a SHED level is sent as 1 where it is active and 0
where it is not. -/
def limitsReply (s : State) : List Byte :=
  ((s.config.limits.zipWith comparatorField s.lim.comparators).toList).flatten
    ++ (s.lim.shed.toList.map (fun b => BitVec.ofNat 8 (boolCode b))) ++ beBytes 4 s.lim.projection.dp
    ++ beBytes 4 s.lim.projection.dq ++ beBytes 4 s.lim.projection.dva ++ byteField s.lim.projection.source.code
    ++ beBytes 4 s.lim.projection.elapsed ++ byteField s.lim.seenN ++ beBytes 2 s.lim.seenS ++ byteField s.lim.seenFill

/-- Read Config Item: the four-byte value field (R169, section 12.8). -/
def itemReply (s : State) (item : BitVec 16) : Option (List Byte) :=
  (ItemName.ofNumber item).map (fun i => beBytes 4 (i.value s.config))

end Sys2Proof.Machine
end

