-- ==== Sys2Proof/Machine/Starts.lean ====
section
/-! DEFINITION. Hold, supply loss, and the three starts (chapter 11). -/

namespace Sys2Proof.Machine

/-! ## Hold and supply loss (R183 to R186) -/

/-- Hold entry (R183). -/
def enterHold (s : State) : State :=
  let s1 := (s.setSup { s.sup with hold := true, outageStart := s.clock.now, outageValid := true }).raise .supplyWarn
  let s2 := s1.markSub .outage
  ((s2.setUtil { s2.util with latch := false, arm := false }).setCust { s2.cust with latch := false, arm := false }).setPins
    { s2.pins with pfail := true }

/-- Hold release (R185). -/
def releaseHold (s : State) : State :=
  ((s.setSup { s.sup with hold := false, outageValid := false }).markSub .outage).setPins { s.pins with pfail := false }

/-- The loss of the main supply: the main domain stops, and what would have been taken next is not
taken (R186). DESIGN CHOICE (assumption 2): that is everything the last second event has left due. -/
def loseSupply (s : State) : State :=
  (s.setSup { s.sup with mainSupply := false }).setDue .nothing

/-! ## What every start does -/

/-- A port at a warm start or a Restart, its cursor and Preview Record kept (R126, R145, R174, R182). DESIGN
CHOICE (assumption 7): `dataOut` is emptied. The spec does not say what data out carries in a transaction
that a start discards, and no byte of it, clocked before or after the discard, is recorded. -/
def PortState.started (x : PortState) (isCold : Bool) : PortState :=
  { x with tx := .idle, lastResult := .ok, lastCommand := 0, latch := false, arm := false, pattern := 0,
           dataOut := [], preview := none, attn := .started isCold }

/-- The filtered levels at a power-up, PFAIL being released where a start is taken (R25, R187). -/
def pinsOf (lv : PinLevels) : Pins :=
  { sync := lv.sync, guard := lv.guard, close := lv.close, pfail := false }

/-! ## Cold start (R187) -/

/-- Every block but the open sub-interval at its cold start value. The ports' `dataOut` is emptied, as
PortState.started empties it (DESIGN CHOICE, assumption 7). -/
def coldBlocks (lv : PinLevels) (s : State) : State :=
  let st : Store :=
    { s.store with
      writing := none
      config := if s.config.lockMode = .powerLocked then { s.config with lockMode := .guarded } else s.config }
  { store := st
    clock := { now := .zero, timeValid := false, dayType := dayTypeOf st.active st.config.weekdayOffset 0,
               pointer := st.pointerAfter .zero }
    sub := s.sub
    due := .nothing
    chans := st.config.channels.map (fun c => .cold (if c.enabled then .waiting else .off))
    tot := .cold
    dem := .cold
    per := .cold
    log := .cold
    lim := s.lim
    util := .cold
    cust := .cold
    sup := { mainSupply := true, hold := false, outageStart := .zero, outageValid := false, lossInstant := .zero,
             retentionValid := true, startCause := .cold }
    pins := (pinsOf lv)
    pending := s.pending
    free := s.free }

/-- The cold start: the blocks, the monitor, and the first sub-interval, with the activation of a
schedule whose effective day is 0 and its marker; no close is taken and no RATE_CHANGE raised (R45,
R49, R187). -/
def coldStarted (lv : PinLevels) (s : State) : State :=
  let s1 := monitorStarted (coldBlocks lv s)
  scheduleMarker s1.activationAtStart (placeSub .zero (activateAtStart s1))

/-! ## Warm start (R188, R189) -/

/-- Step 1 of a warm start: the values each block takes, Hold cleared, Previews abandoned, the lock
reversion, the start cause, CLOSING to RESUMING (R188). -/
def warmBlocks (lv : PinLevels) (s : State) : State :=
  let s1 := revertLock (abandonWrite s)
  let s2 := ((s1.setUtil (s1.util.started false)).setCust (s1.cust.started false)).setDue .nothing
  let s3 := (s2.setSup { s2.sup with mainSupply := true, hold := false, startCause := .warm }).setPins (pinsOf lv)
  let s4 := s3.setPer { s3.per with close := match s3.per.close with
    | .closing x => .resuming x
    | x => x }
  refreshDayType (monitorStarted (channelsStarted s4))

/-- Whether the interrupted sub-interval continues (R189): in INTERNAL mode the warm-start instant is
earlier than its nominal end, judged by durations from the loss instant; in EXTERNAL mode its elapsed
count is below S + G. -/
def State.subContinues (s : State) : Bool :=
  match s.config.syncMode with
  | .internal => decide (s.sup.lossInstant.until s.clock.now < s.sup.lossInstant.until s.sub.nominalEnd)
  | .external => decide (s.sub.elapsed < s.config.subLen + s.config.grace)

/-- The elapsed count the interrupted sub-interval had reached at its nominal end (R189). -/
def State.elapsedAtEnd (s : State) : Nat := s.sub.elapsed - s.sub.nominalEnd.until s.clock.now

/-- The status of a warm-start close: OUTAGE, with SHORT or LONG in INTERNAL mode and NOSYNC in
EXTERNAL mode (R189). -/
def warmCloseStatus (s : State) : StatusSet :=
  match s.config.syncMode with
  | .internal => StatusSet.single .outage ||| lengthStatus s.config s.elapsedAtEnd
  | .external => StatusSet.single .outage ||| StatusSet.single .noSync

/-- Step 3 of a warm start (R189). -/
def resumeSub (s : State) : State :=
  if s.subContinues then s.markSub .outage
  else closeWith (warmCloseStatus s) s.sub.nominalEnd id s.clock.now s

/-- The instant at which the outage began: the outage start when it is valid, and the loss instant
otherwise (R188 step 4). -/
def Supply.outageFrom (x : Supply) : Instant := if x.outageValid then x.outageStart else x.lossInstant

/-- Steps 4 and 5 of a warm start: the OUTAGE marker and the pickup load (R188). -/
def recordOutage (s : State) : State :=
  let began := s.sup.outageFrom
  let s1 := loadPickup (began.until s.clock.now) (logMarker .outage [began.day, began.sec] s)
  s1.setSup { s1.sup with outageValid := false }

/-- Whether close instants fell in the outage (R43, R188 step 7). -/
def State.datesPassed (s : State) : Bool :=
  s.store.closeDates.any (fun d => passedInOutage s.sup.lossInstant s.clock.now ⟨d, s.config.closeSecond⟩)

/-- Step 7 of a warm start: the pointer, and at most one late-close request (R188). -/
def requestLateClose (s : State) : State :=
  let s1 := refreshPointer s
  if s1.datesPassed then dateRequest .dateLate s1 else s1

/-- The warm start (R188). -/
def warmStarted (lv : PinLevels) (s : State) : State :=
  requestLateClose (recordOutage (resumeSub (finishClear (warmBlocks lv s))))

/-! ## Restart (R190) -/

/-- Step 2 of a Restart at the ports: the Utility Port's Last Result is that of Reset (R174). -/
def restartPorts (s : State) : State :=
  (s.setUtil { s.util.started false with lastCommand := 0x48 }).setCust (s.cust.started false)

/-- Steps 4 to 6 of a Restart: the channels, the marker with both cursors placed on it, the start
cause (R190). DESIGN CHOICE (assumption 2): a stall that the last second event has left due is dropped,
since every start sets the stall timers to 0; a midnight, close-date or lockout event left due stays due. -/
def restartTail (s : State) : State :=
  let s1 := refreshDayType (channelsStarted (s.setDue { s.due with stall := .all false }))
  let marker := s1.log.nextSeq
  let s2 := logMarker .restart [] s1
  let onMarker : Cursor := { position := marker, state := .atRecord, dir := .forward, window := none }
  let s3 := (s2.setUtil { s2.util with cursor := onMarker }).setCust { s2.cust with cursor := onMarker }
  s3.setSup { s3.sup with startCause := .restart }

/-- The Restart (R190). -/
def restarted (s : State) : State :=
  restartTail (forceClose .restart (monitorStarted (restartPorts (finishClear s))))

end Sys2Proof.Machine
end

