-- ==== Sys2Proof/Machine/Transactions.lean ====
section
/-! DEFINITION. Transactions on a command port: the snapshot of a READ-class command, the checks and
the end of a write-class command, the effects at the rise of select, void transactions and the port
reset (R159 to R165, R170, R171, R176, R184). -/

namespace Sys2Proof.Machine

/-! ## Data out (R159, R162, R191) -/

/-- What data out drives while no reply byte is due: filler, for this many bytes. -/
def fillers (n : Nat) : List Byte := List.replicate n filler

/-- What data out drives in the `k` bytes after a snapshot instant: the reply, then filler. -/
def drivenReply (reply : List Byte) (k : Nat) : List Byte := reply.take k ++ fillers (k - reply.length)

/-! ## READ-class commands (R161, R184) -/

/-- What a READ-class command finds at its snapshot instant: a result, the reply data (of account when
the result is OK), and what it will do at the rise of select. -/
structure Answer where
  result : Result
  data   : List Byte
  effect : ReadEffect

/-- A refusal: no data and no effect. -/
def Answer.refuse (r : Result) : Answer := { result := r, data := [], effect := .none }

/-- An answer with data alone. -/
def Answer.ok (data : List Byte) : Answer := { result := .ok, data := data, effect := .none }

/-- An answer with data, or RANGE where there is none. -/
def Answer.orRange (data : Option (List Byte)) : Answer :=
  match data with
  | some d => .ok d
  | none => .refuse .range

/-- The snapshot tag: the low eight bits of the last sequence (R161). -/
def State.tag (s : State) : Byte := s.tot.lastSeq.extractLsb' 0 8

/-- The reply bytes of an answer: tag, result, and the data of an OK (R161, R191). -/
def replyOf (s : State) (a : Answer) : List Byte :=
  s.tag :: a.result.code :: (if a.result = .ok then a.data else [])

/-- A READ-class command that is not answered in Hold is refused HOLD there, before its own checks
(R184). -/
def unlessHold (s : State) (a : Answer) : Answer := if s.sup.hold then .refuse .hold else a

/-- Whether a command of a port can be taken now: the main domain runs, and the port's transaction has
no byte taken yet. -/
def State.atCommand (s : State) (p : Port) : Bool := s.running && (s.port p).tx == .selected

/-- A port at the snapshot instant of a READ-class command, its command and argument bytes having met
filler; from here on the flags raised are kept from the clear that the transaction may make (R161, R176,
R191). -/
def PortState.snapped (x : PortState) (code : Byte) (reply : List Byte) (e : ReadEffect) : PortState :=
  { x with tx := .replying code reply e, dataOut := fillers (1 + commandArgs code), attn := { x.attn with fresh := 0 } }

/-- A READ-class command at its snapshot instant (R161). -/
def snapshotRead (p : Port) (code : Byte) (a : Answer) (s : State) : State :=
  if s.atCommand p then s.setPort p ((s.port p).snapped code (replyOf s a) a.effect) else s

/-! ## The rise of select after a READ-class command (R138 to R140, R161, R179, R180) -/

/-- A port's Attention Unit changed. -/
def State.setAttn (s : State) (p : Port) (u : AttentionUnit) : State := s.setPort p { s.port p with attn := u }

/-- A unit after a completed Attention Fetch (R179). -/
def AttentionUnit.fetched (u : AttentionUnit) (g : Nat) (mask : BitVec 14) : AttentionUnit :=
  (fetchClears g mask).foldl AttentionUnit.clearBit { u with enable := false }

/-- The effect of a READ-class command, `k` reply bytes having been clocked out before select rose. The
group byte and the value byte are the third of their replies. -/
def applyEffect (p : Port) (e : ReadEffect) (k : Nat) (s : State) : State :=
  match e with
  | .none => s
  | .advance steps =>
    match reachedCursor steps k with
    | some c => placeChecked p c s
    | none => s
  | .place bytes c => if bytes ≤ k then placeChecked p c s else s
  | .fetch g mask => if 3 ≤ k then s.setAttn p ((s.port p).attn.fetched g mask) else s
  | .test (some bit) => if 3 ≤ k then s.setAttn p ((s.port p).attn.clearBit bit) else s
  | .test none => s

/-- A port at the end of a transaction in which a whole command byte was taken and no write was: the
arm and the reset pattern count are cleared (R161, R171), and `out` was driven on data out. -/
def PortState.endRead (x : PortState) (out : List Byte) : PortState :=
  { x with tx := .idle, arm := false, pattern := 0, dataOut := out }

/-- The end of a READ-class transaction past its snapshot instant (R161). -/
def endReading (p : Port) (reply : List Byte) (e : ReadEffect) (k : Nat) (s : State) : State :=
  let s1 := applyEffect p e k s
  s1.setPort p ((s1.port p).endRead ((s1.port p).dataOut ++ drivenReply reply k))

/-! ## Write-class commands (R162 to R165) -/

/-- Whether the lock mode allows a CONFIG command now (R165). -/
def State.lockAllows (s : State) : Bool :=
  match s.config.lockMode with
  | .opened => true
  | .guarded => s.pins.guard
  | .powerLocked => false
  | .permanent => false

/-- Whether the end of a write-class transaction clears the latch (R162, R164). -/
def clearsLatch (code : Byte) : Bool :=
  match commandClass code with
  | some .port => false
  | some .read => false
  | _ => true

/-- Whether a command needs the write permission latch (R160). -/
def needsLatch (code : Byte) : Bool :=
  commandClass code == some .operation || commandClass code == some .config

/-- Steps 1 to 6 of R162: the result of the first check that fails, or none when all pass. -/
def writeChecks (p : Port) (code : Byte) (fr : Framing) (s : State) : Option Result :=
  if (commandClass code).isNone then some .malformed
  else if fr ≠ .whole then some .malformed
  else if !acceptedOn code p then some .denied
  else if s.sup.hold then some .hold
  else if needsLatch code && !(s.port p).latch then some .denied
  else if commandClass code == some .config && !s.lockAllows then some .locked
  else none

/-- The result of a write-class command and the state it leaves, before the end of the transaction:
its own checks and effect come when steps 1 to 6 have passed (R162). -/
def judgeWrite (p : Port) (code : Byte) (fr : Framing) (own : State → Result × State) (s : State) : Result × State :=
  match writeChecks p code fr s with
  | some r => (r, s)
  | none => own s

/-- A port at the end of a write-class transaction: the Last Result, the latch, the arm, which only a
Reset Enable taken with OK leaves set, the reset pattern count, and filler on data out throughout
(R162, R163, R171, R191). -/
def PortState.endWrite (x : PortState) (p : Port) (code : Byte) (fr : Framing) (r : Result) : PortState :=
  { x with tx := .idle, lastResult := r, lastCommand := code,
           latch := x.latch && !clearsLatch code,
           arm := p == .utility && code == 0x34 && r == .ok,
           pattern := 0, dataOut := fillers (1 + framedBytes fr code) }

/-- The end of a write-class transaction (R162). -/
def endWriting (p : Port) (code : Byte) (fr : Framing) (r : Result) (s : State) : State :=
  s.setPort p ((s.port p).endWrite p code fr r)

/-- A write-class transaction taken at the rise of select (R162). -/
def takeWrite (p : Port) (code : Byte) (fr : Framing) (own : State → Result × State) (s : State) : State :=
  if s.atCommand p then
    endWriting p code fr (judgeWrite p code fr own s).1 (judgeWrite p code fr own s).2
  else s

/-! ## Void transactions and the port reset (R159, R170) -/

/-- The level of data in that the reset pattern expects at a count: low, high, low, high (R170). -/
def expectedLevel (count : Nat) : Bool := count % 2 == 1

/-- A port after a port reset (R170). -/
def PortState.resetPort (x : PortState) : PortState := { x with tx := .idle, latch := false, arm := false, pattern := 0 }

/-- A port after a void transaction with no clock edge, at a level of data in (R170). -/
def PortState.voidRise (x : PortState) (dataIn : Bool) : PortState :=
  if dataIn = expectedLevel x.pattern then
    if x.pattern = 3 then x.resetPort else { x with tx := .idle, pattern := x.pattern + 1 }
  else { x with tx := .idle, pattern := if dataIn then 0 else 1 }

/-- The rise of select after a void transaction: with clock edges it only sets the reset pattern count
to 0 (R159, R170). -/
def voidTransaction (p : Port) (edges : Nat) (dataIn : Bool) (s : State) : State :=
  if edges = 0 then s.setPort p ((s.port p).voidRise dataIn)
  else s.setPort p { s.port p with tx := .idle, pattern := 0 }

/-- The fall of select: a transaction begins (R159). -/
def beginTransaction (p : Port) (s : State) : State :=
  if s.running && (s.port p).tx == .idle then s.setPort p { s.port p with tx := .selected, dataOut := [] } else s

end Sys2Proof.Machine
end

