-- ==== Sys2Proof/Machine/ReadCommands.lean ====
section
/-! DEFINITION. The READ-class commands, each at its snapshot instant (R160, R161 and the rule of each).
`takeRead…` is the command as a change of state, which SELECT_RISE shares; `execRead…` is the row's
meaning. -/

namespace Sys2Proof.Machine

/-- The outcome of a command that goes on. -/
abbrev Step := Host.Outcome State Fault Refusal

/-! ## Answered in Hold (R184) -/

def takeReadStatus (p : Port) (s : State) : State := snapshotRead p 0x10 (.ok (statusReply s p)) s
def takeReadTime (p : Port) (s : State) : State := snapshotRead p 0x11 (.ok (timeReply s)) s
def takeReadRegisters (p : Port) (code : Byte) (s : State) : State :=
  snapshotRead p 0x15 (.orRange (registersReply s code)) s
def takeReadSubInterval (p : Port) (s : State) : State := snapshotRead p 0x16 (.ok (subIntervalReply s)) s

/-! ## Refused HOLD in Hold -/

def takeReadSchedule (p : Port) (tables table : Byte) (s : State) : State :=
  snapshotRead p 0x12 (unlessHold s (.orRange (scheduleReply s tables table))) s
def takeReadCloseDates (p : Port) (s : State) : State := snapshotRead p 0x13 (unlessHold s (.ok (closeDatesReply s))) s
def takeReadChannelStatus (p : Port) (channel : Byte) (s : State) : State :=
  snapshotRead p 0x14 (unlessHold s (.orRange ((fourOfByte channel).map (channelReply s)))) s
def takeReadDemand (p : Port) (s : State) : State := snapshotRead p 0x17 (unlessHold s (.ok (demandReply s))) s
def takeReadMaxima (p : Port) (code : Byte) (s : State) : State :=
  snapshotRead p 0x18 (unlessHold s (.orRange (maximaReply s code))) s

/-- The answer of Read Period (R120). Index 0 names the newest entry. -/
def periodAnswer (p : Port) (index : Byte) (s : State) : Answer :=
  if index = 0x80 then .ok (periodField (s.port p).previewRec)
  else if 12 < index.toNat then .refuse .range
  else if !s.closeIdle then .refuse .busy
  else .ok (periodField (s.per.history.reverse[index.toNat]?))

def takeReadPeriod (p : Port) (index : Byte) (s : State) : State :=
  snapshotRead p 0x19 (unlessHold s (periodAnswer p index s)) s
def takeReadPeriodState (p : Port) (s : State) : State := snapshotRead p 0x1A (unlessHold s (.ok (periodStateReply s p))) s

/-- The answer of Read Profile (R136). -/
def profileAnswer (p : Port) (n : Byte) (s : State) : Answer :=
  if s.log.clearBusy then .refuse .busy
  else { result := .ok, data := profileData s.log (s.port p).cursor (profileCount n),
         effect := profileEffect s.log (s.port p).cursor (profileCount n) }

def takeReadProfile (p : Port) (n : Byte) (s : State) : State :=
  snapshotRead p 0x1B (unlessHold s (profileAnswer p n s)) s
def takeReadProfileState (p : Port) (s : State) : State :=
  snapshotRead p 0x1C (unlessHold s (.ok (profileStateReply s p))) s
def takeReadLimits (p : Port) (s : State) : State := snapshotRead p 0x1D (unlessHold s (.ok (limitsReply s))) s
def takeReadConfigItem (p : Port) (item : BitVec 16) (s : State) : State :=
  snapshotRead p 0x1E (unlessHold s (.orRange (itemReply s item))) s

/-! ## Profile cursor commands (R139, R140) -/

/-- The direction a code names (section 12.3). -/
def Direction.ofCode (b : Byte) : Option Direction :=
  match b.toNat with
  | 0 => some .forward
  | 1 => some .backward
  | _ => none

/-- The cursor that Set Profile Cursor finds, or none where it is refused RANGE (R139). -/
def cursorTarget (l : ProfileLog) (c : Cursor) (direction target : Byte) (q : Seq) : Option Cursor :=
  match Direction.ofCode direction, target.toNat with
  | some d, 0 => some (({ c with dir := d } : Cursor).placeOn l (l.oldestIn c.window))
  | some d, 1 => some (({ c with dir := d } : Cursor).placeOn l (l.newestIn c.window))
  | some d, 2 =>
    if inWindow c.window q then some (({ c with dir := d } : Cursor).placeOn l (c.nearest l q)) else none
  | _, _ => none

/-- The answer of Set Profile Cursor: the position and state the cursor takes. The placement waits for the
tag and the result alone, which R139 names in its parenthesis (assumption 10). -/
def setCursorAnswer (p : Port) (direction target : Byte) (q : Seq) (s : State) : Answer :=
  match cursorTarget s.log (s.port p).cursor direction target q with
  | none => .refuse .range
  | some c =>
    if s.log.clearBusy then .refuse .busy
    else { result := .ok, data := seqField c.position ++ byteField c.state.code, effect := .place 2 c }

def takeSetProfileCursor (p : Port) (direction target : Byte) (q : Seq) (s : State) : State :=
  snapshotRead p 0x1F (unlessHold s (setCursorAnswer p direction target q s)) s

/-- The window a selector names (R140, section 12.3). -/
def windowOfCode (selector : Byte) (low high : Seq) : Option (Option (Seq × Seq)) :=
  match selector.toNat with
  | 0 => some none
  | 1 => some (some (low, high))
  | _ => none

/-- A cursor with a new window, placed for its direction (R140). -/
def Cursor.inNewWindow (c : Cursor) (l : ProfileLog) (w : Option (Seq × Seq)) : Cursor :=
  let c1 : Cursor := { c with window := w }
  c1.placeOn l (c1.firstOf l)

/-- The answer of Set Profile Window: tag and result are the whole reply (R140). -/
def setWindowAnswer (p : Port) (selector : Byte) (low high : Seq) (s : State) : Answer :=
  match windowOfCode selector low high with
  | none => .refuse .range
  | some w =>
    if s.log.clearBusy then .refuse .busy
    else { result := .ok, data := [], effect := .place 2 ((s.port p).cursor.inNewWindow s.log w) }

def takeSetProfileWindow (p : Port) (selector : Byte) (low high : Seq) (s : State) : State :=
  snapshotRead p 0x20 (unlessHold s (setWindowAnswer p selector low high s)) s

/-! ## Request Preview (R122) -/

/-- The answer of Request Preview: the period number copied. -/
def previewAnswer (p : Port) (s : State) : Answer :=
  if !s.closeIdle then .refuse .busy
  else if (s.port p).preview.isSome then .refuse .busy
  else .ok (beBytes 4 s.per.number.toNat)

/-- Request Preview: a Preview that is accepted starts at the snapshot instant. -/
def takeRequestPreview (p : Port) (s : State) : State :=
  let a := unlessHold s (previewAnswer p s)
  let s1 := snapshotRead p 0x21 a s
  if s.atCommand p && a.result == .ok then
    s1.setPort p { s1.port p with preview := some (takeSnapshot .preview s) }
  else s1

/-! ## Attention (R179, R180) -/

def fetchAnswer (p : Port) (s : State) : Answer :=
  let u := (s.port p).attn
  { result := .ok, data := byteField u.topGroup, effect := .fetch u.topGroup u.mask }

def takeAttentionFetch (p : Port) (s : State) : State := snapshotRead p 0x22 (unlessHold s (fetchAnswer p s)) s

/-- The answer of Event Test: flags 1 to 20, and 21 for the GUARD level (R180, section 12.5). DESIGN
CHOICE (assumption 9): the value byte is 1 for pending, set and asserted, and 0 for clear and released. -/
def testAnswer (p : Port) (flag : Byte) (s : State) : Answer :=
  if flag.toNat = 21 then { result := .ok, data := byteField (boolCode s.pins.guard), effect := .test none }
  else if 1 ≤ flag.toNat ∧ flag.toNat ≤ 20 then
    { result := .ok, data := byteField (boolCode ((s.port p).attn.flags.getLsbD (flag.toNat - 1)))
      effect := .test (some (flag.toNat - 1)) }
  else .refuse .range

def takeEventTest (p : Port) (flag : Byte) (s : State) : State := snapshotRead p 0x23 (unlessHold s (testAnswer p flag s)) s

/-! ## The rows -/

def execReadStatus (p : Port) (s : State) : Step := .next (takeReadStatus p s)
def execReadTime (p : Port) (s : State) : Step := .next (takeReadTime p s)
def execReadSchedule (p : Port) (tables table : Byte) (s : State) : Step := .next (takeReadSchedule p tables table s)
def execReadCloseDates (p : Port) (s : State) : Step := .next (takeReadCloseDates p s)
def execReadChannelStatus (p : Port) (channel : Byte) (s : State) : Step := .next (takeReadChannelStatus p channel s)
def execReadRegisters (p : Port) (code : Byte) (s : State) : Step := .next (takeReadRegisters p code s)
def execReadSubInterval (p : Port) (s : State) : Step := .next (takeReadSubInterval p s)
def execReadDemand (p : Port) (s : State) : Step := .next (takeReadDemand p s)
def execReadMaxima (p : Port) (code : Byte) (s : State) : Step := .next (takeReadMaxima p code s)
def execReadPeriod (p : Port) (index : Byte) (s : State) : Step := .next (takeReadPeriod p index s)
def execReadPeriodState (p : Port) (s : State) : Step := .next (takeReadPeriodState p s)
def execReadProfile (p : Port) (n : Byte) (s : State) : Step := .next (takeReadProfile p n s)
def execReadProfileState (p : Port) (s : State) : Step := .next (takeReadProfileState p s)
def execReadLimits (p : Port) (s : State) : Step := .next (takeReadLimits p s)
def execReadConfigItem (p : Port) (item : BitVec 16) (s : State) : Step := .next (takeReadConfigItem p item s)
def execSetProfileCursor (p : Port) (direction target : Byte) (q : Seq) (s : State) : Step :=
  .next (takeSetProfileCursor p direction target q s)
def execSetProfileWindow (p : Port) (selector : Byte) (low high : Seq) (s : State) : Step :=
  .next (takeSetProfileWindow p selector low high s)
def execRequestPreview (p : Port) (s : State) : Step := .next (takeRequestPreview p s)
def execAttentionFetch (p : Port) (s : State) : Step := .next (takeAttentionFetch p s)
def execEventTest (p : Port) (flag : Byte) (s : State) : Step := .next (takeEventTest p flag s)

end Sys2Proof.Machine
end

