-- ==== Sys2Proof/Machine/WriteCommands.lean ====
section
/-! DEFINITION. The write-class commands, each at the rise of select that takes its transaction (R162
and the rule of each). `own…` is step 7 of R162 with the command's effect; `take…` is the whole
transaction as a change of state, which SELECT_RISE shares; `exec…` is the row's meaning. -/

namespace Sys2Proof.Machine

/-- What step 7 of a write-class command finds: its result and the state with its effect. -/
abbrev Judged := Result × State

/-- A refusal, which leaves the state as it is (R162). -/
def refuse (r : Result) (s : State) : Judged := (r, s)

/-- A command with one refusal after another, the first that holds giving the result (R162). -/
def checkThen (c : Bool) (r : Result) (next : State → Judged) (s : State) : Judged :=
  if c then refuse r s else next s

/-- A store write that has passed its checks (R167). -/
def storeItem (p : Port) (i : StoreItem) (s : State) : Judged := (.ok, startWrite p i s)

/-- A store write whose arguments name an item, or are refused RANGE. -/
def storeOrRange (p : Port) (i : Option StoreItem) (s : State) : Judged :=
  match i with
  | some i => storeItem p i s
  | none => refuse .range s

/-! ## PORT class (R164, R171, R177, R178) -/

/-- Enable Write sets the port's latch (R164). -/
def ownEnableWrite (p : Port) (s : State) : Judged := (.ok, s.setPort p { s.port p with latch := true })

/-- Disable Write clears the port's latch (R164). -/
def ownDisableWrite (p : Port) (s : State) : Judged := (.ok, s.setPort p { s.port p with latch := false })

/-- Attention Enable sets the enable of the port's unit (R178). -/
def ownAttentionEnable (p : Port) (s : State) : Judged :=
  (.ok, s.setAttn p { (s.port p).attn with enable := true })

/-- Set Event Mask replaces the fourteen mask bits of the port's unit; the argument's two upper bits
stand for no flag (R177, section 12.3, assumption 14). -/
def ownSetEventMask (p : Port) (mask : BitVec 16) (s : State) : Judged :=
  (.ok, s.setAttn p { (s.port p).attn with mask := mask.extractLsb' 0 14 })

/-- Reset Enable; the end of its transaction sets the arm (R171, `PortState.endWrite`). -/
def ownResetEnable (s : State) : Judged := (.ok, s)

def takeEnableWrite (p : Port) (fr : Framing) (s : State) : State := takeWrite p 0x30 fr (ownEnableWrite p) s
def takeDisableWrite (p : Port) (fr : Framing) (s : State) : State := takeWrite p 0x31 fr (ownDisableWrite p) s
def takeAttentionEnable (p : Port) (fr : Framing) (s : State) : State := takeWrite p 0x32 fr (ownAttentionEnable p) s
def takeSetEventMask (p : Port) (fr : Framing) (mask : BitVec 16) (s : State) : State :=
  takeWrite p 0x33 fr (ownSetEventMask p mask) s
def takeResetEnable (p : Port) (fr : Framing) (s : State) : State := takeWrite p 0x34 fr ownResetEnable s

/-! ## Billing Close (R109) -/

/-- Billing Close against the Period Unit's state, in the order of R109. -/
def ownBillingClose (s : State) : Judged :=
  if !s.closeIdle then refuse .busy s
  else if s.per.lockout ≠ 0 then refuse .lockout s
  else if s.per.number = lastPeriod then refuse .range s
  else (.ok, freeze .command false s)

def takeBillingClose (p : Port) (fr : Framing) (s : State) : State := takeWrite p 0x40 fr ownBillingClose s

/-! ## Adjust Time (R30, R31, R43) -/

/-- The present instant moved, with TIME_CHANGED, TIME_ADJ and the day type found anew (R30, R31, R34). -/
def moveInstant (new : Instant) (s : State) : State :=
  refreshDayType (((s.setClock { s.clock with now := new }).raise .timeChanged).markSub .timeAdj)

/-- The status of the close of a forward adjustment that reaches the nominal end (R30). -/
def adjustStatus (cfg : Config) (elapsed : Nat) : StatusSet :=
  StatusSet.markIf (StatusSet.single .timeAdj ||| StatusSet.single .short) (cfg.subLen < elapsed) .long

/-- The sub-interval after the instant has moved forward by `v` seconds; `reached` says that the move
has come to the nominal end (R30). -/
def adjustSubForward (v : Nat) (reached : Bool) (s : State) : State :=
  match s.config.syncMode with
  | .internal => if reached then closeNow (adjustStatus s.config s.sub.elapsed) s else s
  | .external => s.setSub { s.sub with nominalEnd := s.sub.nominalEnd.later v }

/-- Whether a forward adjustment passed a close instant: one later than the old instant and not later
than the present one (R30, R43). -/
def State.passedDate (s : State) (old : Instant) : Bool :=
  s.store.closeDates.any (fun d => passedPlain old s.clock.now ⟨d, s.config.closeSecond⟩)

/-- The close dates after a forward adjustment: the pointer is found anew, and a close instant that was
passed raises one close-date event at the new instant, taken here or left due to CLOSE_DATE_EVENT (R30,
R43, assumption 2). -/
def adjustDates (takeNow : Bool) (old : Instant) (s : State) : State :=
  let s1 := refreshPointer s
  if s.passedDate old then
    if takeNow then dateRequest .date s1 else s1.setDue { s1.due with dates := s1.due.dates + 1 }
  else s1

/-- A positive adjustment (R30). R117 gives the result for both orders of its close and of a date close
at the new instant: with `freezeFirst` the close-date event is taken before the close. DESIGN CHOICE
(assumption 2): what the last second event has left due stays due and is carried out at the new instant; a
boundary reached and not yet taken gives way to the close of this adjustment. -/
def adjustForward (v : Nat) (freezeFirst : Bool) (s : State) : State :=
  let moved := moveInstant (s.clock.now.later v) s
  let reached := decide (s.clock.now.until s.sub.nominalEnd ≤ v)
  if freezeFirst then adjustSubForward v reached (adjustDates true s.clock.now moved)
  else adjustDates false s.clock.now (adjustSubForward v reached moved)

/-- The nominal end moved back (R31). -/
def moveEndBack (v : Nat) (s : State) : State := s.setSub { s.sub with nominalEnd := s.sub.nominalEnd.earlier v }

/-- A negative adjustment: in EXTERNAL mode the nominal end moves back with the instant, and the
pointer stays (R31). DESIGN CHOICE (assumption 2): a close-date event, a lockout expiry, a sync expiry or a
midnight event reached and not yet taken is carried out at the instant moved back to, the midnight event
judging its activation by the day moved back to; a boundary reached and not yet taken is dropped. -/
def adjustBack (v : Nat) (s : State) : State :=
  match s.config.syncMode with
  | .internal => moveInstant (s.clock.now.earlier v) s
  | .external => moveEndBack v (moveInstant (s.clock.now.earlier v) s)

/-- Adjust Time (R30, R31). -/
def ownAdjustTime (seconds : BitVec 16) (freezeFirst : Bool) (s : State) : Judged :=
  let v := seconds.toInt
  if v < -900 ∨ 900 < v then refuse .range s
  else if (s.clock.now.abs : Int) + v < 0 ∨ (cycleSeconds : Int) ≤ (s.clock.now.abs : Int) + v then refuse .range s
  else if v = 0 then (.ok, s)
  else if 0 < v then (.ok, adjustForward v.toNat freezeFirst s)
  else (.ok, adjustBack (-v).toNat s)

def takeAdjustTime (p : Port) (fr : Framing) (seconds : BitVec 16) (freezeFirst : Bool) (s : State) : State :=
  takeWrite p 0x41 fr (ownAdjustTime seconds freezeFirst) s

/-! ## The pending schedule (R35 to R40) -/

/-- Whether the pending state is ARMED. -/
def State.schedArmed (s : State) : Bool :=
  match s.store.pendSched with
  | .armed _ _ => true
  | _ => false

/-- The checks the three pending writes share, before the arguments' own (R35). -/
def pendingWrite (own : State → Judged) (s : State) : Judged :=
  checkThen s.schedArmed .busy (checkThen s.storeBusy .busy own) s

/-- An entry of a switch quad; a minute of 0xFFFF marks it unused (R36). -/
def SwitchArg.entry (a : SwitchArg) : Option SwitchPoint :=
  if a.minute = 0xFFFF then none else some { minute := a.minute.toNat, rate := a.rate.toNat }

/-- Whether a minute of a switch quad is in range (R36). -/
def SwitchArg.inRange (a : SwitchArg) : Bool := a.minute == 0xFFFF || decide (a.minute.toNat ≤ 1439)

/-- The store item of a Write Switch Quad, or none where an argument is out of range (R36). -/
def switchItem (t : Tables) (dayType start : Byte) (entries : Four SwitchArg) : Option StoreItem :=
  match fourOfByte dayType with
  | none => none
  | some d =>
    if start.toNat % 4 = 0 ∧ start.toNat ≤ 8 ∧ start.toNat ≤ (t.switches.get d).length
        ∧ (fourList entries).all SwitchArg.inRange = true then
      some (.switchQuad d start.toNat ((fourList entries).map SwitchArg.entry))
    else none

/-- Write Switch Quad (R35, R36). -/
def ownWriteSwitchQuad (p : Port) (dayType start : Byte) (entries : Four SwitchArg) (s : State) : Judged :=
  pendingWrite (fun s => storeOrRange p (switchItem s.store.pendingTables dayType start entries) s) s

/-- A day of a quad; 0xFFFF marks the entry unused (R37, R41). -/
def dayEntry (d : BitVec 16) : Option Nat := if d = 0xFFFF then none else some d.toNat

/-- Whether a start index is a multiple of 4, at most `top`, and at most the list's length (R37, R41). -/
def startAllowed (start : Byte) (top length : Nat) : Bool :=
  decide (start.toNat % 4 = 0 ∧ start.toNat ≤ top ∧ start.toNat ≤ length)

/-- The store item of a Write Holiday Quad, or none where the start index is out of range (R37). -/
def holidayItem (t : Tables) (start : Byte) (days : Four (BitVec 16)) : Option StoreItem :=
  if startAllowed start 28 t.holidays.length then some (.holidayQuad start.toNat ((fourList days).map dayEntry)) else none

/-- Write Holiday Quad (R35, R37). -/
def ownWriteHolidayQuad (p : Port) (start : Byte) (days : Four (BitVec 16)) (s : State) : Judged :=
  pendingWrite (fun s => storeOrRange p (holidayItem s.store.pendingTables start days) s) s

/-- A week-table day type, 0 to 2 (R37). -/
def weekTypeOfByte (b : Byte) : Option (Fin 3) :=
  match b.toNat with
  | 0 => some 0
  | 1 => some 1
  | 2 => some 2
  | _ => none

/-- The store item of a Write Week Table, or none where a day type is out of range (R37). -/
def weekItem (w : Week Byte) : Option StoreItem :=
  match weekTypeOfByte w.mon, weekTypeOfByte w.tue, weekTypeOfByte w.wed, weekTypeOfByte w.thu,
      weekTypeOfByte w.fri, weekTypeOfByte w.sat, weekTypeOfByte w.sun with
  | some a, some b, some c, some d, some e, some f, some g => some (.weekTable ⟨a, b, c, d, e, f, g⟩)
  | _, _, _, _, _, _, _ => none

/-- Write Week Table (R35, R37). -/
def ownWriteWeekTable (p : Port) (types : Week Byte) (s : State) : Judged :=
  pendingWrite (storeOrRange p (weekItem types)) s

/-- Activate Schedule past its BUSY checks, by the pending state it finds (R38). -/
def armSchedule (day : BitVec 16) (s : State) : Judged :=
  match s.store.pendSched with
  | .none => refuse .invalid s
  | .loading t =>
    if validTables t then (.ok, s.setStore { s.store with pendSched := .armed t day.toNat }) else refuse .invalid s
  | .armed _ _ => refuse .busy s

/-- Activate Schedule (R38). -/
def ownActivateSchedule (day : BitVec 16) (s : State) : Judged :=
  checkThen s.storeBusy .busy (armSchedule day) s

/-- Cancel Pending (R40). -/
def ownCancelPending (s : State) : Judged :=
  checkThen s.storeBusy .busy (fun s => (.ok, s.setStore { s.store with pendSched := .none })) s

def takeWriteSwitchQuad (p : Port) (fr : Framing) (dayType start : Byte) (entries : Four SwitchArg) (s : State) : State :=
  takeWrite p 0x42 fr (ownWriteSwitchQuad p dayType start entries) s
def takeWriteHolidayQuad (p : Port) (fr : Framing) (start : Byte) (days : Four (BitVec 16)) (s : State) : State :=
  takeWrite p 0x43 fr (ownWriteHolidayQuad p start days) s
def takeWriteWeekTable (p : Port) (fr : Framing) (types : Week Byte) (s : State) : State :=
  takeWrite p 0x44 fr (ownWriteWeekTable p types) s
def takeActivateSchedule (p : Port) (fr : Framing) (day : BitVec 16) (s : State) : State :=
  takeWrite p 0x46 fr (ownActivateSchedule day) s
def takeCancelPending (p : Port) (fr : Framing) (s : State) : State := takeWrite p 0x47 fr ownCancelPending s

/-! ## Close dates (R41) -/

/-- The list that a Write Close Date Quad would leave (R41). -/
def resultingDates (st : Store) (start : Byte) (days : Four (BitVec 16)) : List Nat :=
  writeQuad st.closeDates start.toNat ((fourList days).map dayEntry)

/-- Write Close Date Quad (R41). -/
def ownWriteCloseDateQuad (p : Port) (start : Byte) (days : Four (BitVec 16)) (s : State) : Judged :=
  if !startAllowed start 20 s.store.closeDates.length then refuse .range s
  else if s.storeBusy then refuse .busy s
  else if !ascending (resultingDates s.store start days) then refuse .invalid s
  else storeItem p (.closeDates (resultingDates s.store start days)) s

def takeWriteCloseDateQuad (p : Port) (fr : Framing) (start : Byte) (days : Four (BitVec 16)) (s : State) : State :=
  takeWrite p 0x45 fr (ownWriteCloseDateQuad p start days) s

/-! ## Reset (R172) -/

/-- Reset: the arm, the close state and the store, then the Restart (R172). -/
def ownReset (p : Port) (s : State) : Judged :=
  if !(s.port p).arm then refuse .denied s
  else if !s.closeIdle then refuse .busy s
  else if s.storeBusy then refuse .busy s
  else (.ok, restarted s)

def takeReset (p : Port) (fr : Framing) (s : State) : State := takeWrite p 0x48 fr (ownReset p) s

/-! ## Write Limit (R146) -/

/-- The store item of a Write Limit, with hysteresis and minimum hold clamped, or none where an
argument is out of range (R146, section 8.1). -/
def limitItem (a : LimitArgs) : Option StoreItem :=
  match fourOfByte a.comparator, offOnOfCode a.enable.toNat, Basis.ofCode a.quantity.toNat, fourOfByte a.shed with
  | some k, some on, some q, some out =>
    some (.limit k { enabled := on, quantity := q, threshold := a.threshold.toNat,
                     hysteresis := clampTo 0 a.threshold.toNat a.hysteresis.toNat,
                     minHold := clampTo 0 3600 a.minHold.toNat, shed := out })
  | _, _, _, _ => none

/-- Write Limit (R146). -/
def ownWriteLimit (p : Port) (a : LimitArgs) (s : State) : Judged :=
  checkThen s.storeBusy .busy (storeOrRange p (limitItem a)) s

def takeWriteLimit (p : Port) (fr : Framing) (a : LimitArgs) (s : State) : State :=
  takeWrite p 0x49 fr (ownWriteLimit p a) s

/-! ## CONFIG class (R29, R121, R141, R165, R166, R169) -/

/-- Write Config Item for an item of the numbering (R169 steps 3 to 5). -/
def writeItem (p : Port) (item : ItemName) (value : BitVec 32) (s : State) : Judged :=
  if item.readOnly then refuse .range s
  else if item.calibrationLocked s.config then refuse .locked s
  else storeOrRange p ((Setting.checked s.config item value).map .setting) s

/-- Write Config Item (R169). -/
def ownWriteConfigItem (p : Port) (item : BitVec 16) (value : BitVec 32) (s : State) : Judged :=
  if s.storeBusy then refuse .busy s
  else
    match ItemName.ofNumber item with
    | none => refuse .range s
    | some name => writeItem p name value s

/-- What a Set Time does between its close and its opening: the present instant, TIME_VALID and the
pointer (R29 steps 2, 4 and 6). -/
def setInstant (new : Instant) (s : State) : State :=
  s.setClock { s.clock with now := new, timeValid := true, pointer := s.store.pointerAfter new }

/-- The status of a Set Time close (R29 step 1). -/
def setTimeStatus (s : State) : StatusSet :=
  StatusSet.single .timeSet ||| lengthStatus s.config s.sub.elapsed

/-- A Set Time that is taken (R29). It raises no close-date event of its own (R43). DESIGN CHOICE (assumption 2):
what the last second event has left due in `Due` stays due. A close-date event, a lockout expiry or a midnight event whose
row has not been taken yet is carried out at the new instant, the midnight event judging its activation by
the new day; a boundary or an expiry there is dropped, since the close of step 1 takes its place. -/
def timeSetTo (new : Instant) (s : State) : State :=
  let closed := emptyRing (closeWith (setTimeStatus s) s.clock.now (setInstant new) new s)
  logMarker .timeSet [s.clock.now.day, s.clock.now.sec] (refreshDayType (closed.raise .timeChanged))

/-- Set Time (R29). -/
def ownSetTime (day : BitVec 16) (second : BitVec 24) (s : State) : Judged :=
  if 86399 < second.toNat then refuse .range s else (.ok, timeSetTo ⟨day.toNat, second.toNat⟩ s)

/-- Clear Profile (R141). -/
def ownClearProfile (s : State) : Judged := if s.log.clearBusy then refuse .busy s else (.ok, startClear s)

/-- Clear History (R121). -/
def ownClearHistory (s : State) : Judged :=
  if !s.closeIdle then refuse .busy s else (.ok, s.setPer { s.per with history := [] })

/-- Set Lock Mode (R165). -/
def ownSetLockMode (p : Port) (mode : Byte) (s : State) : Judged :=
  checkThen s.storeBusy .busy (storeOrRange p ((LockMode.ofCode mode.toNat).map .lockMode)) s

/-- Lock Calibration for a channel (R166). -/
def lockChannel (p : Port) (c : Fin 4) (s : State) : Judged :=
  if (s.config.channels.get c).calLock then refuse .locked s
  else if s.storeBusy then refuse .busy s
  else storeItem p (.calibrationLock c) s

/-- Lock Calibration (R166). -/
def ownLockCalibration (p : Port) (channel : Byte) (s : State) : Judged :=
  match fourOfByte channel with
  | none => refuse .range s
  | some c => lockChannel p c s

def takeWriteConfigItem (p : Port) (fr : Framing) (item : BitVec 16) (value : BitVec 32) (s : State) : State :=
  takeWrite p 0x50 fr (ownWriteConfigItem p item value) s
def takeSetTime (p : Port) (fr : Framing) (day : BitVec 16) (second : BitVec 24) (s : State) : State :=
  takeWrite p 0x51 fr (ownSetTime day second) s
def takeClearProfile (p : Port) (fr : Framing) (s : State) : State := takeWrite p 0x52 fr ownClearProfile s
def takeClearHistory (p : Port) (fr : Framing) (s : State) : State := takeWrite p 0x53 fr ownClearHistory s
def takeSetLockMode (p : Port) (fr : Framing) (mode : Byte) (s : State) : State :=
  takeWrite p 0x54 fr (ownSetLockMode p mode) s
def takeLockCalibration (p : Port) (fr : Framing) (channel : Byte) (s : State) : State :=
  takeWrite p 0x55 fr (ownLockCalibration p channel) s

/-! ## Unknown codes (R162, R191) -/

/-- A transaction whose command byte is outside the code list: MALFORMED, and the latch is cleared. A
code of the list belongs to another command, and this one then does nothing. -/
def takeUnknownCommand (p : Port) (fr : Framing) (code : Byte) (s : State) : State :=
  if (commandClass code).isNone then takeWrite p code fr (refuse .malformed) s else s

/-! ## The rows -/

def execEnableWrite (p : Port) (fr : Framing) (s : State) : Step := .next (takeEnableWrite p fr s)
def execDisableWrite (p : Port) (fr : Framing) (s : State) : Step := .next (takeDisableWrite p fr s)
def execAttentionEnable (p : Port) (fr : Framing) (s : State) : Step := .next (takeAttentionEnable p fr s)
def execSetEventMask (p : Port) (fr : Framing) (mask : BitVec 16) (s : State) : Step := .next (takeSetEventMask p fr mask s)
def execResetEnable (p : Port) (fr : Framing) (s : State) : Step := .next (takeResetEnable p fr s)
def execBillingClose (p : Port) (fr : Framing) (s : State) : Step := .next (takeBillingClose p fr s)
def execAdjustTime (p : Port) (fr : Framing) (seconds : BitVec 16) (s : State) (freezeFirst : Bool := false) : Step :=
  .next (takeAdjustTime p fr seconds freezeFirst s)
def execWriteSwitchQuad (p : Port) (fr : Framing) (dayType start : Byte) (entries : Four SwitchArg) (s : State) : Step :=
  .next (takeWriteSwitchQuad p fr dayType start entries s)
def execWriteHolidayQuad (p : Port) (fr : Framing) (start : Byte) (days : Four (BitVec 16)) (s : State) : Step :=
  .next (takeWriteHolidayQuad p fr start days s)
def execWriteWeekTable (p : Port) (fr : Framing) (types : Week Byte) (s : State) : Step :=
  .next (takeWriteWeekTable p fr types s)
def execWriteCloseDateQuad (p : Port) (fr : Framing) (start : Byte) (days : Four (BitVec 16)) (s : State) : Step :=
  .next (takeWriteCloseDateQuad p fr start days s)
def execActivateSchedule (p : Port) (fr : Framing) (day : BitVec 16) (s : State) : Step :=
  .next (takeActivateSchedule p fr day s)
def execCancelPending (p : Port) (fr : Framing) (s : State) : Step := .next (takeCancelPending p fr s)
def execReset (p : Port) (fr : Framing) (s : State) : Step := .next (takeReset p fr s)
def execWriteLimit (p : Port) (fr : Framing) (a : LimitArgs) (s : State) : Step := .next (takeWriteLimit p fr a s)
def execWriteConfigItem (p : Port) (fr : Framing) (item : BitVec 16) (value : BitVec 32) (s : State) : Step :=
  .next (takeWriteConfigItem p fr item value s)
def execSetTime (p : Port) (fr : Framing) (day : BitVec 16) (second : BitVec 24) (s : State) : Step :=
  .next (takeSetTime p fr day second s)
def execClearProfile (p : Port) (fr : Framing) (s : State) : Step := .next (takeClearProfile p fr s)
def execClearHistory (p : Port) (fr : Framing) (s : State) : Step := .next (takeClearHistory p fr s)
def execSetLockMode (p : Port) (fr : Framing) (mode : Byte) (s : State) : Step := .next (takeSetLockMode p fr mode s)
def execLockCalibration (p : Port) (fr : Framing) (channel : Byte) (s : State) : Step :=
  .next (takeLockCalibration p fr channel s)
def execUnknownCommand (p : Port) (code : Byte) (s : State) (fr : Framing := .whole) : Step :=
  .next (takeUnknownCommand p fr code s)

end Sys2Proof.Machine
end

