-- ==== Sys2Proof/Machine/Events.lean ====
section
/-! DEFINITION. The events that are no command: the link, the seconds and what they bring, the pins,
the supply and the starts, the selects, and the completions. An event that cannot occur in the state
it meets changes nothing (assumption 4). -/

namespace Sys2Proof.Machine

/-- An event of the main domain: it reaches a block only while the main domain runs (R186, R187). -/
def whileRunning (f : State → State) (s : State) : State := if s.running then f s else s

/-! ## Seconds (R7, R19, R22, R112, R148, R185) -/

/-- The second event at the four stall timers, which stop in Hold (R7). -/
def countStalls (s : State) : State :=
  if s.sup.hold then s else countStall 3 (countStall 2 (countStall 1 (countStall 0 s)))

/-- The mark of a second event taken in Hold (R185). DESIGN CHOICE (assumption 2): where a close comes
with the same second, the mark comes before the close in either order of `closeFirst`. -/
def markHold (s : State) : State := if s.sup.hold then s.markSub .outage else s

/-- The boundary or the expiry taken where it is due. -/
def takeEnd (s : State) : State := takeExpiry (takeBoundary s)

/-- A second event on the main supply. `closeFirst` says that a boundary or an expiry of this second
is taken before the monitor's part (R150); otherwise it is left due to its own row (assumption 2). -/
def secondTaken (closeFirst : Bool) (s : State) : State :=
  let counted := markHold (timeBaseSecond (settleDue s))
  let closed := if closeFirst then takeEnd counted else counted
  monitorSecond (countLockout (countStalls closed))

/-- A second of the crystal: an event on the main supply, and otherwise a second counted on VBAT (R19,
R186). -/
def secondStep (closeFirst : Bool) (s : State) : State :=
  if s.running then secondTaken closeFirst s else advanceSecond s

/-! ## Pins (R25, R26, R111, R165) -/

/-- A sync pulse: it closes the open sub-interval in EXTERNAL mode, and is discarded in INTERNAL mode
(R25, R26). -/
def syncPulse (s : State) : State :=
  let s1 := s.setPins { s.pins with sync := true }
  match s1.config.syncMode with
  | .internal => s1
  | .external => closeNow (lengthStatus s1.config s1.sub.elapsed) s1

/-- A button press (R111). -/
def buttonPress (s : State) : State :=
  let s1 := s.setPins { s.pins with close := true }
  if s1.pins.guard && !s1.sup.hold && s1.canFreeze then freeze .button false s1 else s1

/-! ## The rise of select (R159, R161, R162) -/

/-- A READ-class command of the list taken with its argument bytes. -/
def takeReadCode (p : Port) (code : Byte) (args : List Byte) (s : State) : State :=
  match code.toNat with
  | 0x10 => takeReadStatus p s
  | 0x11 => takeReadTime p s
  | 0x12 => takeReadSchedule p (argByte args 0) (argByte args 1) s
  | 0x13 => takeReadCloseDates p s
  | 0x14 => takeReadChannelStatus p (argByte args 0) s
  | 0x15 => takeReadRegisters p (argByte args 0) s
  | 0x16 => takeReadSubInterval p s
  | 0x17 => takeReadDemand p s
  | 0x18 => takeReadMaxima p (argByte args 0) s
  | 0x19 => takeReadPeriod p (argByte args 0) s
  | 0x1A => takeReadPeriodState p s
  | 0x1B => takeReadProfile p (argByte args 0) s
  | 0x1C => takeReadProfileState p s
  | 0x1D => takeReadLimits p s
  | 0x1E => takeReadConfigItem p (arg16 args 0) s
  | 0x1F => takeSetProfileCursor p (argByte args 0) (argByte args 1) (arg32 args 2) s
  | 0x20 => takeSetProfileWindow p (argByte args 0) (arg32 args 1) (arg32 args 5) s
  | 0x21 => takeRequestPreview p s
  | 0x22 => takeAttentionFetch p s
  | 0x23 => takeEventTest p (argByte args 0) s
  | _ => s

/-- The framing of a write-class transaction by the bytes and the partial bits after the command byte
(R162 step 2). -/
def framingOf (code : Byte) (args : List Byte) (partialBits : Nat) : Framing :=
  if args.length = commandArgs code ∧ partialBits = 0 then .whole else .broken args.length

/-- An entry of Write Switch Quad in the argument bytes (section 12.3). -/
def switchArg (args : List Byte) (i : Nat) : SwitchArg := { minute := arg16 args i, rate := argByte args (i + 2) }

/-- Four day numbers in the argument bytes. -/
def dayArgs (args : List Byte) (i : Nat) : Four (BitVec 16) :=
  ⟨arg16 args i, arg16 args (i + 2), arg16 args (i + 4), arg16 args (i + 6)⟩

/-- The arguments of Write Limit in the argument bytes (section 12.3). -/
def limitArgs (args : List Byte) : LimitArgs :=
  { comparator := argByte args 0, enable := argByte args 1, quantity := argByte args 2,
    threshold := arg32 args 3, hysteresis := arg32 args 7, minHold := arg16 args 11, shed := argByte args 13 }

/-- The seven day types of Write Week Table in the argument bytes. -/
def weekArgs (args : List Byte) : Week Byte :=
  ⟨argByte args 0, argByte args 1, argByte args 2, argByte args 3, argByte args 4, argByte args 5, argByte args 6⟩

/-- A write-class command, or an unknown code, taken with its argument bytes. -/
def takeWriteCode (p : Port) (code : Byte) (fr : Framing) (args : List Byte) (freezeFirst : Bool) (s : State) : State :=
  match code.toNat with
  | 0x30 => takeEnableWrite p fr s
  | 0x31 => takeDisableWrite p fr s
  | 0x32 => takeAttentionEnable p fr s
  | 0x33 => takeSetEventMask p fr (arg16 args 0) s
  | 0x34 => takeResetEnable p fr s
  | 0x40 => takeBillingClose p fr s
  | 0x41 => takeAdjustTime p fr (arg16 args 0) freezeFirst s
  | 0x42 => takeWriteSwitchQuad p fr (argByte args 0) (argByte args 1)
      ⟨switchArg args 2, switchArg args 5, switchArg args 8, switchArg args 11⟩ s
  | 0x43 => takeWriteHolidayQuad p fr (argByte args 0) (dayArgs args 1) s
  | 0x44 => takeWriteWeekTable p fr (weekArgs args) s
  | 0x45 => takeWriteCloseDateQuad p fr (argByte args 0) (dayArgs args 1) s
  | 0x46 => takeActivateSchedule p fr (arg16 args 0) s
  | 0x47 => takeCancelPending p fr s
  | 0x48 => takeReset p fr s
  | 0x49 => takeWriteLimit p fr (limitArgs args) s
  | 0x50 => takeWriteConfigItem p fr (arg16 args 0) (arg32 args 2) s
  | 0x51 => takeSetTime p fr (arg16 args 0) (arg24 args 2) s
  | 0x52 => takeClearProfile p fr s
  | 0x53 => takeClearHistory p fr s
  | 0x54 => takeSetLockMode p fr (argByte args 0) s
  | 0x55 => takeLockCalibration p fr (argByte args 0) s
  | _ => takeUnknownCommand p fr code s

/-- The end of a transaction that is past a snapshot instant, `k` bytes having been clocked since; in
any other transaction state, nothing. -/
def finishReading (p : Port) (k : Nat) (s : State) : State :=
  match (s.port p).tx with
  | .replying _ reply e => endReading p reply e k s
  | _ => s

/-- A READ-class transaction of which no byte was taken by a row before: without all its arguments it
has no snapshot and no effect, and meets filler alone (R161, R191). -/
def riseAfterRead (p : Port) (code : Byte) (args : List Byte) (s : State) : State :=
  if args.length < commandArgs code then s.setPort p ((s.port p).endRead (fillers (1 + args.length)))
  else finishReading p (args.length - commandArgs code) (takeReadCode p code args s)

/-- The rise of select in a transaction whose bytes are given whole. -/
def riseSelected (p : Port) (bytes : List Byte) (partialBits : Nat) (dataIn freezeFirst : Bool) (s : State) : State :=
  match bytes with
  | [] => voidTransaction p partialBits dataIn s
  | code :: args =>
    if commandClass code = some .read then riseAfterRead p code args s
    else takeWriteCode p code (framingOf code args partialBits) args freezeFirst s

/-- The rise of select (R159): of a transaction with no byte taken so far, or of a READ-class one past
its snapshot instant. -/
def riseSelect (p : Port) (bytes : List Byte) (partialBits : Nat) (dataIn freezeFirst : Bool) (s : State) : State :=
  match (s.port p).tx with
  | .idle => s
  | .selected => riseSelected p bytes partialBits dataIn freezeFirst s
  | .replying _ _ _ => finishReading p bytes.length s

/-- The port reset, at the fourth void transaction of the pattern (R170). -/
def portReset (p : Port) (s : State) : State :=
  if s.atCommand p && (s.port p).pattern == 3 then s.setPort p (s.port p).resetPort else s

/-! ## Completions (R116, R123, R143, R168) -/

/-- The store completion, where a write is in flight (R168). -/
def storeCompletion (s : State) : State :=
  match s.store.writing with
  | some w => completeStore w s
  | none => s

/-- The close completion, in CLOSING or RESUMING (R116). -/
def closeCompletion (s : State) : State :=
  match s.per.close with
  | .idle => s
  | .closing x => completeClose x s
  | .resuming x => completeClose x s

/-- The Preview completion, where the port's Preview is RUNNING (R123). -/
def previewCompletion (p : Port) (s : State) : State :=
  match (s.port p).preview with
  | some x => completePreview p x s
  | none => s

/-! ## The rows -/

def execLinkFrame (f : LinkFrame) (s : State) : Step := .next (takeFrame f s)
def execSecondEvent (closeFirst : Bool) (s : State) : Step := .next (secondStep closeFirst s)
def execMidnightEvent (s : State) : Step := .next (whileRunning takeMidnight s)
def execStallTimeout (c : Fin 4) (s : State) : Step := .next (whileRunning (takeStall c) s)
def execBoundaryEvent (s : State) : Step := .next (whileRunning takeBoundary s)
def execSyncPulse (s : State) : Step := .next (whileRunning (fun s => if s.pins.sync then s else syncPulse s) s)
def execSyncExpiry (s : State) : Step := .next (whileRunning takeExpiry s)
def execCloseDateEvent (s : State) : Step := .next (whileRunning takeDate s)
def execLockoutExpiry (s : State) : Step := .next (whileRunning takeLockout s)
def execButtonPress (s : State) : Step := .next (whileRunning (fun s => if s.pins.close then s else buttonPress s) s)
def execGuardChange (asserted : Bool) (s : State) : Step :=
  .next (whileRunning (fun s => s.setPins { s.pins with guard := asserted }) s)
def execHoldEntry (s : State) : Step := .next (whileRunning (fun s => if s.pins.pfail then s else enterHold s) s)
def execHoldRelease (s : State) : Step := .next (whileRunning (fun s => if s.pins.pfail then releaseHold s else s) s)
def execSupplyLoss (s : State) : Step := .next (whileRunning loseSupply s)

/-- The backup monitor works only while the main supply is lost (R186). -/
def execRetentionInvalid (s : State) : Step :=
  .next (if s.running then s else s.setSup { s.sup with retentionValid := false })

/-- A cold start is the start of a power-up that finds retention not valid (R187). -/
def execColdStart (lv : PinLevels) (s : State) : Step :=
  .next (if !s.running && !s.sup.retentionValid then coldStarted lv s else s)

/-- A warm start is the start of a power-up that finds retention valid (R187, R188). -/
def execWarmStart (lv : PinLevels) (s : State) : Step :=
  .next (if !s.running && s.sup.retentionValid then warmStarted lv s else s)

def execSelectFall (p : Port) (s : State) : Step := .next (beginTransaction p s)
def execSelectRise (p : Port) (bytes : List Byte) (partialBits : Nat) (dataIn : Bool) (s : State)
    (freezeFirst : Bool := false) : Step :=
  .next (whileRunning (riseSelect p bytes partialBits dataIn freezeFirst) s)
def execPortReset (p : Port) (s : State) : Step := .next (portReset p s)
def execStoreCompletion (s : State) : Step := .next (whileRunning storeCompletion s)
def execCloseCompletion (s : State) : Step := .next (whileRunning closeCompletion s)
def execPreviewCompletion (p : Port) (s : State) : Step := .next (whileRunning (previewCompletion p) s)
def execClearProfileCompletion (s : State) : Step := .next (whileRunning finishClear s)
def execButtonRelease (s : State) : Step := .next (whileRunning (fun s => s.setPins { s.pins with close := false }) s)
def execSyncLevelFall (s : State) : Step := .next (whileRunning (fun s => s.setPins { s.pins with sync := false }) s)

end Sys2Proof.Machine
end

