-- ==== Sys2Proof/Machine/Dispatch.lean ====
section
/-! DEFINITION. The one dispatch: each command to its meaning. -/

namespace Sys2Proof.Machine

/-- The effect of a command on everything but the queue. -/
def exec (i : Instr) (s : State) : Host.Outcome State Fault Refusal :=
  match i with
  | .linkFrame f => Sys2Proof.Machine.execLinkFrame f s
  | .secondEvent closeFirst => Sys2Proof.Machine.execSecondEvent closeFirst s
  | .midnightEvent => Sys2Proof.Machine.execMidnightEvent s
  | .stallTimeout c => Sys2Proof.Machine.execStallTimeout c s
  | .boundaryEvent => Sys2Proof.Machine.execBoundaryEvent s
  | .syncPulse => Sys2Proof.Machine.execSyncPulse s
  | .syncExpiry => Sys2Proof.Machine.execSyncExpiry s
  | .closeDateEvent => Sys2Proof.Machine.execCloseDateEvent s
  | .lockoutExpiry => Sys2Proof.Machine.execLockoutExpiry s
  | .buttonPress => Sys2Proof.Machine.execButtonPress s
  | .guardChange asserted => Sys2Proof.Machine.execGuardChange asserted s
  | .holdEntry => Sys2Proof.Machine.execHoldEntry s
  | .holdRelease => Sys2Proof.Machine.execHoldRelease s
  | .supplyLoss => Sys2Proof.Machine.execSupplyLoss s
  | .retentionInvalid => Sys2Proof.Machine.execRetentionInvalid s
  | .coldStart lv => Sys2Proof.Machine.execColdStart lv s
  | .warmStart lv => Sys2Proof.Machine.execWarmStart lv s
  | .selectFall p => Sys2Proof.Machine.execSelectFall p s
  | .selectRise p bytes partialBits dataIn freezeFirst => Sys2Proof.Machine.execSelectRise p bytes partialBits dataIn s freezeFirst
  | .portReset p => Sys2Proof.Machine.execPortReset p s
  | .readStatus p => Sys2Proof.Machine.execReadStatus p s
  | .readTime p => Sys2Proof.Machine.execReadTime p s
  | .readSchedule p tables table => Sys2Proof.Machine.execReadSchedule p tables table s
  | .readCloseDates p => Sys2Proof.Machine.execReadCloseDates p s
  | .readChannelStatus p channel => Sys2Proof.Machine.execReadChannelStatus p channel s
  | .readRegisters p code => Sys2Proof.Machine.execReadRegisters p code s
  | .readSubInterval p => Sys2Proof.Machine.execReadSubInterval p s
  | .readDemand p => Sys2Proof.Machine.execReadDemand p s
  | .readMaxima p code => Sys2Proof.Machine.execReadMaxima p code s
  | .readPeriod p index => Sys2Proof.Machine.execReadPeriod p index s
  | .readPeriodState p => Sys2Proof.Machine.execReadPeriodState p s
  | .readProfile p n => Sys2Proof.Machine.execReadProfile p n s
  | .readProfileState p => Sys2Proof.Machine.execReadProfileState p s
  | .readLimits p => Sys2Proof.Machine.execReadLimits p s
  | .readConfigItem p item => Sys2Proof.Machine.execReadConfigItem p item s
  | .setProfileCursor p direction target sequence => Sys2Proof.Machine.execSetProfileCursor p direction target sequence s
  | .setProfileWindow p selector low high => Sys2Proof.Machine.execSetProfileWindow p selector low high s
  | .requestPreview p => Sys2Proof.Machine.execRequestPreview p s
  | .attentionFetch p => Sys2Proof.Machine.execAttentionFetch p s
  | .eventTest p flag => Sys2Proof.Machine.execEventTest p flag s
  | .enableWrite p fr => Sys2Proof.Machine.execEnableWrite p fr s
  | .disableWrite p fr => Sys2Proof.Machine.execDisableWrite p fr s
  | .attentionEnable p fr => Sys2Proof.Machine.execAttentionEnable p fr s
  | .setEventMask p fr mask => Sys2Proof.Machine.execSetEventMask p fr mask s
  | .resetEnable p fr => Sys2Proof.Machine.execResetEnable p fr s
  | .billingClose p fr => Sys2Proof.Machine.execBillingClose p fr s
  | .adjustTime p fr seconds freezeFirst => Sys2Proof.Machine.execAdjustTime p fr seconds s freezeFirst
  | .writeSwitchQuad p fr dayType start entries => Sys2Proof.Machine.execWriteSwitchQuad p fr dayType start entries s
  | .writeHolidayQuad p fr start days => Sys2Proof.Machine.execWriteHolidayQuad p fr start days s
  | .writeWeekTable p fr types => Sys2Proof.Machine.execWriteWeekTable p fr types s
  | .writeCloseDateQuad p fr start days => Sys2Proof.Machine.execWriteCloseDateQuad p fr start days s
  | .activateSchedule p fr day => Sys2Proof.Machine.execActivateSchedule p fr day s
  | .cancelPending p fr => Sys2Proof.Machine.execCancelPending p fr s
  | .reset p fr => Sys2Proof.Machine.execReset p fr s
  | .writeLimit p fr args => Sys2Proof.Machine.execWriteLimit p fr args s
  | .writeConfigItem p fr item value => Sys2Proof.Machine.execWriteConfigItem p fr item value s
  | .setTime p fr day second => Sys2Proof.Machine.execSetTime p fr day second s
  | .clearProfile p fr => Sys2Proof.Machine.execClearProfile p fr s
  | .clearHistory p fr => Sys2Proof.Machine.execClearHistory p fr s
  | .setLockMode p fr mode => Sys2Proof.Machine.execSetLockMode p fr mode s
  | .lockCalibration p fr channel => Sys2Proof.Machine.execLockCalibration p fr channel s
  | .unknownCommand p code fr => Sys2Proof.Machine.execUnknownCommand p code s fr
  | .storeCompletion => Sys2Proof.Machine.execStoreCompletion s
  | .closeCompletion => Sys2Proof.Machine.execCloseCompletion s
  | .previewCompletion p => Sys2Proof.Machine.execPreviewCompletion p s
  | .clearProfileCompletion => Sys2Proof.Machine.execClearProfileCompletion s
  | .buttonRelease => Sys2Proof.Machine.execButtonRelease s
  | .syncLevelFall => Sys2Proof.Machine.execSyncLevelFall s

end Sys2Proof.Machine
end

