-- ==== Sys2Proof/Safety.lean ====
section
/-! DEFINITION. What a safe state is: the properties the spec says hold at every instant, each as a
predicate on State, the readiness of a port for a command, and what an event or a close leaves, listed from the
rules for the statements. -/

namespace Sys2Proof.Machine

/-! ## Configuration (sections 1.4, 5.9 and 8.1, R9, R21, R24, R28, R57, R74, R80, R112) -/

/-- A channel's K and SS are in range. -/
def ChannelConfig.InRange (c : ChannelConfig) : Prop :=
  1 ≤ c.k ∧ c.k ≤ 65535 ∧ -6 ≤ c.ss ∧ c.ss ≤ 6

/-- A comparator's settings are in range (section 8.1). -/
def LimitConfig.InRange (l : LimitConfig) : Prop :=
  l.threshold ≤ demandCap ∧ l.hysteresis ≤ l.threshold ∧ l.minHold ≤ 3600

/-- The billing settings are in range (R104 to R106). -/
def BillSettings.InRange (b : BillSettings) : Prop :=
  b.ratchetPct ≤ 100 ∧ b.lookback ≤ 12 ∧ b.contractMin ≤ demandCap ∧ b.ratio ≤ 262143
    ∧ 5000 ≤ b.pfRef ∧ b.pfRef ≤ 10000 ∧ 1000 ≤ b.pfFloor ∧ b.pfFloor ≤ 10000

/-- S and N are in range, and T does not exceed 3600 s (R24, R80). -/
def Config.WindowInRange (c : Config) : Prop :=
  c.subLen ∈ subLenValues ∧ 1 ≤ c.windowLen ∧ c.windowLen ≤ 15 ∧ c.windowLen * c.subLen ≤ 3600

/-- Every configuration item is in range. -/
def Config.InRange (c : Config) : Prop :=
  c.WindowInRange ∧ (∀ i, (c.channels.get i).InRange) ∧ (∀ k, (c.limits.get k).InRange) ∧ c.bill.InRange
    ∧ 1 ≤ c.stallTimeout ∧ c.stallTimeout ≤ 60 ∧ c.grace ≤ 60 ∧ c.weekdayOffset ≤ 6 ∧ c.closeSecond ≤ 86399
    ∧ 6 ≤ c.digits ∧ c.digits ≤ 12 ∧ c.pickupThreshold ≤ 65535 ∧ c.pickupLength ≤ 63 ∧ c.lockoutLen ≤ 86400

/-- A store item, when it is committed, leaves the configuration in range. -/
def StoreItem.KeepsRange (i : StoreItem) (c : Config) : Prop :=
  match i with
  | .setting v => (v.apply c).InRange
  | .limit _ l => l.InRange
  | _ => True

/-- Every item in effect is in range, and so is the item of a store write in flight. -/
def State.ConfigSafe (s : State) : Prop :=
  s.config.InRange ∧ ∀ w ∈ s.store.writing, w.item.KeepsRange s.config

/-! ## Time (R19, R22) -/

/-- An instant of the calendar. -/
def Instant.InRange (t : Instant) : Prop := t.day < cycleDays ∧ t.sec < daySeconds

/-- The present instant and the bounds of the open sub-interval are instants of the calendar. -/
def State.ClockSafe (s : State) : Prop :=
  s.clock.now.InRange ∧ s.sub.start.InRange ∧ s.sub.nominalEnd.InRange

/-- In INTERNAL mode the nominal end stands on a multiple of S (R22). -/
def State.EndOnMultiple (s : State) : Prop :=
  s.config.syncMode = .internal → s.sub.nominalEnd.sec % s.config.subLen = 0

/-! ## Schedule and close dates (R32, R38, R41) -/

/-- The active tables, and those of an armed schedule, pass the validation of R38. -/
def State.ScheduleSafe (s : State) : Prop :=
  validTables s.store.active = true ∧
    match s.store.pendSched with
    | .armed t _ => validTables t = true
    | _ => True

/-- The close-date list ascends strictly, in the store and in a write in flight (R41). -/
def State.DatesSafe (s : State) : Prop :=
  ascending s.store.closeDates = true ∧
    ∀ w ∈ s.store.writing, ∀ l, w.item = .closeDates l → ascending l = true

/-! ## Registers (R53, R54) -/

/-- The sum of the six rates' quints, modulo 2^64 quantity by quantity. -/
def PerRate.ratesSum (x : PerRate (Quint Energy)) : Quint Energy :=
  ((((x.r1.zipWith (· + ·) x.r2).zipWith (· + ·) x.r3).zipWith (· + ·) x.r4).zipWith (· + ·) x.r5).zipWith (· + ·) x.r6

/-- Rate A is the sum of the rates, and a rate outside the rate-present set has no period energy. -/
def Totalizer.Balanced (t : Totalizer) : Prop :=
  t.acc.rA = t.acc.ratesSum ∧ t.period.rA = t.period.ratesSum
    ∧ ∀ r, RateMask.has t.present r = false → t.period.get (.one r) = .all 0

/-! ## Ring (R63) -/

/-- The ring holds at most N entries, and their sequences run up to the last sequence. -/
def State.RingSafe (s : State) : Prop :=
  s.dem.ring.length ≤ s.config.windowLen ∧
    ∀ i, ∀ h : i < s.dem.ring.length,
      (s.dem.ring[i]'h).sequence = s.tot.lastSeq - BitVec.ofNat 32 (s.dem.ring.length - 1 - i)

/-! ## Periods (R110, R119) -/

/-- The number that every period in the history lies below: that of the period being closed, or of the
current one. -/
def PeriodUnit.bound (p : PeriodUnit) : Seq :=
  match p.close with
  | .idle => p.number
  | .closing x => x.number
  | .resuming x => x.number

/-- Whether a close is in flight. -/
def PeriodUnit.busy (p : PeriodUnit) : Bool :=
  match p.close with
  | .idle => false
  | _ => true

/-- The history holds at most 13 records, their numbers strictly increase, and they lie below the
period that closes next (R119). -/
def PeriodUnit.HistorySafe (p : PeriodUnit) : Prop :=
  p.history.length ≤ historyMax
    ∧ List.Pairwise (fun a b => a.number.toNat < b.number.toNat) p.history
    ∧ (∀ r ∈ p.history, r.number.toNat < p.bound.toNat)
    ∧ (p.busy = true → p.bound.toNat < p.number.toNat)

/-! ## Profile Log (R127, R128) -/

/-- A record's length is 4 to 24 words (R127). -/
def LogBody.LengthSafe (b : LogBody) : Prop := 4 ≤ b.words ∧ b.words ≤ 24

/-- The records occupy at most 16,384 words, their sequences run up to the next one, and every length
is in range (R127). -/
def ProfileLog.Safe (l : ProfileLog) : Prop :=
  wordsOf l.records ≤ logWords
    ∧ (∀ i, ∀ h : i < l.records.length,
        (l.records[i]'h).sequence = l.nextSeq - BitVec.ofNat 32 (l.records.length - i))
    ∧ (∀ r ∈ l.records, r.body.LengthSafe) ∧ ∀ b ∈ l.slot, b.LengthSafe

/-! ## Ports and Hold (R159, R164, R170, R183) -/

/-- In Hold both latches and the arm are clear, the customer's arm is never set, the reset pattern
counts are 0 to 3, and Hold stands with the filtered PFAIL level. -/
def State.PortsSafe (s : State) : Prop :=
  (s.sup.hold = true → s.util.latch = false ∧ s.cust.latch = false ∧ s.util.arm = false)
    ∧ s.cust.arm = false ∧ s.util.pattern ≤ 3 ∧ s.cust.pattern ≤ 3 ∧ s.sup.hold = s.pins.pfail

/-! ## Expected numbers (R4) -/

/-- A channel holds an expected sequence number in ACTIVE and STALLED, and none in WAITING and OFF. -/
def State.ExpectedHeld (s : State) : Prop :=
  ∀ c, (s.chans.get c).expected.isSome = true ↔ (s.chans.get c).state = .active ∨ (s.chans.get c).state = .stalled

/-! ## All of it -/

/-- A safe state. -/
def State.Safe (s : State) : Prop :=
  s.ConfigSafe ∧ s.ClockSafe ∧ s.EndOnMultiple ∧ s.ScheduleSafe ∧ s.DatesSafe ∧ s.tot.Balanced ∧ s.RingSafe
    ∧ s.per.HistorySafe ∧ s.log.Safe ∧ s.PortsSafe ∧ s.ExpectedHeld

/-! ## What a command finds (R160 to R165, R184) -/

/-- The main domain runs, and the port's transaction has no byte taken yet. -/
def State.Selected (s : State) (p : Port) : Prop := s.sup.mainSupply = true ∧ (s.port p).tx = .selected

/-- A PORT-class command can be taken: the part is not in Hold. -/
def State.TakesPort (s : State) (p : Port) : Prop := s.Selected p ∧ s.sup.hold = false

/-- An OPERATION-class command can be taken: the latch of its port is set too. -/
def State.TakesOperation (s : State) (p : Port) : Prop := s.TakesPort p ∧ (s.port p).latch = true

/-- The lock mode allows a CONFIG-class command (R165). -/
def State.Unlocked (s : State) : Prop :=
  s.config.lockMode = .opened ∨ (s.config.lockMode = .guarded ∧ s.pins.guard = true)

/-- A CONFIG-class command can be taken: the lock mode allows it too. -/
def State.TakesConfig (s : State) : Prop := s.TakesOperation .utility ∧ s.Unlocked

/-- A port whose write-class transaction of a command byte and `n` whole bytes after it has ended with a
result, filler having been on data out throughout (R162, R163, R171, R191). -/
def State.finishAfter (s : State) (p : Port) (code : Byte) (n : Nat) (r : Result) (latch arm : Bool) : State :=
  s.setPort p { s.port p with
    tx := .idle, lastResult := r, lastCommand := code, latch := latch, arm := arm, pattern := 0
    dataOut := List.replicate (1 + n) 0xFF }

/-- A port whose write-class transaction has ended with a result after exactly its bytes. -/
def State.finish (s : State) (p : Port) (code : Byte) (r : Result) (latch arm : Bool) : State :=
  s.finishAfter p code (commandArgs code) r latch arm

/-- A port past the snapshot instant of a READ-class command: tag, result and data, filler having been on
data out until then (R161, R191). -/
def State.answered (s : State) (p : Port) (code : Byte) (r : Result) (data : List Byte) (e : ReadEffect) : State :=
  s.setPort p { s.port p with
    tx := .replying code (BitVec.ofNat 8 s.tot.lastSeq.toNat :: r.code :: data) e
    dataOut := List.replicate (1 + commandArgs code) 0xFF
    attn := { (s.port p).attn with fresh := 0 } }

/-- A store write begun (R167). -/
def State.storing (s : State) (p : Port) (i : StoreItem) : State :=
  s.setStore { s.store with writing := some { port := p, item := i } }

/-! ## The commands of a port, and their bytes (section 12.3) -/

/-- The port whose command or event a row is, if it is one of a port. -/
def portOf (i : Instr) : Option Port :=
  match i with
  | .selectFall p => some p
  | .selectRise p _ _ _ _ => some p
  | .portReset p => some p
  | .readStatus p => some p
  | .readTime p => some p
  | .readSchedule p _ _ => some p
  | .readCloseDates p => some p
  | .readChannelStatus p _ => some p
  | .readRegisters p _ => some p
  | .readSubInterval p => some p
  | .readDemand p => some p
  | .readMaxima p _ => some p
  | .readPeriod p _ => some p
  | .readPeriodState p => some p
  | .readProfile p _ => some p
  | .readProfileState p => some p
  | .readLimits p => some p
  | .readConfigItem p _ => some p
  | .setProfileCursor p _ _ _ => some p
  | .setProfileWindow p _ _ _ => some p
  | .requestPreview p => some p
  | .attentionFetch p => some p
  | .eventTest p _ => some p
  | .enableWrite p _ => some p
  | .disableWrite p _ => some p
  | .attentionEnable p _ => some p
  | .setEventMask p _ _ => some p
  | .resetEnable p _ => some p
  | .billingClose p _ => some p
  | .adjustTime p _ _ _ => some p
  | .writeSwitchQuad p _ _ _ _ => some p
  | .writeHolidayQuad p _ _ _ => some p
  | .writeWeekTable p _ _ => some p
  | .writeCloseDateQuad p _ _ _ => some p
  | .activateSchedule p _ _ => some p
  | .cancelPending p _ => some p
  | .reset p _ => some p
  | .writeLimit p _ _ => some p
  | .writeConfigItem p _ _ _ => some p
  | .setTime p _ _ _ => some p
  | .clearProfile p _ => some p
  | .clearHistory p _ => some p
  | .setLockMode p _ _ => some p
  | .lockCalibration p _ _ => some p
  | .unknownCommand p _ _ => some p
  | .previewCompletion p => some p
  | _ => none

/-- The bytes of a number of 16, 24 or 32 bits, most significant first (section 12.1). -/
def bytes16 (v : BitVec 16) : List Byte := [v.extractLsb' 8 8, v.extractLsb' 0 8]
def bytes24 (v : BitVec 24) : List Byte := [v.extractLsb' 16 8, v.extractLsb' 8 8, v.extractLsb' 0 8]
def bytes32 (v : BitVec 32) : List Byte :=
  [v.extractLsb' 24 8, v.extractLsb' 16 8, v.extractLsb' 8 8, v.extractLsb' 0 8]

/-- The bytes of an entry of a switch quad, and of a quad of days. -/
def switchBytes (a : SwitchArg) : List Byte := bytes16 a.minute ++ [a.rate]
def dayBytes (d : Four (BitVec 16)) : List Byte := bytes16 d.e0 ++ bytes16 d.e1 ++ bytes16 d.e2 ++ bytes16 d.e3

/-- The whole transaction of a write-class command: its port, its framing, its command byte and its
argument bytes, by the table of section 12.3. -/
def writeBytes (i : Instr) : Option (Port × Framing × Byte × List Byte) :=
  match i with
  | .enableWrite p fr => some (p, fr, 0x30, [])
  | .disableWrite p fr => some (p, fr, 0x31, [])
  | .attentionEnable p fr => some (p, fr, 0x32, [])
  | .setEventMask p fr m => some (p, fr, 0x33, bytes16 m)
  | .resetEnable p fr => some (p, fr, 0x34, [])
  | .billingClose p fr => some (p, fr, 0x40, [])
  | .adjustTime p fr v _ => some (p, fr, 0x41, bytes16 v)
  | .writeSwitchQuad p fr d i e =>
    some (p, fr, 0x42, [d, i] ++ switchBytes e.e0 ++ switchBytes e.e1 ++ switchBytes e.e2 ++ switchBytes e.e3)
  | .writeHolidayQuad p fr i d => some (p, fr, 0x43, [i] ++ dayBytes d)
  | .writeWeekTable p fr w => some (p, fr, 0x44, [w.mon, w.tue, w.wed, w.thu, w.fri, w.sat, w.sun])
  | .writeCloseDateQuad p fr i d => some (p, fr, 0x45, [i] ++ dayBytes d)
  | .activateSchedule p fr d => some (p, fr, 0x46, bytes16 d)
  | .cancelPending p fr => some (p, fr, 0x47, [])
  | .reset p fr => some (p, fr, 0x48, [])
  | .writeLimit p fr a =>
    some (p, fr, 0x49, [a.comparator, a.enable, a.quantity] ++ bytes32 a.threshold ++ bytes32 a.hysteresis
      ++ bytes16 a.minHold ++ [a.shed])
  | .writeConfigItem p fr n v => some (p, fr, 0x50, bytes16 n ++ bytes32 v)
  | .setTime p fr d t => some (p, fr, 0x51, bytes16 d ++ bytes24 t)
  | .clearProfile p fr => some (p, fr, 0x52, [])
  | .clearHistory p fr => some (p, fr, 0x53, [])
  | .setLockMode p fr m => some (p, fr, 0x54, [m])
  | .lockCalibration p fr c => some (p, fr, 0x55, [c])
  | .unknownCommand p code fr => some (p, fr, code, [])
  | _ => none

/-- The command byte and the argument bytes of a READ-class command, by the table of section 12.3. -/
def readBytes (i : Instr) : Option (Port × Byte × List Byte) :=
  match i with
  | .readStatus p => some (p, 0x10, [])
  | .readTime p => some (p, 0x11, [])
  | .readSchedule p a t => some (p, 0x12, [a, t])
  | .readCloseDates p => some (p, 0x13, [])
  | .readChannelStatus p c => some (p, 0x14, [c])
  | .readRegisters p r => some (p, 0x15, [r])
  | .readSubInterval p => some (p, 0x16, [])
  | .readDemand p => some (p, 0x17, [])
  | .readMaxima p r => some (p, 0x18, [r])
  | .readPeriod p i => some (p, 0x19, [i])
  | .readPeriodState p => some (p, 0x1A, [])
  | .readProfile p n => some (p, 0x1B, [n])
  | .readProfileState p => some (p, 0x1C, [])
  | .readLimits p => some (p, 0x1D, [])
  | .readConfigItem p n => some (p, 0x1E, bytes16 n)
  | .setProfileCursor p d t q => some (p, 0x1F, [d, t] ++ bytes32 q)
  | .setProfileWindow p k a b => some (p, 0x20, [k] ++ bytes32 a ++ bytes32 b)
  | .requestPreview p => some (p, 0x21, [])
  | .attentionFetch p => some (p, 0x22, [])
  | .eventTest p f => some (p, 0x23, [f])
  | _ => none

/-! ## What an event does, as the rules list it -/

/-- The Profile Log after a record has come to it: the record takes the next sequence at the newest end,
once the oldest records have left that must leave to make room, or it takes the holding slot during a
clear (R133, R142). -/
def ProfileLog.logged (l : ProfileLog) (b : LogBody) : ProfileLog :=
  if l.clearBusy then
    { l with slot := some { b with status := if l.slot.isSome then b.status.mark .gap else b.status } }
  else
    { l with records := trimFor b.words l.records ++ [{ sequence := l.nextSeq, body := b }], nextSeq := l.nextSeq + 1 }

/-- A record comes to the Profile Log, and nothing else of the log changes. -/
def State.Logged (s t : State) (b : LogBody) : Prop := t.log = s.log.logged b

/-- An enabled comparator after an evaluating second event that finds a value: its timer counts in ALERT
and RELEASING, and then it takes one transition of the table (R151, R152). -/
def LimitConfig.next (l : LimitConfig) (c : Comparator) (value : Nat) : Comparator :=
  match c.state with
  | .disabled => c
  | .clear => if l.threshold ≤ value then ⟨.alert, l.minHold⟩ else c
  | .alert => ⟨if value < l.threshold - l.hysteresis then .releasing else .alert, c.timer - 1⟩
  | .releasing =>
    if l.threshold - l.hysteresis ≤ value then ⟨.alert, c.timer - 1⟩
    else ⟨if c.timer ≤ 1 then .clear else .releasing, c.timer - 1⟩

/-- The comparators of `t` are those of `s` after an evaluating second event that compared the projection
of `t`; the SHED outputs follow them, and the limit flags are raised for the movements of R154. -/
def State.EvaluatedInto (s t : State) : Prop :=
  (∀ k, t.lim.comparators.get k = if (s.config.limits.get k).enabled then
      (s.config.limits.get k).next (s.lim.comparators.get k)
        (if (s.config.limits.get k).quantity = .kw then t.lim.projection.dp else t.lim.projection.dva)
    else s.lim.comparators.get k)
  ∧ (∀ j, t.lim.shed.get j = true ↔ ∃ k, (s.config.limits.get k).enabled = true ∧ (s.config.limits.get k).shed = j
      ∧ ((t.lim.comparators.get k).state = .alert ∨ (t.lim.comparators.get k).state = .releasing))
  ∧ ∀ p, ((t.port p).attn.has .limitAlert = true ↔ (s.port p).attn.has .limitAlert = true
        ∨ ∃ k, (s.lim.comparators.get k).state = .clear ∧ (t.lim.comparators.get k).state = .alert)
      ∧ ((t.port p).attn.has .limitRelease = true ↔ (s.port p).attn.has .limitRelease = true
        ∨ ∃ k, (s.lim.comparators.get k).state = .releasing ∧ (t.lim.comparators.get k).state = .clear)

/-- The records of a list up to and including the first one of a sequence (R137). -/
def upTo (edge : Option Seq) : List LogRecord → List LogRecord
  | [] => []
  | r :: rest => if edge = some r.sequence then [r] else r :: upTo edge rest

/-- The cursor after a record has been returned, by the table of R137. -/
def ProfileLog.after (l : ProfileLog) (c : Cursor) (r : LogRecord) : Cursor :=
  match c.dir with
  | .forward =>
    if c.window.map Prod.snd = some r.sequence then { c with position := r.sequence, state := .atEdge }
    else if l.records.getLast? = some r then { c with position := l.nextSeq, state := .atEnd }
    else { c with position := r.sequence + 1, state := .atRecord }
  | .backward =>
    if c.window.map Prod.fst = some r.sequence ∨ l.records.head? = some r then
      { c with position := r.sequence, state := .atEdge }
    else { c with position := r.sequence - 1, state := .atRecord }

/-- A cursor placed with no record held in its window: AT_END at the next sequence where that is in the
window, and otherwise AT_EDGE at the newest record held, or at the next sequence in an empty log (R139,
R140). -/
def ProfileLog.nowhere (l : ProfileLog) (c : Cursor) : Cursor :=
  if inWindow c.window l.nextSeq then { c with position := l.nextSeq, state := .atEnd }
  else { c with position := (l.records.getLast?).elim l.nextSeq LogRecord.sequence, state := .atEdge }

/-- A freeze with a cause leaves what R115 states, and changes nothing of what it names as kept. -/
def State.FrozenInto (s t : State) (cause : Cause) : Prop :=
  t.per.close = .closing
      { energy := s.tot.period, maxima := s.dem.maxima, ratePresent := s.tot.present,
        ratchet := (s.per.history.reverse.take s.config.bill.lookback).map PeriodRecord.unadjusted,
        settings := s.config.bill, number := s.per.number, start := s.per.start, stop := s.clock.now,
        cause := cause, partialMark := s.per.partialMark }
    ∧ t.tot = { s.tot with period := .all (.all 0), present := 0 }
    ∧ t.dem = { s.dem with maxima := .all ⟨none, none⟩ }
    ∧ t.per.number = s.per.number + 1 ∧ t.per.start = s.clock.now ∧ t.per.partialMark = false
    ∧ t.per.lockout = s.config.lockoutLen ∧ t.per.history = s.per.history
    ∧ s.Logged t { kind := .close, rate := s.sub.rate, status := 0, stamp := s.clock.now, payload := [s.per.number] }
    ∧ t.store = s.store ∧ t.clock = s.clock ∧ t.sub = s.sub ∧ t.chans = s.chans ∧ t.lim = s.lim ∧ t.sup = s.sup

/-- The flags named are raised in both units, and nothing else of a unit changes: every other flag, the mask
and the enable stay as they were (R175). -/
def State.RaisedOnly (s t : State) (raised : AttnFlag → Prop) : Prop :=
  ∀ p, (t.port p).attn.mask = (s.port p).attn.mask ∧ (t.port p).attn.enable = (s.port p).attn.enable
    ∧ ∀ f, (t.port p).attn.has f = true ↔ (s.port p).attn.has f = true ∨ raised f

/-- The status that the Time Base gives at a boundary, a sync pulse or a sync expiry, where the event
closes the open sub-interval (R22, R23, R26, R27); the other commands are no such event. -/
def State.endStatus (s : State) (i : Instr) : Option (List StatusFlag) :=
  match i with
  | .boundaryEvent =>
    if s.sup.mainSupply = true ∧ s.config.syncMode = .internal ∧ s.clock.now = s.sub.nominalEnd then
      some (if s.sub.elapsed < s.config.subLen then [.short] else if s.config.subLen < s.sub.elapsed then [.long] else [])
    else none
  | .syncPulse =>
    if s.sup.mainSupply = true ∧ s.config.syncMode = .external ∧ s.pins.sync = false then
      some (if s.sub.elapsed < s.config.subLen - s.config.grace then [.short] else [])
    else none
  | .syncExpiry =>
    if s.sup.mainSupply = true ∧ s.config.syncMode = .external ∧ s.config.subLen + s.config.grace ≤ s.sub.elapsed then
      some (if 0 < s.config.grace then [.noSync, .long] else [.noSync])
    else none
  | _ => none

/-- The sum of a quantity's partials over the channels of a weight (R50). -/
def State.sumOver (s : State) (w : Weight) (q : Quantity) : Nat :=
  ∑ i : Fin 4, if (s.config.channels.get i).weight = w then ((s.chans.get i).part.get q).toNat else 0

/-- The magnitude that a record's counts feed into a quantity (R10). -/
def fedInto (f : LinkFrame) (q : Quantity) : Nat :=
  match q with
  | .impActive => (recordP f).toInt.toNat
  | .expActive => min (-(recordP f).toInt).toNat 32767
  | .lagging => (recordQ f).toInt.toNat
  | .leading => min (-(recordQ f).toInt).toNat 32767

/-! ## A sub-interval close, as the rules list it (R46 to R54, R64 to R77, R130) -/

/-- SHORT and LONG as the Time Base gives them at a forced close, from the elapsed count (R23, R27). -/
def State.lengthFlags (s : State) (elapsed : Nat) : List StatusFlag :=
  match s.config.syncMode with
  | .internal => if elapsed < s.config.subLen then [.short] else if s.config.subLen < elapsed then [.long] else []
  | .external => if elapsed < s.config.subLen - s.config.grace then [.short] else []

/-- The record of a close with a status list: the next sequence, the bounds, the rate, the partials, the
status set with OUTAGE in Hold and NEGTOTAL, and the totals, taken as 0 below 0 and as 2^64 − 1 above it,
with Eq formed from them by the reactive mode (R46, R47, R50, R51, R185). -/
def State.Builds (s : State) (stop : Instant) (cause : List StatusFlag) (r : SubRecord) : Prop :=
  r.sequence = s.tot.lastSeq + 1 ∧ r.start = s.sub.start ∧ r.stop = stop ∧ r.rate = s.sub.rate
    ∧ (∀ d, r.parts.get d = (s.chans.get d).part)
    ∧ (∀ f, r.status.has f = true ↔ s.sub.status.has f = true ∨ f ∈ cause ∨ (f = .outage ∧ s.sup.hold = true)
        ∨ (f = .negTotal ∧ ∃ q, s.sumOver .add q < s.sumOver .subtract q))
    ∧ r.totals.pp.toNat = min (s.sumOver .add .impActive - s.sumOver .subtract .impActive) (2 ^ 64 - 1)
    ∧ r.totals.pm.toNat = min (s.sumOver .add .expActive - s.sumOver .subtract .expActive) (2 ^ 64 - 1)
    ∧ r.totals.qp.toNat = min (s.sumOver .add .lagging - s.sumOver .subtract .lagging) (2 ^ 64 - 1)
    ∧ r.totals.qm.toNat = min (s.sumOver .add .leading - s.sumOver .subtract .leading) (2 ^ 64 - 1)
    ∧ r.totals.eq.toNat = match s.config.reactive with
      | .lagOnly => r.totals.qp.toNat
      | .lagPlusLead => min (r.totals.qp.toNat + r.totals.qm.toNat) (2 ^ 64 - 1)
      | .lagMinusLead => r.totals.qp.toNat - r.totals.qm.toNat

/-- The Totalizer after a record: its totals join the accumulators and the period energies of its rate and of
rate A and of no other rate, its rate joins the rate-present set, and the close marks take the cumulative
energies (R47, R53, R54, R59). -/
def State.Files (s : State) (r : SubRecord) (tot : Totalizer) : Prop :=
  tot.last = some r ∧ tot.lastSeq = r.sequence
    ∧ (∀ x, tot.acc.get x = if x = .one r.rate ∨ x = .all then (s.tot.acc.get x).zipWith (· + ·) r.totals
        else s.tot.acc.get x)
    ∧ (∀ x, tot.period.get x = if x = .one r.rate ∨ x = .all then (s.tot.period.get x).zipWith (· + ·) r.totals
        else s.tot.period.get x)
    ∧ (∀ x, tot.present.has x = true ↔ s.tot.present.has x = true ∨ x = r.rate)
    ∧ ∀ d, tot.marks.get d = (s.chans.get d).cum

/-- The Demand Engine after a record: the ring, the window with the conditions it fails, the pickup counter,
and the Maximum Records of its rate and of rate A (R64 to R71, R75 to R77). -/
def State.Arrives (s : State) (r : SubRecord) (dem : Demand) : Prop :=
  dem.ring = (if s.dem.ring.length = s.config.windowLen then s.dem.ring.drop 1 else s.dem.ring)
      ++ [⟨r.sequence, r.rate, r.status, r.totals.pp, r.totals.eq⟩]
    ∧ dem.pickup = s.dem.pickup - 1
    ∧ ∃ w, dem.window = some w ∧ w.sequence = r.sequence ∧ w.stop = r.stop ∧ w.rate = r.rate
      ∧ w.fill = dem.ring.length
      ∧ w.dp = min 4294967295 (((dem.ring.map (fun x => x.ep.toNat)).sum * 36
            + 5 * (s.config.windowLen * s.config.subLen)) / (10 * (s.config.windowLen * s.config.subLen)))
      ∧ w.dq = min 4294967295 (((dem.ring.map (fun x => x.eq.toNat)).sum * 36
            + 5 * (s.config.windowLen * s.config.subLen)) / (10 * (s.config.windowLen * s.config.subLen)))
      ∧ w.dva = apparentOf w.dp w.dq ∧ w.pf = windowPF w.dp w.dva
      ∧ (w.failFill = true ↔ dem.ring.length ≠ s.config.windowLen) ∧ (w.failPickup = true ↔ s.dem.pickup ≠ 0)
      ∧ (w.failFlagged = true ↔ s.config.excludeFlagged = true ∧ ∃ x ∈ dem.ring,
          ∃ f ∈ [StatusFlag.outage, .short, .long, .stall, .timeSet, .noSync], x.status.has f = true)
      ∧ ((w.failFill = true ∨ w.failPickup = true ∨ w.failFlagged = true) → dem.maxima = s.dem.maxima)
      ∧ (w.failFill = false ∧ w.failPickup = false ∧ w.failFlagged = false →
          ∀ x, (x ≠ .one w.rate ∧ x ≠ .all → dem.maxima.get x = s.dem.maxima.get x)
            ∧ (x = .one w.rate ∨ x = .all →
                (dem.maxima.get x).kw = (if ∀ m ∈ (s.dem.maxima.get x).kw, m.value < w.dp then
                    some ⟨w.dp, w.stop, w.sequence, w.dq, w.dva, w.pf, r.status⟩ else (s.dem.maxima.get x).kw)
                ∧ (dem.maxima.get x).kva = (if ∀ m ∈ (s.dem.maxima.get x).kva, m.value < w.dva then
                    some ⟨w.dva, w.stop, w.sequence, w.dq, w.dp, w.pf, r.status⟩ else (s.dem.maxima.get x).kva)))

/-- The sub-interval that a close has opened at the present instant: no elapsed seconds, no partials, the
nominal end and the rate of its start, NOTIME without TIME_VALID, and STALL where a channel stood in STALLED
(R22, R33, R49). -/
def State.Opens (t : State) (chans : PerFour Channel) : Prop :=
  t.sub.start = t.clock.now ∧ t.sub.elapsed = 0 ∧ t.sub.nominalEnd = nominalEndOf t.config t.clock.now
    ∧ t.sub.rate = rateAt t.store.active t.config.weekdayOffset t.clock.now
    ∧ (∀ f, t.sub.status.has f = true ↔ (f = .noTime ∧ t.clock.timeValid = false)
        ∨ (f = .stall ∧ ∃ d, (chans.get d).state = .stalled))
    ∧ ∀ d, (t.chans.get d).part = .all 0

/-- The schedule at a sub-interval start: an armed one whose effective day has begun becomes active (R39). -/
def State.Activates (s t : State) : Prop :=
  match s.store.pendSched with
  | .armed tables day =>
    if day ≤ t.clock.now.day then t.store.active = tables ∧ t.store.pendSched = .none
    else t.store.active = s.store.active ∧ t.store.pendSched = s.store.pendSched
  | _ => t.store.active = s.store.active ∧ t.store.pendSched = s.store.pendSched

/-- The whole of a close: the record `r`, the Totalizer `tot` and the Demand Engine `dem` it leaves, the next
sub-interval, opened with the channels as `chans` has them, the schedule, and the projection that the Limit
Monitor then holds (R52, R149). -/
def State.ClosesInto (s t : State) (chans : PerFour Channel) (stop : Instant) (cause : List StatusFlag)
    (r : SubRecord) (tot : Totalizer) (dem : Demand) : Prop :=
  s.Builds stop cause r ∧ s.Files r tot ∧ s.Arrives r dem ∧ t.Opens chans ∧ s.Activates t
    ∧ ∀ w ∈ dem.window, t.lim.projection =
      { dp := w.dp, dq := w.dq, dva := w.dva, elapsed := 0
        source := if dem.ring.length < s.config.windowLen - 1 then .heldFill else .heldEarly }

/-- A value v with its carry k as a DATA record logs it, and the carry it leaves: floor((v + k) / 1000) Wh and
(v + k) mod 1000, or the largest word and 0 where the value does not fit it (R130). -/
def wordOf (v : Energy) (k : Nat) : LogWord × Nat :=
  if (v.toNat + k) / 1000 ≤ 4294967295 then (BitVec.ofNat 32 ((v.toNat + k) / 1000), (v.toNat + k) % 1000)
  else (0xFFFFFFFF, 0)

/-- The DATA record of a Sub-interval Record: the totalized block, then a block for each channel of the mask
(R128 to R130). -/
def State.dataOf (s : State) (r : SubRecord) : LogBody :=
  let block := fun (v : Quad Energy) (k : Quad Nat) =>
    [Quantity.impActive, .expActive, .lagging, .leading].map (fun q => (wordOf (v.get q) (k.get q)).1)
  { kind := .data s.config.logMask, rate := r.rate, status := r.status, stamp := r.stop
    payload := block ⟨r.totals.pp, r.totals.pm, r.totals.qp, r.totals.qm⟩ s.log.carries.totals
      ++ ([(0 : Fin 4), 1, 2, 3].filter (fun d => s.config.logMask.getLsbD d.val)).flatMap
        (fun d => block (r.parts.get d) (s.log.carries.channels.get d)) }

/-- The carries that a DATA record leaves; a channel outside the mask keeps its own (R130). -/
def State.carriesOf (s : State) (r : SubRecord) : Carries :=
  let after := fun (v : Quad Energy) (k : Quad Nat) => v.zipWith (fun v k => (wordOf v k).2) k
  let channel := fun (d : Fin 4) =>
    if s.config.logMask.getLsbD d.val then after (r.parts.get d) (s.log.carries.channels.get d)
    else s.log.carries.channels.get d
  { totals := after ⟨r.totals.pp, r.totals.pm, r.totals.qp, r.totals.qm⟩ s.log.carries.totals
    channels := ⟨channel 0, channel 1, channel 2, channel 3⟩ }

/-- A log after a close: the DATA record, and then the SCHEDULE marker of an activation that the opening makes
(R52 step 10, R39 step 4). -/
def State.closeLogged (s t : State) (l : ProfileLog) (r : SubRecord) : ProfileLog :=
  let filed := ({ l with carries := s.carriesOf r } : ProfileLog).logged (s.dataOf r)
  match s.store.pendSched with
  | .armed _ day =>
    if day ≤ t.clock.now.day then
      filed.logged { kind := .schedule, rate := t.sub.rate, status := 0, stamp := t.clock.now
                     payload := [BitVec.ofNat 32 day] }
    else filed
  | _ => filed

/-- The log once a start has completed a clear in progress: the CLEARED marker and then the held record; the
log as it stands without one (R142, R143). -/
def State.clearFinished (s : State) : ProfileLog :=
  if s.log.clearBusy then
    let emptied : ProfileLog := { s.log with records := [], clearBusy := false, slot := none }
    let marked := emptied.logged { kind := .cleared, rate := s.sub.rate, status := 0, stamp := s.clock.now, payload := [] }
    match s.log.slot with
    | some b => marked.logged b
    | none => marked
  else s.log

/-! ## Link frames (R2, R3) -/

/-- A complete record passes R2 for a channel: it is taken, its bytes sum to 255, and it names that
channel, which is not OFF. -/
def State.Passes (s : State) (f : LinkFrame) (c : Fin 4) : Prop :=
  s.sup.mainSupply = true ∧ s.sup.hold = false ∧ f.straddles = false ∧ f.nbits = 48
    ∧ recordSum f % 256 = 255 ∧ recordChannel f = c.val ∧ (s.chans.get c).state ≠ .off

/-- ENABLE is active through the link polarity (R3). -/
def State.Enabled (s : State) (f : LinkFrame) : Prop :=
  (s.config.polarity = .activeHigh ∧ f.len = true) ∨ (s.config.polarity = .activeLow ∧ f.len = false)

/-- Nothing is left over of the last second event, and no end of the sub-interval waits to be taken. -/
def State.NothingWaits (s : State) : Prop :=
  s.due = .nothing ∧ (s.config.syncMode = .internal → s.clock.now ≠ s.sub.nominalEnd)
    ∧ (s.config.syncMode = .external → s.sub.elapsed < s.config.subLen + s.config.grace)

end Sys2Proof.Machine
end

