-- ==== Sys2Proof/WellFormed.lean ====
section
/-! DEFINITION. Which commands are well formed: the relations between operands that their types do not
say. Ranges that the part itself checks, and refuses with a result code, are no part of this. -/

namespace Sys2Proof

/-- A frame has at least one bit, and only a frame of 48 bits carries a record (R1). -/
def frameWellFormed (f : LinkFrame) : Bool :=
  decide (0 < f.nbits) && (f.nbits == 48 || f.bits == 0)

/-- A partial byte has fewer than eight bits (R159). -/
def riseWellFormed (partialBits : Nat) : Bool := decide (partialBits < 8)

/-- An unknown command's code is outside the code list (R162, R191). -/
def unknownWellFormed (code : Byte) : Bool := (Machine.commandClass code).isNone

/-- Whether a command is well formed. -/
def Instr.wellFormed (i : Instr) : Bool :=
  match i with
  | .linkFrame f => frameWellFormed f
  | .selectRise _ _ partialBits _ _ => riseWellFormed partialBits
  | .unknownCommand _ code _ => unknownWellFormed code
  | .secondEvent _ => true
  | .midnightEvent => true
  | .stallTimeout _ => true
  | .boundaryEvent => true
  | .syncPulse => true
  | .syncExpiry => true
  | .closeDateEvent => true
  | .lockoutExpiry => true
  | .buttonPress => true
  | .guardChange _ => true
  | .holdEntry => true
  | .holdRelease => true
  | .supplyLoss => true
  | .retentionInvalid => true
  | .coldStart _ => true
  | .warmStart _ => true
  | .selectFall _ => true
  | .portReset _ => true
  | .readStatus _ => true
  | .readTime _ => true
  | .readSchedule _ _ _ => true
  | .readCloseDates _ => true
  | .readChannelStatus _ _ => true
  | .readRegisters _ _ => true
  | .readSubInterval _ => true
  | .readDemand _ => true
  | .readMaxima _ _ => true
  | .readPeriod _ _ => true
  | .readPeriodState _ => true
  | .readProfile _ _ => true
  | .readProfileState _ => true
  | .readLimits _ => true
  | .readConfigItem _ _ => true
  | .setProfileCursor _ _ _ _ => true
  | .setProfileWindow _ _ _ _ => true
  | .requestPreview _ => true
  | .attentionFetch _ => true
  | .eventTest _ _ => true
  | .enableWrite _ _ => true
  | .disableWrite _ _ => true
  | .attentionEnable _ _ => true
  | .setEventMask _ _ _ => true
  | .resetEnable _ _ => true
  | .billingClose _ _ => true
  | .adjustTime _ _ _ _ => true
  | .writeSwitchQuad _ _ _ _ _ => true
  | .writeHolidayQuad _ _ _ _ => true
  | .writeWeekTable _ _ _ => true
  | .writeCloseDateQuad _ _ _ _ => true
  | .activateSchedule _ _ _ => true
  | .cancelPending _ _ => true
  | .reset _ _ => true
  | .writeLimit _ _ _ => true
  | .writeConfigItem _ _ _ _ => true
  | .setTime _ _ _ _ => true
  | .clearProfile _ _ => true
  | .clearHistory _ _ => true
  | .setLockMode _ _ _ => true
  | .lockCalibration _ _ _ => true
  | .storeCompletion => true
  | .closeCompletion => true
  | .previewCompletion _ => true
  | .clearProfileCompletion => true
  | .buttonRelease => true
  | .syncLevelFall => true

end Sys2Proof
end

