-- ==== Sys2Proof/Certificates/Slice0/Obligations.lean ====
section
/-! DEFINITION. The statements about this model, one definition each. Assumption numbers are those of
notes/assumptions. -/

open Sys2Proof Sys2Proof.Machine

/-! ## The step and every command -/

/-- A step takes the command at the front of the queue, on the state with the queue's rest; on an empty
queue the block idles, which is the model's choice (assumption 3). -/
def Obligations.StepTakesFrontCommand : Prop :=
  (∀ (c : Instr) (rest : List Instr) (s : State), s.pending = c :: rest → step s = exec c (s.setPending rest))
    ∧ ∀ s : State, s.pending = [] → step s = .next s

/-- Every command answers a next state in every state, and leaves the queue as it is. That holds also of an
event that cannot occur in the state it meets, where the answer is the model's own: it changes nothing
(assumption 4). -/
def Obligations.EveryCommandCompletes : Prop :=
  ∀ (c : Instr) (s : State), ∃ t, exec c s = .next t ∧ t.pending = s.pending

/-! ## Starts from nothing (R18, R20, R45, R62, R83, R126, R145, R158, R174, R182, R187) -/

/-- A cold start gives every block its cold value and the pins the filtered levels of the power-up, keeps the
Configuration Store but for the lock reversion, and makes the activation of a schedule armed for day 0.
Nothing is left due to a row (assumption 2). -/
def Obligations.ColdStartValues : Prop :=
  ∀ (lv : PinLevels) (s : State), s.sup.mainSupply = false → s.sup.retentionValid = false →
    ∃ t, exec (.coldStart lv) s = .next t
      ∧ t.clock.now = ⟨0, 0⟩ ∧ t.clock.timeValid = false
      ∧ t.clock.dayType = dayTypeOf t.store.active s.config.weekdayOffset 0
      ∧ t.clock.pointer = s.store.pointerAfter ⟨0, 0⟩
      ∧ t.sub.start = ⟨0, 0⟩ ∧ t.sub.elapsed = 0 ∧ t.sub.nominalEnd = nominalEndOf s.config ⟨0, 0⟩
      ∧ t.sub.rate = rateAt t.store.active s.config.weekdayOffset ⟨0, 0⟩
      ∧ (∀ f, t.sub.status.has f = true ↔ f = .noTime)
      ∧ (∀ c, t.chans.get c =
          { state := if (s.config.channels.get c).enabled then .waiting else .off, expected := none, timer := 0,
            residue := .all 0, cum := .all 0, part := .all 0 })
      ∧ t.tot = { lastSeq := 0, acc := .all (.all 0), period := .all (.all 0), present := 0,
                  marks := .all (.all 0), last := none }
      ∧ t.dem = { ring := [], window := none, pickup := 0, maxima := .all ⟨none, none⟩ }
      ∧ t.per = { close := .idle, number := 1, start := ⟨0, 0⟩, partialMark := true, lockout := 0,
                  deferred := none, history := [] }
      ∧ (∀ k, t.lim.comparators.get k =
          { state := if (s.config.limits.get k).enabled then .clear else .disabled, timer := 0 })
      ∧ t.lim.shed = .all false ∧ t.lim.projection.dp = 0 ∧ t.lim.projection.dq = 0 ∧ t.lim.projection.dva = 0
      ∧ t.lim.projection.source = (if s.config.windowLen ≤ 1 then .heldEarly else .heldFill)
      ∧ t.lim.projection.elapsed = 0
      ∧ t.log.carries = ⟨.all 0, .all (.all 0)⟩ ∧ t.log.clearBusy = false ∧ t.log.slot = none
      ∧ t.pins = { sync := lv.sync, guard := lv.guard, close := lv.close, pfail := false }
      ∧ t.due = { midnight := false, stall := .all false, dates := 0, lockout := false }
      ∧ (∀ p, (t.port p).tx = .idle ∧ (t.port p).lastResult = .ok ∧ (t.port p).lastCommand = 0
          ∧ (t.port p).latch = false ∧ (t.port p).arm = false ∧ (t.port p).pattern = 0
          ∧ (t.port p).preview = none ∧ (t.port p).previewRec = none
          ∧ (t.port p).attn.mask = 0x3FFF ∧ (t.port p).attn.enable = false)
      ∧ t.sup = { mainSupply := true, hold := false, outageStart := ⟨0, 0⟩, outageValid := false,
                  lossInstant := ⟨0, 0⟩, retentionValid := true, startCause := .cold }
      ∧ t.config = { s.config with
          lockMode := if s.config.lockMode = .powerLocked then .guarded else s.config.lockMode }
      ∧ t.store.closeDates = s.store.closeDates ∧ t.store.writing = none
      ∧ match s.store.pendSched with
        | .armed tables 0 =>
          t.store.active = tables ∧ t.store.pendSched = .none ∧ t.log.nextSeq = 2
            ∧ t.log.records = [⟨1, ⟨.schedule, t.sub.rate, 0, ⟨0, 0⟩, [0]⟩⟩]
            ∧ ∀ p, ((t.port p).cursor = ⟨1, .atRecord, .forward, none⟩)
              ∧ ∀ f, (t.port p).attn.has f = true ↔ f = .startCold ∨ f = .scheduleSwitched
        | pending =>
          t.store.active = s.store.active ∧ t.store.pendSched = pending ∧ t.log.nextSeq = 1 ∧ t.log.records = []
            ∧ ∀ p, ((t.port p).cursor = ⟨1, .atEnd, .forward, none⟩)
              ∧ ∀ f, (t.port p).attn.has f = true ↔ f = .startCold

/-- The reset state is what the first cold start of a part as delivered leaves, with every filtered
input inactive, whatever its retained blocks held (assumption 1); and it is safe. The count of the free
values drawn, the model's own, is left as it was (assumption 16). -/
def Obligations.ResetIsFirstColdStart : Prop :=
  (∀ s : State, s.store = Store.delivered → s.pending = [] → s.sup.mainSupply = false →
      s.sup.retentionValid = false → exec (.coldStart ⟨false, false, false⟩) s = .next (State.reset.setFree s.free))
    ∧ State.reset.Safe

/-! ## Invariants of every step -/

/-- Every configuration item in effect stays in its range, and N times S stays at most 3600 s. -/
def Obligations.ConfigStaysInRange : Prop :=
  ∀ s t : State, s.ConfigSafe → step s = .next t → t.ConfigSafe

/-- Instants stay in the calendar, and the nominal end stays on a multiple of S in INTERNAL mode. -/
def Obligations.TimeStaysInCalendar : Prop :=
  ∀ s t : State, s.ClockSafe ∧ s.EndOnMultiple → step s = .next t → t.ClockSafe ∧ t.EndOnMultiple

/-- The active tables and armed tables stay valid, and the close-date list stays strictly ascending. -/
def Obligations.TablesStayValid : Prop :=
  ∀ s t : State, s.ScheduleSafe ∧ s.DatesSafe → step s = .next t → t.ScheduleSafe ∧ t.DatesSafe

/-- The rate-A accumulators and period energies stay the sums of the rates, modulo 2^64. -/
def Obligations.RateAStaysTheSum : Prop :=
  ∀ s t : State, s.tot.Balanced → step s = .next t → t.tot.Balanced

/-- The ring stays at most N long with strictly consecutive sequences up to the last one. -/
def Obligations.RingStaysConsecutive : Prop :=
  ∀ s t : State, s.ConfigSafe ∧ s.RingSafe → step s = .next t → t.RingSafe

/-- The history stays at most 13 long with strictly increasing period numbers. -/
def Obligations.HistoryStaysOrdered : Prop :=
  ∀ s t : State, s.per.HistorySafe → step s = .next t → t.per.HistorySafe

/-- The log stays within 16,384 words with consecutive sequences, every record 4 to 24 words long. -/
def Obligations.LogStaysConsecutive : Prop :=
  ∀ s t : State, s.log.Safe → step s = .next t → t.log.Safe

/-- In Hold no latch and no arm is ever set, the Customer Port never has an arm, and the reset pattern
counts stay 0 to 3. -/
def Obligations.PortsStayClearInHold : Prop :=
  ∀ s t : State, s.PortsSafe → step s = .next t → t.PortsSafe

/-- The lock mode never leaves PERMANENT, and a calibration lock, once set, never clears. -/
def Obligations.LocksNeverLoosen : Prop :=
  ∀ s t : State, step s = .next t →
    (s.config.lockMode = .permanent → t.config.lockMode = .permanent)
      ∧ ∀ c, (s.config.channels.get c).calLock = true → (t.config.channels.get c).calLock = true

/-- The period number increases by exactly 1 at a freeze, which leaves the close state CLOSING on the
period of the old number, and changes at no other time except a cold start, which sets it to 1. And a step
that leaves the close state CLOSING on a snapshot that was not there before is such a freeze. -/
def Obligations.PeriodNumberMovesByOne : Prop :=
  ∀ (c : Instr) (s t : State), exec c s = .next t →
    (t.per.number = s.per.number
      ∨ (s.per.number ≠ 0xFFFFFFFF ∧ t.per.number = s.per.number + 1 ∧
          ∃ x, t.per.close = .closing x ∧ x.number = s.per.number ∧ x.start = s.per.start)
      ∨ ((∃ lv, c = .coldStart lv) ∧ t.per.number = 1))
    ∧ ∀ x, t.per.close = .closing x → s.per.close ≠ .closing x →
        s.per.number ≠ 0xFFFFFFFF ∧ t.per.number = s.per.number + 1 ∧ x.number = s.per.number
          ∧ x.start = s.per.start ∧ x.stop = t.per.start

/-- No configuration item, table or lock changes through a port unless that port's latch was set when
the changing command was taken: a store write begins only on a port with its latch set, outside Hold;
the values change only at its completion, by a lock reversion, or by the activation of armed tables; the
pending tables are emptied only by that activation, or by a Cancel Pending that the Utility Port's latch
allows, as its row or as its one byte (assumption 7). -/
def Obligations.ChangesNeedTheLatch : Prop :=
  ∀ (c : Instr) (s t : State), exec c s = .next t →
    (∀ w, t.store.writing = some w → s.store.writing = some w ∨
        (s.store.writing = none ∧ portOf c = some w.port ∧ (s.port w.port).latch = true ∧ s.sup.hold = false))
      ∧ (t.config = s.config ∨ (c = .storeCompletion ∧ s.store.writing ≠ none) ∨
          (s.config.lockMode = .powerLocked ∧ t.config = { s.config with lockMode := .guarded }
            ∧ ∃ lv, c = .coldStart lv ∨ c = .warmStart lv))
      ∧ (t.store.closeDates = s.store.closeDates ∨ (c = .storeCompletion ∧ s.store.writing ≠ none))
      ∧ (t.store.active = s.store.active ∨
          ∃ tables day, s.store.pendSched = .armed tables day ∧ t.store.active = tables)
      ∧ (t.store.pendSched = s.store.pendSched
          ∨ (t.store.pendSched = .none ∧
              ((∃ tables day, s.store.pendSched = .armed tables day ∧ t.store.active = tables)
                ∨ (s.TakesOperation .utility ∧ s.store.writing = none
                    ∧ (c = .cancelPending .utility .whole ∨ ∃ d f, c = .selectRise .utility [0x47] 0 d f))))
          ∨ (c = .storeCompletion ∧ s.store.writing ≠ none ∧ ∃ tables, t.store.pendSched = .loading tables)
          ∨ (s.util.latch = true ∧
              ∃ tables day, s.store.pendSched = .loading tables ∧ t.store.pendSched = .armed tables day))

/-- No command or event of the Customer Port reaches the billing record: it changes nothing but that
port's own state, and the store's write in flight. -/
def Obligations.CustomerPortLeavesBilling : Prop :=
  ∀ (c : Instr) (s t : State), portOf c = some .customer → exec c s = .next t →
    t = { s with cust := t.cust, store := { s.store with writing := t.store.writing } }

/-! ## Sample Link and channels (chapter 1) -/

/-- Which frames change nothing, and which are dropped with LINK_CHECK in both units and CHECK: a cut-short
frame, a bad check byte and a channel number above 3. A record that passes the checks is ignored with
ENABLE inactive; otherwise its channel goes to ACTIVE, its stall timer to 0 and its expected sequence
past the record's, with SEQ_GAP and GAP exactly when a number was expected and differs, SKIP exactly when
VALID is 0, and the rest of the part as it was, the masks and enables of both units included. A frame's
fields stand where section 12.2 puts them, the first bit sampled being the first of its six bytes. -/
def Obligations.LinkFramesAreClassified : Prop :=
  (∀ f : LinkFrame, recordSum f = ∑ i : Fin 6, f.bits.toNat / 256 ^ i.val % 256
    ∧ recordChannel f = f.bits.toNat / 2 ^ 44 ∧ recordSequence f = f.bits.extractLsb' 40 4
    ∧ recordP f = f.bits.extractLsb' 24 16 ∧ recordQ f = f.bits.extractLsb' 8 16)
  ∧ (
    ∀ (f : LinkFrame) (s : State),
      (s.sup.mainSupply = false ∨ s.sup.hold = true ∨ f.straddles = true → exec (.linkFrame f) s = .next s)
        ∧ (s.sup.mainSupply = true ∧ s.sup.hold = false ∧ f.straddles = false ∧ 0 < f.nbits →
            ((f.nbits ≠ 48 ∨ recordSum f % 256 ≠ 255 ∨ 3 < recordChannel f) →
                exec (.linkFrame f) s = .next ((s.raise .linkCheck).markSub .check))
              ∧ (f.nbits = 48 ∧ recordSum f % 256 = 255 →
                  ∀ c : Fin 4, recordChannel f = c.val → (s.chans.get c).state = .off →
                    exec (.linkFrame f) s = .next s)))
  ∧ (
    ∀ (f : LinkFrame) (c : Fin 4) (s : State), s.Passes f c →
      (¬ s.Enabled f → exec (.linkFrame f) s = .next s)
        ∧ (s.Enabled f → ∃ t, exec (.linkFrame f) s = .next t
            ∧ (t.chans.get c).state = .active ∧ (t.chans.get c).timer = 0
            ∧ (t.chans.get c).expected = some (recordSequence f + 1)
            ∧ (∀ d, d ≠ c → t.chans.get d = s.chans.get d)
            ∧ (∀ p, (t.port p).attn.mask = (s.port p).attn.mask ∧ (t.port p).attn.enable = (s.port p).attn.enable)
            ∧ (∀ g p, (t.port p).attn.has g = true ↔ (s.port p).attn.has g = true
                ∨ (g = .seqGap ∧ ((s.chans.get c).state = .active ∨ (s.chans.get c).state = .stalled)
                    ∧ (s.chans.get c).expected ≠ some (recordSequence f))
                ∨ (g = .countClip ∧ f.lval = true ∧ ((recordP f).toInt = -32768 ∨ (recordQ f).toInt = -32768)))
            ∧ (∀ g, t.sub.status.has g = true ↔ s.sub.status.has g = true
                ∨ (g = .gap ∧ ((s.chans.get c).state = .active ∨ (s.chans.get c).state = .stalled)
                    ∧ (s.chans.get c).expected ≠ some (recordSequence f))
                ∨ (g = .skip ∧ f.lval = false)
                ∨ (g = .clip ∧ f.lval = true ∧ ((recordP f).toInt = -32768 ∨ (recordQ f).toInt = -32768)))
            ∧ (f.lval = false → (t.chans.get c).residue = (s.chans.get c).residue
                ∧ (t.chans.get c).cum = (s.chans.get c).cum ∧ (t.chans.get c).part = (s.chans.get c).part)
            ∧ t = { s with chans := t.chans, sub := { s.sub with status := t.sub.status }
                           util := { s.util with attn := t.util.attn }, cust := { s.cust with attn := t.cust.attn } }))

/-- An accepted record converts each count on its own: the magnitude m (−32768 taken as 32767) by K and
SS, the residue carried, the cumulative energy wrapping and the partial saturating; a count of 0
touches nothing, and no energy is lost but the residue. With SS of 0 or more the residue is set to 0
whatever it was, which is the model's choice (assumption 12). -/
def Obligations.CountsConverted : Prop :=
  ∀ (f : LinkFrame) (c : Fin 4) (q : Quantity) (s : State), s.Passes f c → s.Enabled f → f.lval = true →
    ∃ t, exec (.linkFrame f) s = .next t ∧ fedInto f q ≤ 32767
      ∧ (fedInto f q = 0 → (t.chans.get c).residue.get q = (s.chans.get c).residue.get q
          ∧ (t.chans.get c).cum.get q = (s.chans.get c).cum.get q
          ∧ (t.chans.get c).part.get q = (s.chans.get c).part.get q)
      ∧ (0 < fedInto f q → ∃ e,
          (t.chans.get c).cum.get q = (s.chans.get c).cum.get q + BitVec.ofNat 64 e
          ∧ ((t.chans.get c).part.get q).toNat = min (((s.chans.get c).part.get q).toNat + e) (2 ^ 64 - 1)
          ∧ (0 ≤ (s.config.channels.get c).ss →
              e = fedInto f q * (s.config.channels.get c).k * 2 ^ ((s.config.channels.get c).ss).toNat
                ∧ (t.chans.get c).residue.get q = 0
                ∧ ((s.config.channels.get c).InRange → e ≤ 137432662080))
          ∧ ((s.config.channels.get c).InRange → fedInto f q * (s.config.channels.get c).k ≤ 2147385345)
          ∧ ((s.config.channels.get c).ss < 0 →
              e * 2 ^ (-(s.config.channels.get c).ss).toNat + (t.chans.get c).residue.get q
                  = fedInto f q * (s.config.channels.get c).k + (s.chans.get c).residue.get q
                ∧ (t.chans.get c).residue.get q < 2 ^ (-(s.config.channels.get c).ss).toNat))

/-- A channel whose stall timer the last second event brings to the timeout goes to STALLED with
LINK_FAULT in both units and STALL; the row comes after the second that left it due (assumption 2). Out of
ACTIVE it keeps its expected number; out of WAITING, where it held none, it holds one that the spec does not
name (a free value, assumption 16). Every step keeps it so that a channel holds an expected number in ACTIVE
and STALLED, and none in WAITING and OFF. -/
def Obligations.StallTimeoutStalls : Prop :=
  (∀ (c : Fin 4) (s : State), s.sup.mainSupply = true → s.due.stall.get c = true →
    ((s.chans.get c).state = .waiting ∨ (s.chans.get c).state = .active) →
    s.config.stallTimeout ≤ (s.chans.get c).timer + 1 →
    ∃ t, exec (.stallTimeout c) s = .next t
      ∧ t.chans.get c = { s.chans.get c with
          state := .stalled, timer := (s.chans.get c).timer + 1, expected := (t.chans.get c).expected }
      ∧ ((s.chans.get c).state = .active → (t.chans.get c).expected = (s.chans.get c).expected ∧ t.free = s.free)
      ∧ ((s.chans.get c).state = .waiting → ∃ number, (t.chans.get c).expected = some number)
      ∧ (∀ d, d ≠ c → t.chans.get d = s.chans.get d ∧ t.due.stall.get d = s.due.stall.get d)
      ∧ t.due.stall.get c = false
      ∧ s.RaisedOnly t (fun f => f = .linkFault)
      ∧ (∀ f, t.sub.status.has f = true ↔ s.sub.status.has f = true ∨ f = .stall)
      ∧ t = { s with chans := t.chans, due := { s.due with stall := t.due.stall }
                     sub := { s.sub with status := t.sub.status }, free := t.free
                     util := { s.util with attn := t.util.attn }, cust := { s.cust with attn := t.cust.attn } })
  ∧ ∀ s t : State, s.ExpectedHeld → step s = .next t → t.ExpectedHeld

/-! ## Time Base and sub-interval ends (chapters 2 to 4, 7) -/

/-- A second event with nothing waiting counts: the instant, the elapsed count, the lockout timer and the
stall timers outside Hold; what would reach its end is left due to its own row (assumption 2); the
registers, the ring, the log and the tables stay. A second counted while the supply is lost moves the
instant and the elapsed count alone. The entry whose close instant is reached is left due as one
close-date event (assumption 2) and the pointer goes to the following entry, or to none; the midnight
that ends day 65535 sends it to the first entry before that comparison. Where the second reaches the end
of the sub-interval and the close is taken first (R150), it leaves what the other order leaves once the
end's own row is taken, but for the Limit Monitor and its two flags. -/
def Obligations.SecondEventCounts : Prop :=
  (
    ∀ (b : Bool) (s : State),
      (s.sup.mainSupply = false →
        exec (.secondEvent b) s = .next { s with
          clock := { s.clock with now := s.clock.now.tick }, sub := { s.sub with elapsed := s.sub.elapsed + 1 } })
      ∧ (s.sup.mainSupply = true → s.NothingWaits →
          (b = true → (s.config.syncMode = .internal → s.clock.now.tick ≠ s.sub.nominalEnd)
            ∧ (s.config.syncMode = .external → s.sub.elapsed + 1 < s.config.subLen + s.config.grace)) →
        ∃ t, exec (.secondEvent b) s = .next t
          ∧ t.clock.now = s.clock.now.tick ∧ t.clock.timeValid = s.clock.timeValid ∧ t.clock.dayType = s.clock.dayType
          ∧ t.sub.elapsed = s.sub.elapsed + 1 ∧ t.sub.start = s.sub.start ∧ t.sub.nominalEnd = s.sub.nominalEnd
          ∧ t.sub.rate = s.sub.rate
          ∧ (∀ f, t.sub.status.has f = true ↔ s.sub.status.has f = true ∨ (f = .outage ∧ s.sup.hold = true))
          ∧ (t.due.midnight = true ↔ s.clock.now.tick.sec = 0)
          ∧ t.per = { s.per with lockout := if s.per.lockout = 1 then 1 else s.per.lockout - 1 }
          ∧ (t.due.lockout = true ↔ s.per.lockout = 1)
          ∧ (∀ c, t.due.stall.get c = true ↔ s.sup.hold = false
              ∧ ((s.chans.get c).state = .waiting ∨ (s.chans.get c).state = .active)
              ∧ s.config.stallTimeout ≤ (s.chans.get c).timer + 1)
          ∧ (∀ c, t.chans.get c = { s.chans.get c with
              timer := if s.sup.hold = false ∧ ((s.chans.get c).state = .waiting ∨ (s.chans.get c).state = .active)
                  ∧ (s.chans.get c).timer + 1 < s.config.stallTimeout then (s.chans.get c).timer + 1
                else (s.chans.get c).timer })
          ∧ t.sup = { s.sup with lossInstant := s.clock.now.tick }
          ∧ t.tot = s.tot ∧ t.dem = s.dem ∧ t.log = s.log ∧ t.store = s.store ∧ t.pins = s.pins))
  ∧ (
    ∀ (s : State) (i : Nat), s.sup.mainSupply = true → s.NothingWaits →
      (if s.clock.now.tick = ⟨0, 0⟩ then i = 0 else s.clock.pointer = some i) →
      (hi : i < s.store.closeDates.length) →
      ∃ t, exec (.secondEvent false) s = .next t
        ∧ (s.clock.now.tick = ⟨s.store.closeDates[i], s.config.closeSecond⟩ →
            t.due.dates = 1 ∧ t.clock.pointer = (if i + 1 < s.store.closeDates.length then some (i + 1) else none))
        ∧ (s.clock.now.tick ≠ ⟨s.store.closeDates[i], s.config.closeSecond⟩ →
            t.due.dates = 0 ∧ t.clock.pointer = some i))
  ∧ (
    ∀ (e : Instr) (s : State), s.sup.mainSupply = true → s.NothingWaits →
      (e = .boundaryEvent ∧ s.config.syncMode = .internal ∧ s.clock.now.tick = s.sub.nominalEnd
        ∨ e = .syncExpiry ∧ s.config.syncMode = .external ∧ s.config.subLen + s.config.grace ≤ s.sub.elapsed + 1) →
      ∃ t u v, exec (.secondEvent true) s = .next t ∧ exec (.secondEvent false) s = .next u ∧ exec e u = .next v
        ∧ v.tot.lastSeq = s.tot.lastSeq + 1 ∧ v.sub.start = s.clock.now.tick ∧ v.sub.elapsed = 0
        ∧ t = { v with
            lim := t.lim
            util := { v.util with attn := { v.util.attn with flags := t.util.attn.flags, fresh := t.util.attn.fresh } }
            cust := { v.cust with attn := { v.cust.attn with flags := t.cust.attn.flags, fresh := t.cust.attn.fresh } } }
        ∧ ∀ (f : AttnFlag) (p : Port), f ≠ .limitAlert → f ≠ .limitRelease → (t.port p).attn.has f = (v.port p).attn.has f)

/-- The midnight event finds the day type anew and activates an armed schedule whose effective day begins,
with its SCHEDULE marker and SCHEDULE_SWITCHED in both units; it changes no open sub-interval. It is
taken where a second event has left it due (assumption 2). The effective day is compared with the present
day when the row is taken, also where that day has been moved since the midnight, and the marker carries the
present instant (assumption 2). -/
def Obligations.MidnightEventTurnsTheDay : Prop :=
  ∀ s : State, s.sup.mainSupply = true → s.due.midnight = true →
    ∃ t, exec .midnightEvent s = .next t
      ∧ t.due = { s.due with midnight := false }
      ∧ t.clock = { s.clock with dayType := dayTypeOf t.store.active s.config.weekdayOffset s.clock.now.day }
      ∧ t.sub = s.sub ∧ t.chans = s.chans ∧ t.tot = s.tot ∧ t.dem = s.dem ∧ t.per = s.per ∧ t.lim = s.lim
      ∧ match s.store.pendSched with
        | .armed tables day =>
          if day = s.clock.now.day then
            t.store = { s.store with active := tables, pendSched := .none }
              ∧ (∀ p, (t.port p).attn.has .scheduleSwitched = true)
              ∧ s.Logged t { kind := .schedule, rate := s.sub.rate, status := 0, stamp := s.clock.now,
                             payload := [BitVec.ofNat 32 day] }
          else t.store = s.store ∧ t.log = s.log ∧ t.util = s.util ∧ t.cust = s.cust
        | _ => t.store = s.store ∧ t.log = s.log ∧ t.util = s.util ∧ t.cust = s.cust

/-- A boundary, a sync pulse in EXTERNAL mode and a sync expiry close the open sub-interval: the record
takes the next sequence, the bounds, the rate, the partials and the status set with the flags of the
cause, OUTAGE in Hold and NEGTOTAL; the next sub-interval opens at that instant with no elapsed
seconds, no partials, NOTIME and STALL as the part stands, and the rate of the schedule. Its totals are
the sums over the ADD channels less those over the SUBTRACT channels, formed exactly, taken as 0 below 0
and as 2^64 − 1 above it, and Eq is formed from the clamped totals by the reactive mode. The nominal end of
a sub-interval is the first instant after its start whose second of day is a multiple of S in INTERNAL
mode, and S seconds after its start in EXTERNAL mode. -/
def Obligations.EndEventsBuildTheRecord : Prop :=
  (
    ∀ (c : Instr) (s : State) (cause : List StatusFlag), s.endStatus c = some cause →
      ∃ t r, exec c s = .next t ∧ t.tot.last = some r ∧ t.tot.lastSeq = s.tot.lastSeq + 1
        ∧ r.sequence = s.tot.lastSeq + 1 ∧ r.start = s.sub.start ∧ r.stop = s.clock.now ∧ r.rate = s.sub.rate
        ∧ (∀ d, r.parts.get d = (s.chans.get d).part)
        ∧ (∀ f, r.status.has f = true ↔ s.sub.status.has f = true ∨ f ∈ cause ∨ (f = .outage ∧ s.sup.hold = true)
            ∨ (f = .negTotal ∧ ∃ q, s.sumOver .add q < s.sumOver .subtract q))
        ∧ t.sub.start = s.clock.now ∧ t.sub.elapsed = 0 ∧ t.sub.nominalEnd = nominalEndOf s.config s.clock.now
        ∧ t.sub.rate = rateAt t.store.active s.config.weekdayOffset s.clock.now
        ∧ (∀ f, t.sub.status.has f = true ↔ (f = .noTime ∧ s.clock.timeValid = false)
            ∨ (f = .stall ∧ ∃ d, (s.chans.get d).state = .stalled))
        ∧ (∀ d, t.chans.get d = { s.chans.get d with part := .all 0 })
        ∧ (∀ p, (t.port p).attn.has .subintEnd = true)
        ∧ (∀ p, (t.port p).attn.has .rateChange = true ↔
            (s.port p).attn.has .rateChange = true ∨ t.sub.rate ≠ s.sub.rate)
        ∧ t.clock.now = s.clock.now ∧ t.per = s.per ∧ t.sup = s.sup ∧ t.config = s.config)
  ∧ (
    ∀ (c : Instr) (s : State) (cause : List StatusFlag), s.endStatus c = some cause →
      ∃ t r, exec c s = .next t ∧ t.tot.last = some r
        ∧ r.totals.pp.toNat = min (s.sumOver .add .impActive - s.sumOver .subtract .impActive) (2 ^ 64 - 1)
        ∧ r.totals.pm.toNat = min (s.sumOver .add .expActive - s.sumOver .subtract .expActive) (2 ^ 64 - 1)
        ∧ r.totals.qp.toNat = min (s.sumOver .add .lagging - s.sumOver .subtract .lagging) (2 ^ 64 - 1)
        ∧ r.totals.qm.toNat = min (s.sumOver .add .leading - s.sumOver .subtract .leading) (2 ^ 64 - 1)
        ∧ r.totals.eq.toNat = match s.config.reactive with
          | .lagOnly => r.totals.qp.toNat
          | .lagPlusLead => min (r.totals.qp.toNat + r.totals.qm.toNat) (2 ^ 64 - 1)
          | .lagMinusLead => r.totals.qp.toNat - r.totals.qm.toNat)
  ∧ (
    ∀ (cfg : Config) (start : Instant),
      nominalEndOf cfg start = match cfg.syncMode with
        | .internal =>
          if (start.sec / cfg.subLen + 1) * cfg.subLen < 86400 then
            ⟨start.day, (start.sec / cfg.subLen + 1) * cfg.subLen⟩
          else ⟨(start.day + 1) % 65536, 0⟩
        | .external =>
          ⟨(start.day * 86400 + start.sec + cfg.subLen) / 86400 % 65536,
            (start.day * 86400 + start.sec + cfg.subLen) % 86400⟩)

/-- The energies of a close go to the record's rate and to rate A, in the accumulators and in the period
energies, and to no other rate; the rate joins the rate-present set; the close marks take the
cumulative energies; REG_ROLLOVER is set exactly when a register rolled: in ROLLOVER mode its whole Wh
passed to another multiple of 10^D, in SATURATE mode they came from below 10^D − 1 to it or above. The test
is made on the 35 totalized registers, before and after, and on each channel's mark and cumulative energy. -/
def Obligations.EndEventsFileTheEnergy : Prop :=
  ∀ (c : Instr) (s : State) (cause : List StatusFlag), s.endStatus c = some cause →
    let rolled := fun (a0 a1 : Energy) =>
      (s.config.registerMode = .rollover
          ∧ a1.toNat / 1000 / 10 ^ s.config.digits ≠ a0.toNat / 1000 / 10 ^ s.config.digits)
        ∨ (s.config.registerMode = .saturate
          ∧ a0.toNat / 1000 < 10 ^ s.config.digits - 1 ∧ 10 ^ s.config.digits - 1 ≤ a1.toNat / 1000)
    ∃ t r, exec c s = .next t ∧ t.tot.last = some r
      ∧ (∀ x, t.tot.acc.get x = if x = .one s.sub.rate ∨ x = .all then (s.tot.acc.get x).zipWith (· + ·) r.totals
          else s.tot.acc.get x)
      ∧ (∀ x, t.tot.period.get x = if x = .one s.sub.rate ∨ x = .all then
            (s.tot.period.get x).zipWith (· + ·) r.totals
          else s.tot.period.get x)
      ∧ (∀ x, t.tot.present.has x = true ↔ s.tot.present.has x = true ∨ x = s.sub.rate)
      ∧ (∀ d, t.tot.marks.get d = (s.chans.get d).cum)
      ∧ (∀ p, (t.port p).attn.has .regRollover = true ↔ (s.port p).attn.has .regRollover = true
          ∨ (∃ x, ∃ i, ∃ h : i < (s.tot.acc.get x).toList.length, ∃ h' : i < (t.tot.acc.get x).toList.length,
              rolled ((s.tot.acc.get x).toList[i]) ((t.tot.acc.get x).toList[i]))
          ∨ (∃ d q, rolled ((s.tot.marks.get d).get q) ((s.chans.get d).cum.get q)))

/-- The arrival at the Demand Engine: the ring drops its oldest entry when full and takes the record; the
window is the ring's sums over T, rounded half up and capped, with the root and the power factor of
R67 and R68; it fails as FILL, PICKUP or FLAGGED; the pickup counter counts down. The Limit Monitor takes
the record after it: the projection takes the new window's demands as HELD_EARLY, or as HELD_FILL below a
fill of N − 1, with elapsed 0; no comparator and no SHED output moves. -/
def Obligations.EndEventsMoveTheWindow : Prop :=
  ∀ (c : Instr) (s : State) (cause : List StatusFlag), s.endStatus c = some cause →
    ∃ t r w, exec c s = .next t ∧ t.tot.last = some r ∧ t.dem.window = some w
      ∧ t.dem.ring = (if s.dem.ring.length = s.config.windowLen then s.dem.ring.drop 1 else s.dem.ring)
          ++ [⟨r.sequence, r.rate, r.status, r.totals.pp, r.totals.eq⟩]
      ∧ w.sequence = r.sequence ∧ w.stop = r.stop ∧ w.rate = r.rate ∧ w.fill = t.dem.ring.length
      ∧ w.dp = min 4294967295 (((t.dem.ring.map (fun x => x.ep.toNat)).sum * 36
            + 5 * (s.config.windowLen * s.config.subLen)) / (10 * (s.config.windowLen * s.config.subLen)))
      ∧ w.dq = min 4294967295 (((t.dem.ring.map (fun x => x.eq.toNat)).sum * 36
            + 5 * (s.config.windowLen * s.config.subLen)) / (10 * (s.config.windowLen * s.config.subLen)))
      ∧ w.dva = apparentOf w.dp w.dq ∧ w.pf = windowPF w.dp w.dva
      ∧ (w.failFill = true ↔ t.dem.ring.length ≠ s.config.windowLen) ∧ (w.failPickup = true ↔ s.dem.pickup ≠ 0)
      ∧ (w.failFlagged = true ↔ s.config.excludeFlagged = true ∧ ∃ x ∈ t.dem.ring,
          ∃ f ∈ [StatusFlag.outage, .short, .long, .stall, .timeSet, .noSync], x.status.has f = true)
      ∧ t.dem.pickup = s.dem.pickup - 1
      ∧ t.lim.projection = { dp := w.dp, dq := w.dq, dva := w.dva, elapsed := 0
                             source := if t.dem.ring.length < s.config.windowLen - 1 then .heldFill else .heldEarly }
      ∧ t.lim.comparators = s.lim.comparators ∧ t.lim.shed = s.lim.shed

/-- The Maximum Records after an arrival: an eligible window replaces the kW record and the kVA record of
its rate and of rate A, each where it is empty or strictly smaller, with every field from the window; all
others stay; NEW_MAX_KW and NEW_MAX_KVA are raised for rate A or a billable rate. -/
def Obligations.EndEventsSetTheMaxima : Prop :=
  ∀ (c : Instr) (s : State) (cause : List StatusFlag), s.endStatus c = some cause →
    ∃ t r w, exec c s = .next t ∧ t.tot.last = some r ∧ t.dem.window = some w
      ∧ ((w.failFill = true ∨ w.failPickup = true ∨ w.failFlagged = true) → t.dem.maxima = s.dem.maxima)
      ∧ (w.failFill = false ∧ w.failPickup = false ∧ w.failFlagged = false →
          ∀ x, (x ≠ .one w.rate ∧ x ≠ .all → t.dem.maxima.get x = s.dem.maxima.get x)
            ∧ (x = .one w.rate ∨ x = .all →
                (t.dem.maxima.get x).kw = (if ∀ m ∈ (s.dem.maxima.get x).kw, m.value < w.dp then
                    some ⟨w.dp, w.stop, w.sequence, w.dq, w.dva, w.pf, r.status⟩ else (s.dem.maxima.get x).kw)
                ∧ (t.dem.maxima.get x).kva = (if ∀ m ∈ (s.dem.maxima.get x).kva, m.value < w.dva then
                    some ⟨w.dva, w.stop, w.sequence, w.dq, w.dp, w.pf, r.status⟩ else (s.dem.maxima.get x).kva)))
      ∧ (∀ p, (t.port p).attn.has .newMaxKW = true ↔ (s.port p).attn.has .newMaxKW = true
          ∨ (w.eligible = true ∧ ((∀ m ∈ s.dem.maxima.rA.kw, m.value < w.dp)
              ∨ (s.config.bill.billable.has w.rate = true
                  ∧ ∀ m ∈ (s.dem.maxima.get (.one w.rate)).kw, m.value < w.dp))))
      ∧ (∀ p, (t.port p).attn.has .newMaxKVA = true ↔ (s.port p).attn.has .newMaxKVA = true
          ∨ (w.eligible = true ∧ ((∀ m ∈ s.dem.maxima.rA.kva, m.value < w.dva)
              ∨ (s.config.bill.billable.has w.rate = true
                  ∧ ∀ m ∈ (s.dem.maxima.get (.one w.rate)).kva, m.value < w.dva))))

/-- The DATA record of a close: the totalized block and a block for each channel of the mask, every value v
with its carry k written as floor((v + k) / 1000) Wh and leaving (v + k) mod 1000, or as 4294967295 and 0
where it does not fit a word (R130), filed in the log by R133 or in the holding slot by R142, and followed
by the SCHEDULE marker of an activation that the opening makes; a channel outside the mask keeps its
carries. The oldest records leave only as far as they must to make room. A cursor at the end takes the new
record, one whose record is removed goes to OVERRUN with LOG_OVERRUN on its port alone, and the others
stay. -/
def Obligations.EndEventsLogTheData : Prop :=
  ∀ (c : Instr) (s : State) (cause : List StatusFlag), s.endStatus c = some cause →
    let logged := fun (v : Energy) (k : Nat) =>
      if (v.toNat + k) / 1000 ≤ 4294967295 then
        ((BitVec.ofNat 32 ((v.toNat + k) / 1000), (v.toNat + k) % 1000) : LogWord × Nat)
      else (0xFFFFFFFF, 0)
    let totals := fun (r : SubRecord) => (⟨r.totals.pp, r.totals.pm, r.totals.qp, r.totals.qm⟩ : Quad Energy)
    ∃ t r b, exec c s = .next t ∧ t.tot.last = some r
      ∧ b.kind = .data s.config.logMask ∧ b.rate = r.rate ∧ b.status = r.status ∧ b.stamp = r.stop
      ∧ b.payload =
          (([Quantity.impActive, .expActive, .lagging, .leading].map (fun q =>
              (logged ((totals r).get q) (s.log.carries.totals.get q)).1))
            ++ ([(0 : Fin 4), 1, 2, 3].filter (fun d => s.config.logMask.getLsbD d.val)).flatMap (fun d =>
              [Quantity.impActive, .expActive, .lagging, .leading].map (fun q =>
                (logged ((r.parts.get d).get q) ((s.log.carries.channels.get d).get q)).1)))
      ∧ (let filed := ({ s.log with carries := t.log.carries } : ProfileLog).logged b
        t.log = match s.store.pendSched with
          | .armed _ day =>
            if day ≤ s.clock.now.day then
              filed.logged { kind := .schedule, rate := t.sub.rate, status := 0, stamp := s.clock.now
                             payload := [BitVec.ofNat 32 day] }
            else filed
          | _ => filed)
      ∧ (∃ k, trimFor b.words s.log.records = s.log.records.drop k
          ∧ (s.log.records.drop k = [] ∨ wordsOf (s.log.records.drop k) + b.words ≤ 16384)
          ∧ ∀ j, j < k → 16384 < wordsOf (s.log.records.drop j) + b.words)
      ∧ (s.log.clearBusy = false → wordsOf t.log.records ≤ 16384)
      ∧ (∀ q, t.log.carries.totals.get q = (logged ((totals r).get q) (s.log.carries.totals.get q)).2
        ∧ ∀ d, (t.log.carries.channels.get d).get q =
            if s.config.logMask.getLsbD d.val then
              (logged ((r.parts.get d).get q) ((s.log.carries.channels.get d).get q)).2
            else (s.log.carries.channels.get d).get q)
      ∧ (s.log.clearBusy = true → ∀ p, (t.port p).cursor = (s.port p).cursor)
      ∧ (s.log.clearBusy = false → s.log.Safe → ∀ p,
          ((s.port p).cursor.state = .atEnd → (s.port p).cursor.position = s.log.nextSeq →
            (t.port p).cursor = { (s.port p).cursor with state := .atRecord })
          ∧ ((s.port p).cursor.state = .atRecord → heldIn s.log.records (s.port p).cursor.position = true →
            (t.port p).cursor = (if heldIn t.log.records (s.port p).cursor.position then (s.port p).cursor
              else { (s.port p).cursor with state := .overrun })
            ∧ ((t.port p).attn.has .logOverrun = true ↔ (s.port p).attn.has .logOverrun = true
                ∨ heldIn t.log.records (s.port p).cursor.position = false))
          ∧ ((s.port p).cursor.state = .atEdge ∨ (s.port p).cursor.state = .overrun →
            (t.port p).cursor = (s.port p).cursor
              ∧ (t.port p).attn.has .logOverrun = (s.port p).attn.has .logOverrun))

/-- Set Time: the sub-interval is closed at the old instant with TIME_SET, filed, handed on and logged as
a boundary close is, the ring emptied, TIME_VALID set, the pointer put past the new instant without any
close-date event, TIME_CHANGED raised, the next sub-interval opened at the new instant, and the TIME_SET marker
written after the DATA record; a second of day above 86399 is refused RANGE. The close carries no NOSYNC in
EXTERNAL mode either, also where S + G is reached and SYNC_EXPIRY not yet taken (assumption 2). The midnight,
stall, close-date and lockout events left due stay due (assumption 2). -/
def Obligations.SetTimeMovesTheClock : Prop :=
  ∀ (day : BitVec 16) (second : BitVec 24) (s : State), s.TakesConfig →
    (86399 < second.toNat → exec (.setTime .utility .whole day second) s = .next (s.finish .utility 0x51 .range false false))
    ∧ (second.toNat ≤ 86399 → ∃ t r dem, exec (.setTime .utility .whole day second) s = .next t
        ∧ t.clock = { now := ⟨day.toNat, second.toNat⟩, timeValid := true
                      dayType := dayTypeOf t.store.active s.config.weekdayOffset day.toNat
                      pointer := s.store.pointerAfter ⟨day.toNat, second.toNat⟩ }
        ∧ t.due = s.due
        ∧ t.sub.start = ⟨day.toNat, second.toNat⟩ ∧ t.sub.elapsed = 0
        ∧ t.sub.nominalEnd = nominalEndOf s.config ⟨day.toNat, second.toNat⟩
        ∧ t.sub.rate = rateAt t.store.active s.config.weekdayOffset ⟨day.toNat, second.toNat⟩
        ∧ t.sub.status.has .noTime = false
        ∧ s.ClosesInto t s.chans s.clock.now (.timeSet :: s.lengthFlags s.sub.elapsed) r t.tot dem
        ∧ t.log = (s.closeLogged t s.log r).logged
            { kind := .timeSet, rate := t.sub.rate, status := 0, stamp := ⟨day.toNat, second.toNat⟩
              payload := [BitVec.ofNat 32 s.clock.now.day, BitVec.ofNat 32 s.clock.now.sec] }
        ∧ t.dem = { dem with ring := [] }
        ∧ (∀ p, (t.port p).attn.has .timeChanged = true)
        ∧ t.per = s.per ∧ t.config = s.config
        ∧ t.util.tx = .idle ∧ t.util.lastResult = .ok ∧ t.util.lastCommand = 0x51 ∧ t.util.latch = false)

/-- Adjust Time: out of range or out of the calendar it is refused RANGE; 0 changes nothing; otherwise the
instant moves, TIME_CHANGED is raised and TIME_ADJ marked. The close second is in its range of R41. Short of
the nominal end, or in EXTERNAL mode, the sub-interval goes on, after a backward move also where a boundary was
reached and not yet taken (assumption 2); a forward move that reaches the nominal end in INTERNAL mode closes
it, and the close is filed, handed on and logged as a boundary close is. A forward move past a close instant
raises one close-date event at the new instant: left due to its own row, after the close (assumption 2, and 15
after a backward move), or taken first, and then a freeze leaves the closing sub-interval's energy to the new
period and logs CLOSE before DATA. The midnight, stall, close-date and lockout events left due stay
due, after a move back too (assumption 2). -/
def Obligations.AdjustTimeMovesTheClock : Prop :=
  ∀ (v : BitVec 16) (b : Bool) (s : State), s.TakesOperation .utility → s.clock.now.InRange →
      s.config.closeSecond ≤ 86399 →
    ((v.toInt < -900 ∨ 900 < v.toInt ∨ (s.clock.now.abs : Int) + v.toInt < 0
        ∨ 5662310400 ≤ (s.clock.now.abs : Int) + v.toInt) →
      exec (.adjustTime .utility .whole v b) s = .next (s.finish .utility 0x41 .range false false))
    ∧ (v.toInt = 0 → exec (.adjustTime .utility .whole v b) s = .next (s.finish .utility 0x41 .ok false false))
    ∧ (-900 ≤ v.toInt ∧ v.toInt ≤ 900 ∧ v.toInt ≠ 0 ∧ 0 ≤ (s.clock.now.abs : Int) + v.toInt
        ∧ (s.clock.now.abs : Int) + v.toInt < 5662310400 →
      let passed := ∃ d ∈ s.store.closeDates, s.clock.now.abs < d * 86400 + s.config.closeSecond
        ∧ ((d * 86400 + s.config.closeSecond : Nat) : Int) ≤ (s.clock.now.abs : Int) + v.toInt
      let reached := 0 < v.toInt ∧ s.config.syncMode = .internal ∧ (s.clock.now.until s.sub.nominalEnd : Int) ≤ v.toInt
      let first := b = true ∧ passed ∧ s.per.close = .idle ∧ s.per.lockout = 0 ∧ s.per.number ≠ 0xFFFFFFFF
      let long := if s.config.subLen < s.sub.elapsed then [StatusFlag.long] else []
      ∃ t, exec (.adjustTime .utility .whole v b) s = .next t
        ∧ (t.clock.now.abs : Int) = (s.clock.now.abs : Int) + v.toInt ∧ t.clock.now.InRange
        ∧ t.clock.dayType = dayTypeOf t.store.active s.config.weekdayOffset t.clock.now.day
        ∧ t.clock.timeValid = s.clock.timeValid
        ∧ (∀ p, (t.port p).attn.has .timeChanged = true)
        ∧ (v.toInt < 0 → t.clock.pointer = s.clock.pointer ∧ t.due = s.due)
        ∧ (0 < v.toInt → t.clock.pointer = s.store.pointerAfter t.clock.now)
        ∧ (0 < v.toInt → b = false → passed → t.due = { s.due with dates := s.due.dates + 1 })
        ∧ (0 < v.toInt → (b = true ∨ ¬ passed) → t.due = s.due)
        ∧ (¬ reached →
            t.sub.elapsed = s.sub.elapsed ∧ t.sub.start = s.sub.start ∧ t.sub.rate = s.sub.rate
              ∧ t.tot.last = s.tot.last ∧ t.tot.lastSeq = s.tot.lastSeq ∧ t.tot.acc = s.tot.acc
              ∧ t.dem.ring = s.dem.ring ∧ t.dem.window = s.dem.window ∧ t.chans = s.chans ∧ t.store = s.store
              ∧ t.lim = s.lim
              ∧ (∀ f, t.sub.status.has f = true ↔ s.sub.status.has f = true ∨ f = .timeAdj)
              ∧ (s.config.syncMode = .internal → t.sub.nominalEnd = s.sub.nominalEnd)
              ∧ (0 < v.toInt → s.config.syncMode = .external → t.sub.nominalEnd = s.sub.nominalEnd.later v.toInt.toNat)
              ∧ (v.toInt < 0 → s.config.syncMode = .external →
                  t.sub.nominalEnd = s.sub.nominalEnd.earlier (-v.toInt).toNat)
              ∧ (v.toInt < 0 ∨ b = false ∨ ¬ passed → t.tot = s.tot ∧ t.dem = s.dem ∧ t.log = s.log))
        ∧ (reached → ¬ first →
            ∃ r, s.ClosesInto t s.chans t.clock.now (.timeAdj :: .short :: long) r t.tot t.dem
              ∧ t.log = s.closeLogged t s.log r)
        ∧ (reached → first →
            ∃ r, ({ s with tot := { s.tot with period := .all (.all 0), present := 0 }
                           dem := { s.dem with maxima := .all ⟨none, none⟩ } } : State).ClosesInto
                t s.chans t.clock.now (.timeAdj :: .short :: long) r t.tot t.dem
              ∧ t.log = s.closeLogged t (s.log.logged
                  { kind := .close, rate := s.sub.rate, status := 0, stamp := t.clock.now, payload := [s.per.number] }) r)
        ∧ (v.toInt < 0 ∨ b = false ∨ ¬ passed → t.per = s.per)
        ∧ (0 < v.toInt → b = true → passed →
            (s.per.close ≠ .idle ∨ s.per.lockout ≠ 0 →
              t.per = { s.per with deferred := some (s.per.deferred.getD .date) }
                ∧ ∀ p, (t.port p).attn.has .closeDeferred = true)
            ∧ (s.per.close = .idle → s.per.lockout = 0 → s.per.number = 0xFFFFFFFF → t.per = s.per)
            ∧ (s.per.close = .idle → s.per.lockout = 0 → s.per.number ≠ 0xFFFFFFFF →
              t.per = { s.per with
                  close := .closing
                    { energy := s.tot.period, maxima := s.dem.maxima, ratePresent := s.tot.present
                      ratchet := (s.per.history.reverse.take s.config.bill.lookback).map PeriodRecord.unadjusted
                      settings := s.config.bill, number := s.per.number, start := s.per.start, stop := t.clock.now
                      cause := .date, partialMark := s.per.partialMark }
                  number := s.per.number + 1, start := t.clock.now, partialMark := false, lockout := s.config.lockoutLen }
                ∧ (¬ reached → t.tot.period = .all (.all 0) ∧ t.tot.present = 0 ∧ t.dem.maxima = .all ⟨none, none⟩)
                ∧ (reached → ∃ r, t.tot.last = some r ∧ t.tot.period.get .all = r.totals
                    ∧ t.tot.period.get (.one s.sub.rate) = r.totals ∧ (∀ x, t.tot.present.has x = true ↔ x = s.sub.rate))
                ∧ (s.log.clearBusy = false →
                    (⟨s.log.nextSeq, ⟨.close, s.sub.rate, 0, t.clock.now, [s.per.number]⟩⟩ : LogRecord) ∈ t.log.records
                      ∧ (reached → ∃ m ∈ t.log.records, m.sequence = s.log.nextSeq + 1
                          ∧ m.body.kind = .data s.config.logMask ∧ m.body.stamp = t.clock.now))))
        ∧ t.config = s.config ∧ t.util.lastResult = .ok ∧ t.util.latch = false)

/-! ## Rate Schedule, close dates and the Configuration Store (chapters 2 and 9) -/

/-- The rate of a start under valid tables is that of the last switch point of the day type whose minute
is not after the start's minute of day, and a switch point always qualifies; the day type is 3 on a
holiday and the week table's entry otherwise. -/
def Obligations.RateComesFromTheSchedule : Prop :=
  ∀ (t : Tables) (offset : Nat) (start : Instant), validTables t = true →
    (start.day ∈ t.holidays → dayTypeOf t offset start.day = 3)
      ∧ (start.day ∉ t.holidays → (dayTypeOf t offset start.day).val =
          (weekEntry t.week ((start.day + offset) % 7)).val)
      ∧ ∃ p ∈ t.switches.get (dayTypeOf t offset start.day), p.minute ≤ start.sec / 60
          ∧ (∀ q ∈ t.switches.get (dayTypeOf t offset start.day), q.minute ≤ start.sec / 60 → q.minute ≤ p.minute)
          ∧ (rateAt t offset start).number = p.rate

/-- The three pending writes and Write Close Date Quad: refused BUSY when armed (the pending three), then
BUSY in STORE_BUSY, then RANGE, and the close dates RANGE, BUSY, INVALID in that order; otherwise a
store write of the entries begins. A start index is held against the length of the pending list, which in
state NONE is that of the active one, and the close dates to be stored are the present list with the quad
written from its start index. -/
def Obligations.ScheduleWritesStart : Prop :=
  ∀ (s : State), s.TakesOperation .utility →
    let base := match s.store.pendSched with | .none => s.store.active | .loading t => t | .armed t _ => t
    let dates := fun (i : Byte) (e : Four (BitVec 16)) => writeQuad s.store.closeDates i.toNat
      ([e.e0, e.e1, e.e2, e.e3].map (fun d => if d = 0xFFFF then none else some d.toNat))
    (∀ (d i : Byte) (e : Four SwitchArg),
      (((∃ t day, s.store.pendSched = .armed t day) ∨ s.store.writing ≠ none) →
        exec (.writeSwitchQuad .utility .whole d i e) s = .next (s.finish .utility 0x42 .busy false false))
      ∧ ((∀ t day, s.store.pendSched ≠ .armed t day) → s.store.writing = none →
        (3 < d.toNat → exec (.writeSwitchQuad .utility .whole d i e) s = .next (s.finish .utility 0x42 .range false false))
        ∧ ∀ dt : Fin 4, d.toNat = dt.val →
          (if i.toNat ∈ [0, 4, 8] ∧ i.toNat ≤ (base.switches.get dt).length
              ∧ ∀ a ∈ [e.e0, e.e1, e.e2, e.e3], a.minute = 0xFFFF ∨ a.minute.toNat ≤ 1439 then
            exec (.writeSwitchQuad .utility .whole d i e) s = .next ((s.storing .utility
              (.switchQuad dt i.toNat ([e.e0, e.e1, e.e2, e.e3].map (fun a =>
                if a.minute = 0xFFFF then none else some ⟨a.minute.toNat, a.rate.toNat⟩)))).finish
                  .utility 0x42 .ok false false)
          else
            exec (.writeSwitchQuad .utility .whole d i e) s = .next (s.finish .utility 0x42 .range false false))))
    ∧ (∀ (i : Byte) (e : Four (BitVec 16)),
      exec (.writeHolidayQuad .utility .whole i e) s = .next (
        if (match s.store.pendSched with | .armed _ _ => true | _ => false) = true ∨ s.store.writing ≠ none then
          s.finish .utility 0x43 .busy false false
        else if i.toNat % 4 = 0 ∧ i.toNat ≤ 28 ∧ i.toNat ≤ base.holidays.length then
          (s.storing .utility (.holidayQuad i.toNat ([e.e0, e.e1, e.e2, e.e3].map (fun d =>
            if d = 0xFFFF then none else some d.toNat)))).finish .utility 0x43 .ok false false
        else s.finish .utility 0x43 .range false false))
    ∧ (∀ (w : Week Byte),
      (((∃ t day, s.store.pendSched = .armed t day) ∨ s.store.writing ≠ none) →
        exec (.writeWeekTable .utility .whole w) s = .next (s.finish .utility 0x44 .busy false false))
      ∧ ((∀ t day, s.store.pendSched ≠ .armed t day) → s.store.writing = none →
        ((∃ b ∈ [w.mon, w.tue, w.wed, w.thu, w.fri, w.sat, w.sun], 2 < b.toNat) →
          exec (.writeWeekTable .utility .whole w) s = .next (s.finish .utility 0x44 .range false false))
        ∧ ∀ v : Week (Fin 3), (w.mon.toNat = v.mon.val ∧ w.tue.toNat = v.tue.val ∧ w.wed.toNat = v.wed.val
            ∧ w.thu.toNat = v.thu.val ∧ w.fri.toNat = v.fri.val ∧ w.sat.toNat = v.sat.val ∧ w.sun.toNat = v.sun.val) →
          exec (.writeWeekTable .utility .whole w) s = .next
            ((s.storing .utility (.weekTable v)).finish .utility 0x44 .ok false false)))
    ∧ (∀ (i : Byte) (e : Four (BitVec 16)),
      exec (.writeCloseDateQuad .utility .whole i e) s = .next (
        if ¬ (i.toNat % 4 = 0 ∧ i.toNat ≤ 20 ∧ i.toNat ≤ s.store.closeDates.length) then
          s.finish .utility 0x45 .range false false
        else if s.store.writing ≠ none then s.finish .utility 0x45 .busy false false
        else if (dates i e).Pairwise (· < ·) then
          (s.storing .utility (.closeDates (dates i e))).finish .utility 0x45 .ok false false
        else s.finish .utility 0x45 .invalid false false))

/-- A quad's entries are written from its start index in order; the first unused entry ends the list at
its position, and a quad with no unused entry keeps the entries beyond its four. This is what the store
completion of a switch quad, a holiday quad or a week table leaves in the pending tables, which then
are LOADING, and which start from a copy of the active ones in state NONE. -/
def Obligations.QuadsAreWrittenInPlace : Prop :=
  (∀ (list : List Nat) (start : Nat) (a b c d : Option Nat), start ≤ list.length →
    writeQuad list start [a, b, c, d] = list.take start ++ (match a, b, c, d with
      | none, _, _, _ => []
      | some a, none, _, _ => [a]
      | some a, some b, none, _ => [a, b]
      | some a, some b, some c, none => [a, b, c]
      | some a, some b, some c, some d => [a, b, c, d] ++ list.drop (start + 4)))
    ∧ ∀ (s : State) (p : Port), s.sup.mainSupply = true →
      ∀ base, base = (match s.store.pendSched with | .none => s.store.active | .loading t => t | .armed t _ => t) →
      (∀ d i e, s.store.writing = some ⟨p, .switchQuad d i e⟩ → ∃ t, exec .storeCompletion s = .next t
        ∧ t.store = { s.store with writing := none, pendSched := .loading { base with
            switches := base.switches.set d (writeQuad (base.switches.get d) i e) } })
      ∧ (∀ i e, s.store.writing = some ⟨p, .holidayQuad i e⟩ → ∃ t, exec .storeCompletion s = .next t
        ∧ t.store = { s.store with writing := none, pendSched := .loading { base with
            holidays := writeQuad base.holidays i e } })
      ∧ (∀ w, s.store.writing = some ⟨p, .weekTable w⟩ → ∃ t, exec .storeCompletion s = .next t
        ∧ t.store = { s.store with writing := none, pendSched := .loading { base with week := w } })

/-- Activate Schedule in its order of checks, and Cancel Pending; a schedule is valid exactly when no list
is empty, each begins at minute 0 and ascends strictly with rates 1 to 6, and the holidays ascend. -/
def Obligations.ActivateAndCancel : Prop :=
  ∀ (s : State), s.TakesOperation .utility →
    (∀ day : BitVec 16,
      (s.store.writing ≠ none →
        exec (.activateSchedule .utility .whole day) s = .next (s.finish .utility 0x46 .busy false false))
      ∧ (s.store.writing = none →
        (∀ t d, s.store.pendSched = .armed t d →
          exec (.activateSchedule .utility .whole day) s = .next (s.finish .utility 0x46 .busy false false))
        ∧ (s.store.pendSched = .none →
          exec (.activateSchedule .utility .whole day) s = .next (s.finish .utility 0x46 .invalid false false))
        ∧ (∀ t, s.store.pendSched = .loading t →
          ((∀ d, (∃ rest r, t.switches.get d = ⟨0, r⟩ :: rest)
                ∧ ((t.switches.get d).map SwitchPoint.minute).Pairwise (· < ·)
                ∧ ∀ q ∈ t.switches.get d, 1 ≤ q.rate ∧ q.rate ≤ 6) ∧ t.holidays.Pairwise (· < ·) →
            exec (.activateSchedule .utility .whole day) s = .next
              ((s.setStore { s.store with pendSched := .armed t day.toNat }).finish .utility 0x46 .ok false false))
          ∧ (¬ ((∀ d, (∃ rest r, t.switches.get d = ⟨0, r⟩ :: rest)
                ∧ ((t.switches.get d).map SwitchPoint.minute).Pairwise (· < ·)
                ∧ ∀ q ∈ t.switches.get d, 1 ≤ q.rate ∧ q.rate ≤ 6) ∧ t.holidays.Pairwise (· < ·)) →
            exec (.activateSchedule .utility .whole day) s = .next (s.finish .utility 0x46 .invalid false false)))))
    ∧ (s.store.writing ≠ none →
        exec (.cancelPending .utility .whole) s = .next (s.finish .utility 0x47 .busy false false))
    ∧ (s.store.writing = none → ∃ t, exec (.cancelPending .utility .whole) s = .next t
        ∧ t = (s.setStore { s.store with pendSched := .none }).finish .utility 0x47 .ok false false
        ∧ t.store.pendingTables = s.store.active)

/-- The store completion: the value is in force, STORE_DONE is raised in the writing port's unit and in no
other, the store is idle, and a CONFIG marker of the item's group in the table of R132 ends the log exactly
when the value held before it differs from the one written. A close-date list or a close second puts the
close-date pointer at the first entry whose close instant is later than now, raises no date and takes back
none left due (assumption 2); a weekday offset finds the day type anew. Pending writes are judged by the tables
they start from (assumption 11), and PERMANENT stays (assumption 12). -/
def Obligations.StoreCompletionCommits : Prop :=
  ∀ (p : Port) (item : StoreItem) (s : State), s.sup.mainSupply = true → s.store.writing = some ⟨p, item⟩ →
    let held := fun (c : Config) (v : Setting) => (match v with
      | .channelK i _ => .channelK i (c.channels.get i).k
      | .channelSS i _ => .channelSS i (c.channels.get i).ss
      | .channelEnable i _ => .channelEnable i (c.channels.get i).enabled
      | .channelWeight i _ => .channelWeight i (c.channels.get i).weight
      | .polarity _ => .polarity c.polarity
      | .stallTimeout _ => .stallTimeout c.stallTimeout
      | .subLen _ => .subLen c.subLen
      | .syncMode _ => .syncMode c.syncMode
      | .grace _ => .grace c.grace
      | .weekdayOffset _ => .weekdayOffset c.weekdayOffset
      | .closeSecond _ => .closeSecond c.closeSecond
      | .reactive _ => .reactive c.reactive
      | .digits _ => .digits c.digits
      | .registerMode _ => .registerMode c.registerMode
      | .windowLen _ => .windowLen c.windowLen
      | .excludeFlagged _ => .excludeFlagged c.excludeFlagged
      | .pickupThreshold _ => .pickupThreshold c.pickupThreshold
      | .pickupLength _ => .pickupLength c.pickupLength
      | .lockoutLen _ => .lockoutLen c.lockoutLen
      | .logMask _ => .logMask c.logMask
      | .basis _ => .basis c.bill.basis
      | .billable _ => .billable c.bill.billable
      | .ratchetPct _ => .ratchetPct c.bill.ratchetPct
      | .lookback _ => .lookback c.bill.lookback
      | .contractMin _ => .contractMin c.bill.contractMin
      | .excessOn _ => .excessOn c.bill.excessOn
      | .ratio _ => .ratio c.bill.ratio
      | .pfAdjustOn _ => .pfAdjustOn c.bill.pfAdjustOn
      | .pfRef _ => .pfRef c.bill.pfRef
      | .pfFloor _ => .pfFloor c.bill.pfFloor : Setting)
    let base := match s.store.pendSched with | .none => s.store.active | .loading t => t | .armed t _ => t
    let changed := match item with
      | .setting v => v ≠ held s.config v
      | .switchQuad d i e => writeQuad (base.switches.get d) i e ≠ base.switches.get d
      | .holidayQuad i e => writeQuad base.holidays i e ≠ base.holidays
      | .weekTable w => w ≠ base.week
      | .closeDates l => l ≠ s.store.closeDates
      | .limit k l => l ≠ s.config.limits.get k
      | .lockMode m => m ≠ s.config.lockMode ∧ s.config.lockMode ≠ .permanent
      | .calibrationLock c => (s.config.channels.get c).calLock = false
    let group := match item with
      | .setting (.channelK _ _) | .setting (.channelSS _ _) | .setting (.channelEnable _ _) |
        .setting (.channelWeight _ _) | .setting (.polarity _) | .setting (.stallTimeout _) => 1
      | .setting (.subLen _) | .setting (.syncMode _) | .setting (.grace _) | .setting (.weekdayOffset _) |
        .setting (.closeSecond _) => 2
      | .setting (.reactive _) | .setting (.digits _) | .setting (.registerMode _) => 4
      | .setting (.windowLen _) | .setting (.excludeFlagged _) | .setting (.pickupThreshold _) |
        .setting (.pickupLength _) => 5
      | .setting (.basis _) | .setting (.billable _) | .setting (.ratchetPct _) | .setting (.lookback _) |
        .setting (.contractMin _) | .setting (.excessOn _) | .setting (.ratio _) | .setting (.pfAdjustOn _) |
        .setting (.pfRef _) | .setting (.pfFloor _) | .setting (.lockoutLen _) => 6
      | .setting (.logMask _) => 7
      | .closeDates _ => 2
      | .switchQuad _ _ _ | .holidayQuad _ _ | .weekTable _ => 3
      | .limit _ _ => 8
      | .lockMode _ => 9
      | .calibrationLock _ => 1
    let later := fun (second day : Nat) =>
      decide (s.clock.now.day < day ∨ (s.clock.now.day = day ∧ s.clock.now.sec < second))
    ∃ t, exec .storeCompletion s = .next t ∧ t.store.writing = none
      ∧ (∀ q, (t.port q).attn.has .storeDone = true ↔ (s.port q).attn.has .storeDone = true ∨ q = p)
      ∧ (∀ v, item = .setting v → t.config = v.apply s.config ∧ held t.config v = v)
      ∧ (∀ k l, item = .limit k l → t.config.limits.get k = l
          ∧ t.lim.comparators.get k = ⟨if l.enabled then .clear else .disabled, 0⟩
          ∧ t.lim.projection = s.lim.projection
          ∧ ∀ j, j ≠ k → t.lim.comparators.get j = s.lim.comparators.get j
              ∧ t.config.limits.get j = s.config.limits.get j)
      ∧ (∀ l, item = .closeDates l → t.store.closeDates = l ∧ t.due = s.due
          ∧ t.clock.pointer = l.findIdx? (later s.config.closeSecond))
      ∧ (∀ n, item = .setting (.closeSecond n) → t.due = s.due
          ∧ t.clock.pointer = s.store.closeDates.findIdx? (later n))
      ∧ (∀ n, item = .setting (.weekdayOffset n) → t.clock.dayType = dayTypeOf t.store.active n s.clock.now.day)
      ∧ (∀ m, item = .lockMode m →
          t.config.lockMode = if s.config.lockMode = .permanent then .permanent else m)
      ∧ (∀ c, item = .calibrationLock c → (t.config.channels.get c).calLock = true
          ∧ (∀ d, d ≠ c → t.config.channels.get d = s.config.channels.get d) ∧ t.chans = s.chans)
      ∧ (¬ changed → t.log = s.log)
      ∧ (changed → s.log.clearBusy = false → ∃ q r,
          t.log.records.getLast? = some ⟨q, ⟨.config, r, 0, s.clock.now, [BitVec.ofNat 32 group]⟩⟩)

/-- What a changing completion does besides: S, N and a weight force a close with CONFIG under the old
value, which is filed, handed on and logged as a boundary close is, the CONFIG marker after its DATA record, and
S and N then empty the ring; K and SS clear the four residues with CONFIG and no close; the enable moves the
channel to WAITING or OFF with its energies kept. The link polarity and the reactive mode give CONFIG and close
nothing; a sync mode gives CONFIG and a new nominal end, and to EXTERNAL it closes a sub-interval that has
reached S + G with NOSYNC, and LONG where G is above 0; a grace closes it so without CONFIG. A weekday offset
finds the day type anew and a close second the close-date pointer; the other items leave the time alone. These
and the rest leave the sub-interval, the registers, the ring and the channels alone; and a write of the value
held does none of it. A forced close carries no NOSYNC, and a sync mode or a grace drops a boundary or an
expiry reached and not yet taken (assumption 2). The completion of a Write Limit, a close-date list, a lock
mode, a calibration lock or a pending write leaves the sub-interval, the registers, the ring, the channels and
the period alone, and changes no other item of the store. -/
def Obligations.StoreCompletionEffects : Prop :=
  (∀ (p : Port) (v : Setting) (s : State), s.sup.mainSupply = true → s.store.writing = some ⟨p, .setting v⟩ →
    ∃ t, exec .storeCompletion s = .next t ∧ t.per = s.per ∧ t.sup = s.sup ∧ t.pins = s.pins
      ∧ (v.apply s.config = s.config → t.tot = s.tot ∧ t.dem = s.dem ∧ t.chans = s.chans ∧ t.sub = s.sub)
      ∧ (v.apply s.config ≠ s.config →
        let closed := fun (cause : List StatusFlag) (emptied : Bool) (group : LogWord) =>
          ∃ r dem, s.ClosesInto t s.chans s.clock.now cause r t.tot dem
            ∧ t.dem = (if emptied then { dem with ring := [] } else dem)
            ∧ t.log = (s.closeLogged t s.log r).logged
                { kind := .config, rate := t.sub.rate, status := 0, stamp := s.clock.now, payload := [group] }
            ∧ ∀ d, t.chans.get d = { s.chans.get d with part := .all 0 }
        (∀ n, v = .subLen n → closed (.config :: s.lengthFlags s.sub.elapsed) true 2)
        ∧ (∀ n, v = .windowLen n → closed (.config :: s.lengthFlags s.sub.elapsed) true 5)
        ∧ (∀ c x, v = .channelWeight c x → closed (.config :: s.lengthFlags s.sub.elapsed) false 1)
        ∧ (∀ c, (∃ x, v = .channelK c x) ∨ (∃ x, v = .channelSS c x) →
            t.chans = s.chans.set c { s.chans.get c with residue := .all 0 }
              ∧ t.tot = s.tot ∧ t.dem = s.dem ∧ t.sub = { s.sub with status := t.sub.status }
              ∧ ∀ f, t.sub.status.has f = true ↔ s.sub.status.has f = true ∨ f = .config)
        ∧ (∀ c on, v = .channelEnable c on →
            t.chans = s.chans.set c { s.chans.get c with
                state := if on then .waiting else .off, expected := none, timer := 0 }
              ∧ t.tot = s.tot ∧ t.dem = s.dem
              ∧ ∀ f, t.sub.status.has f = true ↔ s.sub.status.has f = true ∨ f = .config)
        ∧ (let kept := t.tot = s.tot ∧ t.dem = s.dem ∧ t.chans = s.chans
          let marked := ∀ f, t.sub.status.has f = true ↔ s.sub.status.has f = true ∨ f = .config
          let late := fun (g : Nat) => StatusFlag.noSync :: (if 0 < g then [.long] else [])
          match v with
          | .subLen _ => True
          | .windowLen _ => True
          | .channelWeight _ _ => True
          | .channelK _ _ => True
          | .channelSS _ _ => True
          | .channelEnable _ _ => True
          | .weekdayOffset n => kept ∧ t.sub = s.sub
              ∧ t.clock = { s.clock with dayType := dayTypeOf s.store.active n s.clock.now.day }
          | .closeSecond n => kept ∧ t.sub = s.sub ∧ t.due = s.due ∧ t.clock = { s.clock with
              pointer := ({ s.store with config := { s.config with closeSecond := n } } : Store).pointerAfter s.clock.now }
          | .polarity _ => kept ∧ marked ∧ t.sub = { s.sub with status := t.sub.status } ∧ t.clock = s.clock
          | .reactive _ => kept ∧ marked ∧ t.sub = { s.sub with status := t.sub.status } ∧ t.clock = s.clock
          | .syncMode .internal => kept ∧ marked ∧ t.clock = s.clock
              ∧ t.sub = { s.sub with status := t.sub.status, nominalEnd := nominalEndOf t.config s.clock.now }
          | .syncMode .external =>
              (s.sub.elapsed < s.config.subLen + s.config.grace → kept ∧ marked
                ∧ t.sub = { s.sub with status := t.sub.status, nominalEnd := s.sub.start.later s.config.subLen })
              ∧ (s.config.subLen + s.config.grace ≤ s.sub.elapsed → closed (.config :: late s.config.grace) false 2)
          | .grace g =>
              (s.config.syncMode = .internal ∨ s.sub.elapsed < s.config.subLen + g →
                kept ∧ t.sub = s.sub ∧ t.clock = s.clock)
              ∧ (s.config.syncMode = .external → s.config.subLen + g ≤ s.sub.elapsed → closed (late g) false 2)
          | _ => kept ∧ t.sub = s.sub ∧ t.clock = s.clock)))
  ∧ ∀ (p : Port) (item : StoreItem) (s : State), s.sup.mainSupply = true → s.store.writing = some ⟨p, item⟩ →
    (∀ v, item ≠ .setting v) →
    ∃ t, exec .storeCompletion s = .next t ∧ t.tot = s.tot ∧ t.dem = s.dem ∧ t.chans = s.chans ∧ t.sub = s.sub
      ∧ t.per = s.per ∧ t.sup = s.sup ∧ t.pins = s.pins ∧ t.due = s.due
      ∧ t.clock = { s.clock with pointer := t.clock.pointer }
      ∧ match item with
        | .limit k l => t.clock = s.clock ∧ t.lim.projection = s.lim.projection
            ∧ t.store = { s.store with writing := none, config := { s.config with limits := s.config.limits.set k l } }
        | .closeDates l => t.lim = s.lim ∧ t.store = { s.store with writing := none, closeDates := l }
        | .lockMode _ => t.clock = s.clock ∧ t.lim = s.lim
            ∧ t.store = { s.store with writing := none, config := { s.config with lockMode := t.config.lockMode } }
        | .calibrationLock c => t.clock = s.clock ∧ t.lim = s.lim
            ∧ t.store = { s.store with writing := none, config := { s.config with
                channels := s.config.channels.set c { s.config.channels.get c with calLock := true } } }
        | _ => t.clock = s.clock ∧ t.lim = s.lim
            ∧ t.store = { s.store with writing := none, pendSched := t.store.pendSched }

/-- The store writes of the CONFIG class and Write Limit begin where their own checks pass, and are refused
BUSY, RANGE or LOCKED in the order of their rules where they do not. Write Config Item is stated number by
number: each item's range or clamp and each code of its values; every other number, a read-only item among
them, is refused RANGE. The codes of ON and OFF are assumption 8. -/
def Obligations.ConfigWritesStart : Prop :=
  (∀ (n : BitVec 16) (v : BitVec 32) (s : State), s.TakesConfig →
    (s.store.writing ≠ none →
      exec (.writeConfigItem .utility .whole n v) s = .next (s.finish .utility 0x50 .busy false false))
    ∧ (s.store.writing = none →
      let item := n.toNat
      let x := v.toNat
      let low := (v.extractLsb' 0 8).toInt
      let refused := fun (r : Result) =>
        exec (.writeConfigItem .utility .whole n v) s = .next (s.finish .utility 0x50 r false false)
      let stored := fun (y : Setting) =>
        exec (.writeConfigItem .utility .whole n v) s = .next ((s.storing .utility (.setting y)).finish .utility 0x50 .ok false false)
      let within := fun (inside : Prop) (y : Setting) => (inside → stored y) ∧ (¬ inside → refused .range)
      (item ∉ [0x0100, 0x0101, 0x0102, 0x0103, 0x0110, 0x0111, 0x0112, 0x0113, 0x0120, 0x0121, 0x0122, 0x0123, 0x0130,
          0x0131, 0x0132, 0x0133, 0x0140, 0x0141, 0x0200, 0x0201, 0x0202, 0x0203, 0x0204, 0x0400, 0x0401, 0x0402, 0x0500,
          0x0501, 0x0502, 0x0503, 0x0600, 0x0601, 0x0602, 0x0603, 0x0604, 0x0605, 0x0606, 0x0607, 0x0608, 0x0609, 0x060A,
          0x0700] → refused .range)
      ∧ (∀ c : Fin 4, item = 0x0100 + c.val →
          ((s.config.channels.get c).calLock = true → refused .locked)
            ∧ ((s.config.channels.get c).calLock = false → within (1 ≤ x ∧ x ≤ 65535) (.channelK c x)))
      ∧ (∀ c : Fin 4, item = 0x0110 + c.val →
          ((s.config.channels.get c).calLock = true → refused .locked)
            ∧ ((s.config.channels.get c).calLock = false → within (-6 ≤ low ∧ low ≤ 6) (.channelSS c low)))
      ∧ (∀ c : Fin 4, item = 0x0120 + c.val → match x with
          | 0 => stored (.channelEnable c false) | 1 => stored (.channelEnable c true) | _ => refused .range)
      ∧ (∀ c : Fin 4, item = 0x0130 + c.val → match x with
          | 0 => stored (.channelWeight c .add) | 1 => stored (.channelWeight c .subtract)
          | 2 => stored (.channelWeight c .omit) | _ => refused .range)
      ∧ (item = 0x0140 → match x with
          | 0 => stored (.polarity .activeHigh) | 1 => stored (.polarity .activeLow) | _ => refused .range)
      ∧ (item = 0x0141 → stored (.stallTimeout (if x = 0 then 1 else if 60 < x then 60 else x)))
      ∧ (item = 0x0200 → within ((x = 60 ∨ x = 120 ∨ x = 180 ∨ x = 300 ∨ x = 600 ∨ x = 900 ∨ x = 1800 ∨ x = 3600)
          ∧ s.config.windowLen * x ≤ 3600) (.subLen x))
      ∧ (item = 0x0201 → match x with
          | 0 => stored (.syncMode .internal) | 1 => stored (.syncMode .external) | _ => refused .range)
      ∧ (item = 0x0202 → stored (.grace (min x 60)))
      ∧ (item = 0x0203 → within (x ≤ 6) (.weekdayOffset x))
      ∧ (item = 0x0204 → within (x ≤ 86399) (.closeSecond x))
      ∧ (item = 0x0400 → match x with
          | 0 => stored (.reactive .lagOnly) | 1 => stored (.reactive .lagPlusLead)
          | 2 => stored (.reactive .lagMinusLead) | _ => refused .range)
      ∧ (item = 0x0401 → within (6 ≤ x ∧ x ≤ 12) (.digits x))
      ∧ (item = 0x0402 → match x with
          | 0 => stored (.registerMode .rollover) | 1 => stored (.registerMode .saturate) | _ => refused .range)
      ∧ (item = 0x0500 → within (1 ≤ x ∧ x ≤ 15 ∧ x * s.config.subLen ≤ 3600) (.windowLen x))
      ∧ (item = 0x0501 → match x with
          | 0 => stored (.excludeFlagged true) | 1 => stored (.excludeFlagged false) | _ => refused .range)
      ∧ (item = 0x0502 → stored (.pickupThreshold (min x 65535)))
      ∧ (item = 0x0503 → stored (.pickupLength (min x 63)))
      ∧ (item = 0x0600 → match x with | 0 => stored (.basis .kw) | 1 => stored (.basis .kva) | _ => refused .range)
      ∧ (item = 0x0601 → within (x ≤ 63) (.billable (BitVec.ofNat 6 x)))
      ∧ (item = 0x0602 → stored (.ratchetPct (min x 100)))
      ∧ (item = 0x0603 → stored (.lookback (min x 12)))
      ∧ (item = 0x0604 → stored (.contractMin x))
      ∧ (item = 0x0605 → match x with
          | 0 => stored (.excessOn true) | 1 => stored (.excessOn false) | _ => refused .range)
      ∧ (item = 0x0606 → within (x ≤ 262143) (.ratio x))
      ∧ (item = 0x0607 → match x with
          | 0 => stored (.pfAdjustOn true) | 1 => stored (.pfAdjustOn false) | _ => refused .range)
      ∧ (item = 0x0608 → stored (.pfRef (if x < 5000 then 5000 else if 10000 < x then 10000 else x)))
      ∧ (item = 0x0609 → stored (.pfFloor (if x < 1000 then 1000 else if 10000 < x then 10000 else x)))
      ∧ (item = 0x060A → stored (.lockoutLen (min x 86400)))
      ∧ (item = 0x0700 → within (x ≤ 15) (.logMask (BitVec.ofNat 4 x)))))
  ∧ (∀ (m : Byte) (s : State), s.TakesConfig →
    exec (.setLockMode .utility .whole m) s = .next (
      if s.store.writing ≠ none then s.finish .utility 0x54 .busy false false
      else match m.toNat with
        | 0 => (s.storing .utility (.lockMode .opened)).finish .utility 0x54 .ok false false
        | 1 => (s.storing .utility (.lockMode .guarded)).finish .utility 0x54 .ok false false
        | 2 => (s.storing .utility (.lockMode .powerLocked)).finish .utility 0x54 .ok false false
        | 3 => (s.storing .utility (.lockMode .permanent)).finish .utility 0x54 .ok false false
        | _ => s.finish .utility 0x54 .range false false))
  ∧ (∀ (b : Byte) (s : State), s.TakesConfig →
    (3 < b.toNat → exec (.lockCalibration .utility .whole b) s = .next (s.finish .utility 0x55 .range false false))
    ∧ ∀ c : Fin 4, b.toNat = c.val → exec (.lockCalibration .utility .whole b) s = .next (
        if (s.config.channels.get c).calLock then s.finish .utility 0x55 .locked false false
        else if s.store.writing ≠ none then s.finish .utility 0x55 .busy false false
        else (s.storing .utility (.calibrationLock c)).finish .utility 0x55 .ok false false))
  ∧ (∀ (a : LimitArgs) (s : State), s.TakesOperation .customer →
    (s.store.writing ≠ none → exec (.writeLimit .customer .whole a) s = .next (s.finish .customer 0x49 .busy false false))
    ∧ (s.store.writing = none →
      ((3 < a.comparator.toNat ∨ 1 < a.enable.toNat ∨ 1 < a.quantity.toNat ∨ 3 < a.shed.toNat) →
        exec (.writeLimit .customer .whole a) s = .next (s.finish .customer 0x49 .range false false))
      ∧ ∀ k j : Fin 4, a.comparator.toNat = k.val → a.enable.toNat ≤ 1 → a.quantity.toNat ≤ 1 → a.shed.toNat = j.val →
        exec (.writeLimit .customer .whole a) s = .next ((s.storing .customer (.limit k
          { enabled := a.enable.toNat = 1, quantity := if a.quantity.toNat = 0 then .kw else .kva,
            threshold := a.threshold.toNat, hysteresis := min a.hysteresis.toNat a.threshold.toNat,
            minHold := min a.minHold.toNat 3600, shed := j })).finish .customer 0x49 .ok false false)))

/-- Close-date events: a freeze with cause DATE in IDLE with no lockout below the last period number;
nothing at the last number; otherwise the deferred close is set, keeping a first cause, and
CLOSE_DEFERRED is raised. The lockout expiry carries out a set deferred close in IDLE with its cause,
clears it without a freeze at the last period number, and leaves it set while a close is in flight. Each
row takes what a second event has left due (assumption 2). It takes it at the present instant, also where the
clock has been moved since (assumption 2). -/
def Obligations.DateRequestsAndTheLockout : Prop :=
  (
    ∀ s : State, s.sup.mainSupply = true → s.due.dates ≠ 0 →
      ∃ t, exec .closeDateEvent s = .next t ∧ t.due = { s.due with dates := s.due.dates - 1 }
        ∧ (s.per.close = .idle ∧ s.per.lockout = 0 ∧ s.per.number ≠ 0xFFFFFFFF →
            s.FrozenInto t .date ∧ t.per.deferred = s.per.deferred)
        ∧ (s.per.close = .idle ∧ s.per.lockout = 0 ∧ s.per.number = 0xFFFFFFFF → t = s.setDue t.due)
        ∧ (s.per.close ≠ .idle ∨ s.per.lockout ≠ 0 →
            t.per = { s.per with deferred := some (s.per.deferred.getD .date) }
              ∧ s.RaisedOnly t (fun f => f = .closeDeferred)
              ∧ t.log = s.log ∧ t.tot = s.tot ∧ t.dem = s.dem ∧ t.clock = s.clock ∧ t.sub = s.sub))
  ∧ (
    ∀ s : State, s.sup.mainSupply = true → s.due.lockout = true → s.per.lockout = 1 →
      ∃ t, exec .lockoutExpiry s = .next t ∧ t.due = { s.due with lockout := false }
        ∧ (s.per.close ≠ .idle ∨ s.per.deferred = none →
            t = (s.setDue t.due).setPer { s.per with lockout := 0 })
        ∧ (∀ cause, s.per.close = .idle → s.per.deferred = some cause →
            (s.per.number = 0xFFFFFFFF → t = (s.setDue t.due).setPer { s.per with lockout := 0, deferred := none })
            ∧ (s.per.number ≠ 0xFFFFFFFF → s.FrozenInto t cause ∧ t.per.deferred = none)))

/-! ## Demand and billing arithmetic (chapters 4 and 5) -/

/-- The apparent demand is the root of Dp² + Dq² rounded half up and capped, so it is never below either
demand and equals one when the other is 0; the power factor is 10000 Dp / Dva rounded half up, 10000
where Dva is 0, and never above 10000. -/
def Obligations.ApparentDemandAndPowerFactor : Prop :=
  ∀ dp dq : Nat, dp ≤ 4294967295 → dq ≤ 4294967295 →
    dp * dp + dq * dq < 2 ^ 65
    ∧ (∃ f, f * f ≤ dp * dp + dq * dq ∧ dp * dp + dq * dq < (f + 1) * (f + 1)
      ∧ apparentOf dp dq = min 4294967295 (if f < dp * dp + dq * dq - f * f then f + 1 else f))
    ∧ dp ≤ apparentOf dp dq ∧ dq ≤ apparentOf dp dq
    ∧ (dq = 0 → apparentOf dp dq = dp) ∧ (dp = 0 → apparentOf dp dq = dq)
    ∧ (apparentOf dp dq = 0 → windowPF dp (apparentOf dp dq) = 10000)
    ∧ (0 < apparentOf dp dq →
        windowPF dp (apparentOf dp dq) = (20000 * dp + apparentOf dp dq) / (2 * apparentOf dp dq))
    ∧ windowPF dp (apparentOf dp dq) ≤ 10000

/-- PF_avg is the largest k in 0 to 10000 with k = 0 or (2k − 1)² M ≤ 400,000,000 Ep(A)², and the three
cases of R91 follow; it is recorded whether or not the adjustment is enabled. -/
def Obligations.AveragePowerFactor : Prop :=
  ∀ x : Snapshot,
    let ep := (x.energy.rA.pp).toNat / 1000
    let eq := (x.energy.rA.eq).toNat / 1000
    let k := x.record.pfAvg
    k ≤ 10000 ∧ (k = 0 ∨ (2 * k - 1) * (2 * k - 1) * (ep * ep + eq * eq) ≤ 400000000 * (ep * ep))
      ∧ (∀ j, k < j → j ≤ 10000 → 400000000 * (ep * ep) < (2 * j - 1) * (2 * j - 1) * (ep * ep + eq * eq))
      ∧ (ep = 0 → eq = 0 → k = 10000) ∧ (ep = 0 → 0 < eq → k = 0) ∧ (0 < ep → eq = 0 → k = 10000)

/-- The excess reactive energy of each rate, with floor(Ep(r) R / 65536) allowed when the enable is ON, and
0 when it is OFF; X(A) is the sum of the six; each present rate's block carries its own. -/
def Obligations.ExcessReactiveEnergy : Prop :=
  ∀ x : Snapshot,
    (∀ r : Rate, x.excess r = (if x.settings.excessOn then
        ((x.energy.get (.one r)).eq).toNat / 1000 - ((x.energy.get (.one r)).pp).toNat / 1000 * x.settings.ratio / 65536
      else 0))
    ∧ (∀ r : Rate, x.settings.excessOn = true →
        (x.settings.ratio = 0 ∨ ((x.energy.get (.one r)).pp).toNat < 1000) →
        x.excess r = ((x.energy.get (.one r)).eq).toNat / 1000)
    ∧ x.record.blockA.excess = x.excess .r1 + x.excess .r2 + x.excess .r3 + x.excess .r4 + x.excess .r5 + x.excess .r6
    ∧ x.record.blockA.excess ≤ (([.r1, .r2, .r3, .r4, .r5, .r6] : List Rate).map (fun r =>
        ((x.energy.get (.one r)).eq).toNat / 1000)).sum
    ∧ (∀ r : Rate, x.ratePresent.has r = true → ∃ b ∈ x.record.blocks, b.rate = .one r ∧ b.excess = x.excess r)
    ∧ (∀ b ∈ x.record.blocks, ∃ r, b.rate = .one r ∧ x.ratePresent.has r = true)
    ∧ (x.record.blocks.map (fun b => b.rate.code)).Pairwise (· < ·)

/-- The base demand is the largest value present among the kW or kVA records of the billable rates, or of
rate A for an empty set, and 0 with NO_DEMAND when all of them are empty, U then being the greater of the
ratchet floor and the contract minimum. -/
def Obligations.BaseDemand : Prop :=
  ∀ x : Snapshot,
    let considered : RateSet → Prop := fun r =>
      if x.settings.billable = 0 then r = .all else ∃ q, r = .one q ∧ x.settings.billable.has q = true
    let held : RateSet → Option MaxRecord := fun r =>
      if x.settings.basis = .kw then (x.maxima.get r).kw else (x.maxima.get r).kva
    (∀ r, considered r → ∀ m ∈ held r, m.value ≤ x.record.base)
      ∧ ((∃ r, considered r ∧ (held r).isSome = true) →
          (∃ r, considered r ∧ ∃ m ∈ held r, m.value = x.record.base) ∧ x.record.flags.noDemand = false)
      ∧ ((∀ r, considered r → held r = none) → x.record.base = 0 ∧ x.record.flags.noDemand = true
          ∧ x.record.unadjusted = max x.record.floor x.settings.contractMin)

/-- The ratchet floor is the share of the largest ratchet basis, rounded half up; U is the greatest of the
base, the floor and the contract minimum; RATCHET_APPLIED and MIN_APPLIED follow the table of R98 and
are never set together. -/
def Obligations.RatchetFloorAndUnadjusted : Prop :=
  ∀ (x : Snapshot) (b : Nat), (∀ v ∈ x.ratchet, v ≤ b) → (x.ratchet = [] → b = 0) → (x.ratchet ≠ [] → b ∈ x.ratchet) →
    x.record.floor = (2 * b * x.settings.ratchetPct + 100) / 200
    ∧ (x.settings.ratchetPct = 100 → x.record.floor = b) ∧ (x.settings.ratchetPct = 0 → x.record.floor = 0)
    ∧ (x.settings.ratchetPct ≤ 100 → x.record.floor ≤ b)
    ∧ x.record.base ≤ x.record.unadjusted ∧ x.record.floor ≤ x.record.unadjusted
    ∧ x.settings.contractMin ≤ x.record.unadjusted
    ∧ (x.record.unadjusted = x.record.base ∨ x.record.unadjusted = x.record.floor
        ∨ x.record.unadjusted = x.settings.contractMin)
    ∧ (x.record.floor ≤ x.record.base ∧ x.settings.contractMin ≤ x.record.base →
        x.record.flags.ratchetApplied = false ∧ x.record.flags.minApplied = false)
    ∧ (x.record.base < x.record.floor ∧ x.settings.contractMin ≤ x.record.floor →
        x.record.flags.ratchetApplied = true ∧ x.record.flags.minApplied = false)
    ∧ (x.record.base < x.settings.contractMin ∧ x.record.floor < x.settings.contractMin →
        x.record.flags.ratchetApplied = false ∧ x.record.flags.minApplied = true)

/-- PF_used lies between PF_floor and PF_ref; with the adjustment ON and a kW basis the adjusted demand is
U PF_ref / PF_used rounded half up and capped, with CLAMPED and PF_ADJUSTED as R100 sets them; otherwise
it is U with neither flag; and it is never below U. -/
def Obligations.PowerFactorAdjustment : Prop :=
  ∀ x : Snapshot, x.settings.InRange → x.record.unadjusted ≤ 4294967295 →
    let used := x.record.pfUsed
    let u := x.record.unadjusted
    let raw := (2 * u * x.settings.pfRef + used) / (2 * used)
    used = max (min x.settings.pfFloor x.settings.pfRef) (min x.record.pfAvg x.settings.pfRef)
      ∧ 1000 ≤ used ∧ used ≤ x.settings.pfRef
      ∧ (x.settings.pfAdjustOn = true ∧ x.settings.basis = .kw →
          x.record.adjusted = min 4294967295 raw
            ∧ (x.record.flags.clamped = true ↔ 4294967295 < raw)
            ∧ (x.record.flags.pfAdjusted = true ↔ u < x.record.adjusted)
            ∧ (used = x.settings.pfRef → x.record.adjusted = u))
      ∧ (x.settings.pfAdjustOn = false ∨ x.settings.basis = .kva →
          x.record.adjusted = u ∧ x.record.flags.clamped = false ∧ x.record.flags.pfAdjusted = false)
      ∧ u ≤ x.record.adjusted ∧ x.record.adjusted ≤ 4294967295
      ∧ min 4294967295 (max x.settings.contractMin x.record.floor) ≤ u

/-! ## Period Unit (chapter 6) -/

/-- Billing Close against the Period Unit in its order: BUSY in a close, LOCKOUT under a lockout, RANGE at
the last period number, and otherwise a freeze with cause COMMAND; a refusal changes nothing of the
Period Unit and sets no deferred close. It is refused DENIED on the Customer Port, and HOLD in Hold. -/
def Obligations.BillingCloseFreezes : Prop :=
  (∀ s : State, s.Selected .customer →
    exec (.billingClose .customer .whole) s = .next (s.finish .customer 0x40 .denied false false))
  ∧ (∀ s : State, s.Selected .utility → s.sup.hold = true →
    exec (.billingClose .utility .whole) s = .next (s.finish .utility 0x40 .hold false false))
  ∧ ∀ s : State, s.TakesOperation .utility →
    (s.per.close ≠ .idle → exec (.billingClose .utility .whole) s = .next (s.finish .utility 0x40 .busy false false))
    ∧ (s.per.close = .idle → s.per.lockout ≠ 0 →
        exec (.billingClose .utility .whole) s = .next (s.finish .utility 0x40 .lockout false false))
    ∧ (s.per.close = .idle → s.per.lockout = 0 → s.per.number = 0xFFFFFFFF →
        exec (.billingClose .utility .whole) s = .next (s.finish .utility 0x40 .range false false))
    ∧ (s.per.close = .idle → s.per.lockout = 0 → s.per.number ≠ 0xFFFFFFFF →
        ∃ t, exec (.billingClose .utility .whole) s = .next t ∧ s.FrozenInto t .command
          ∧ t.per.deferred = s.per.deferred ∧ t.due = s.due
          ∧ t.util.lastResult = .ok ∧ t.util.lastCommand = 0x40 ∧ t.util.latch = false ∧ t.util.tx = .idle)

/-- The completion of a close, in CLOSING or RESUMING: the record of the snapshot joins the newest end of
the history, the oldest leaving from 13; CLOSE_DONE is raised; the state becomes IDLE; and a deferred
close is carried out at once when no lockout runs, or cleared at the last period number. -/
def Obligations.CloseCompletionFilesTheRecord : Prop :=
  ∀ (x : Snapshot) (s s1 : State), s.sup.mainSupply = true → (s.per.close = .closing x ∨ s.per.close = .resuming x) →
    s1 = s.setPer { s.per with
      close := .idle
      history := (if 13 ≤ s.per.history.length then s.per.history.drop 1 else s.per.history) ++ [x.record] } →
    ∃ t, exec .closeCompletion s = .next t
      ∧ (∀ p, (t.port p).attn.has .closeDone = true)
      ∧ t.per.history = s1.per.history
      ∧ (s.per.lockout ≠ 0 ∨ s.per.deferred = none → t.per = s1.per ∧ s.RaisedOnly t (fun f => f = .closeDone)
          ∧ t.log = s.log ∧ t.tot = s.tot ∧ t.dem = s.dem)
      ∧ (∀ cause, s.per.lockout = 0 → s.per.deferred = some cause →
          (s.per.number = 0xFFFFFFFF → t.per = { s1.per with deferred := none } ∧ t.log = s.log ∧ t.tot = s.tot)
          ∧ (s.per.number ≠ 0xFFFFFFFF → s1.FrozenInto t cause ∧ t.per.deferred = none))
      ∧ x.record.number = x.number ∧ x.record.start = x.start ∧ x.record.stop = x.stop ∧ x.record.cause = x.cause
      ∧ x.record.partialMark = x.partialMark ∧ x.record.ratePresent = x.ratePresent

/-- A button press freezes with cause BUTTON only with GUARD asserted, outside Hold, in IDLE, without a
lockout and below the last period number; every other press leaves no trace but the level, a button
held down is no press, and the release makes the next assertion a new press. -/
def Obligations.ButtonPressFreezes : Prop :=
  ∀ s : State, s.sup.mainSupply = true →
    (s.pins.close = true → exec .buttonPress s = .next s)
    ∧ (s.pins.close = false →
      (s.pins.guard = true ∧ s.sup.hold = false ∧ s.per.close = .idle ∧ s.per.lockout = 0
          ∧ s.per.number ≠ 0xFFFFFFFF →
        ∃ t, exec .buttonPress s = .next t ∧ s.FrozenInto t .button ∧ t.per.deferred = s.per.deferred
          ∧ t.pins = { s.pins with close := true })
      ∧ (s.pins.guard = false ∨ s.sup.hold = true ∨ s.per.close ≠ .idle ∨ s.per.lockout ≠ 0
          ∨ s.per.number = 0xFFFFFFFF →
        exec .buttonPress s = .next (s.setPins { s.pins with close := true })))
    ∧ exec .buttonRelease s = .next (s.setPins { s.pins with close := false })

/-- A Preview: refused HOLD, then BUSY in a close or while one runs on that port; otherwise the live input
set is copied and nothing is cleared. Its completion replaces that port's Preview Record with the record
of its own copy, cause PREVIEW, and raises PREVIEW_READY in that port's unit alone. -/
def Obligations.PreviewRunsOnItsCopy : Prop :=
  ∀ (p : Port) (s : State),
    (s.Selected p →
      (s.sup.hold = true → exec (.requestPreview p) s = .next (s.answered p 0x21 .hold [] .none))
      ∧ (s.sup.hold = false → s.per.close ≠ .idle ∨ (s.port p).preview ≠ none →
          exec (.requestPreview p) s = .next (s.answered p 0x21 .busy [] .none))
      ∧ (s.sup.hold = false → s.per.close = .idle → (s.port p).preview = none →
          exec (.requestPreview p) s = .next ((s.answered p 0x21 .ok (beBytes 4 s.per.number.toNat) .none).setPort p
            { (s.answered p 0x21 .ok (beBytes 4 s.per.number.toNat) .none).port p with
              preview := some
                { energy := s.tot.period, maxima := s.dem.maxima, ratePresent := s.tot.present,
                  ratchet := (s.per.history.reverse.take s.config.bill.lookback).map PeriodRecord.unadjusted,
                  settings := s.config.bill, number := s.per.number, start := s.per.start, stop := s.clock.now,
                  cause := .preview, partialMark := s.per.partialMark } })))
    ∧ (∀ x, s.sup.mainSupply = true → (s.port p).preview = some x →
        ∃ t, exec (.previewCompletion p) s = .next t
          ∧ t.port p = { s.port p with preview := none, previewRec := some x.record, attn := (t.port p).attn }
          ∧ (t.port p).attn.mask = (s.port p).attn.mask ∧ (t.port p).attn.enable = (s.port p).attn.enable
          ∧ (∀ q f, (t.port q).attn.has f = true ↔ (s.port q).attn.has f = true ∨ (f = .previewReady ∧ q = p))
          ∧ (∀ q, q ≠ p → t.port q = s.port q)
          ∧ t = { s with util := t.util, cust := t.cust })

/-- Clear History empties the history alone, refused BUSY in a close; Clear Profile enters CLEAR_BUSY with
the carries 0 and the slot empty, refused BUSY in a clear; its completion removes every record, writes
the CLEARED marker and then the held record, places both cursors on the marker and raises nothing; a
cursor placement taken before the completion is not made. -/
def Obligations.ClearsEmptyTheirRecord : Prop :=
  (∀ s : State, s.TakesConfig →
    (s.per.close ≠ .idle → exec (.clearHistory .utility .whole) s = .next (s.finish .utility 0x53 .busy false false))
    ∧ (s.per.close = .idle → exec (.clearHistory .utility .whole) s = .next
        ((s.setPer { s.per with history := [] }).finish .utility 0x53 .ok false false))
    ∧ (s.log.clearBusy = true → exec (.clearProfile .utility .whole) s = .next (s.finish .utility 0x52 .busy false false))
    ∧ (s.log.clearBusy = false → exec (.clearProfile .utility .whole) s = .next
        ((s.setLog { s.log with clearBusy := true, slot := none, carries := ⟨.all 0, .all (.all 0)⟩ }).finish
          .utility 0x52 .ok false false)))
  ∧ ∀ s : State, s.sup.mainSupply = true → s.log.Safe → s.log.clearBusy = true →
    ∃ t, exec .clearProfileCompletion s = .next t
      ∧ t.log.clearBusy = false ∧ t.log.slot = none ∧ t.log.carries = s.log.carries
      ∧ (let marker : LogRecord := ⟨s.log.nextSeq, ⟨.cleared, s.sub.rate, 0, s.clock.now, []⟩⟩
        match s.log.slot with
        | none => t.log.records = [marker] ∧ t.log.nextSeq = s.log.nextSeq + 1
        | some b => t.log.records = [marker, ⟨s.log.nextSeq + 1, b⟩] ∧ t.log.nextSeq = s.log.nextSeq + 2)
      ∧ (∀ p, t.port p = { s.port p with
          cursor := ⟨s.log.nextSeq, .atRecord, .forward, none⟩
          tx := match (s.port p).tx with
            | .replying cmd reply (.place _ _) => .replying cmd reply .none
            | .replying cmd reply (.advance _) => .replying cmd reply .none
            | tx => tx })
      ∧ t = { s with log := t.log, util := t.util, cust := t.cust }

/-! ## Profile Log reading (chapter 7) -/

/-- Read Profile in a log that is not empty. From an AT_RECORD cursor in its window, or out of OVERRUN from the
oldest record of the window FORWARD and the newest BACKWARD, it returns at most n records in the cursor's
direction, up to the window's edge, and the status: GAP out of OVERRUN, OK for n records, AT_END where
the newest ends a FORWARD read, and AT_EDGE otherwise. At the rise of select the cursor stands as after the
last record whose bytes were all clocked out, and as before without one. From AT_END, from AT_EDGE, and from
OVERRUN with no record in the window, it returns no record and leaves the cursor. A record is sent as the
words of R192, each most significant byte first: kind, length, mask or type, rate and status in the first,
then its sequence, day number, second of day and payload. A window of a low and a high sequence holds the
sequences from the one up to the other, through 0 where it wraps. -/
def Obligations.ReadProfileWalksTheLog : Prop :=
  (
    ∀ r : LogRecord, r.body.payload.length ≤ 20 →
      let kind := match r.body.kind with
        | .data _ => 1
        | _ => 2
      let type := match r.body.kind with
        | .data mask => mask.toNat
        | .close => 1
        | .timeSet => 2
        | .outage => 3
        | .schedule => 4
        | .config => 5
        | .restart => 6
        | .cleared => 7
      r.body.words = 4 + r.body.payload.length
        ∧ logRecordBytes r =
            beBytes 4 (kind * 2 ^ 28 + (4 + r.body.payload.length) * 2 ^ 23 + type * 2 ^ 19
                + r.body.rate.number * 2 ^ 16 + r.body.status.toNat)
              ++ beBytes 4 r.sequence.toNat ++ beBytes 4 r.body.stamp.day ++ beBytes 4 r.body.stamp.sec
              ++ r.body.payload.flatMap (fun w => beBytes 4 w.toNat))
  ∧ (
    ∀ (w : Option (Seq × Seq)) (q : Seq), inWindow w q = true ↔ match w with
      | none => True
      | some x => (x.1.toNat ≤ x.2.toNat ∧ x.1.toNat ≤ q.toNat ∧ q.toNat ≤ x.2.toNat)
          ∨ (x.2.toNat < x.1.toNat ∧ (x.1.toNat ≤ q.toNat ∨ q.toNat ≤ x.2.toNat)))
  ∧ (
    ∀ (p : Port) (n : Byte) (i : Nat) (s : State), s.TakesPort p → s.log.Safe → s.log.clearBusy = false →
      (hi : i < s.log.records.length) →
      inWindow (s.port p).cursor.window s.log.records[i].sequence = true →
      ((s.port p).cursor.state = .atRecord ∧ (s.port p).cursor.position = s.log.records[i].sequence
        ∨ (s.port p).cursor.state = .overrun ∧ (s.port p).cursor.dir = .forward
            ∧ (∀ r ∈ s.log.records.take i, inWindow (s.port p).cursor.window r.sequence = false)
        ∨ (s.port p).cursor.state = .overrun ∧ (s.port p).cursor.dir = .backward
            ∧ ∀ r ∈ s.log.records.drop (i + 1), inWindow (s.port p).cursor.window r.sequence = false) →
      let c := (s.port p).cursor
      let m := max 1 (min 16 n.toNat)
      let span := if c.dir = .forward then s.log.records.drop i else (s.log.records.take (i + 1)).reverse
      let edge := if c.dir = .forward then c.window.map Prod.snd else c.window.map Prod.fst
      let taken := (upTo edge span).take m
      ∃ t e, exec (.readProfile p n) s = .next t
        ∧ t = s.answered p 0x1B .ok (1 :: ((taken.map logRecordBytes).flatten
            ++ [if c.state = .overrun then 3 else if taken.length = m then 0
                else if c.dir = .forward ∧ taken.getLast?.map LogRecord.sequence ≠ edge then 1 else 2])) e
        ∧ (∀ bytes k d f j, j ≤ taken.length →
            (j = 0 ∨ 3 + 4 * ((taken.take j).map (fun r => r.body.words)).sum ≤ bytes.length) →
            (j < taken.length → bytes.length < 3 + 4 * ((taken.take (j + 1)).map (fun r => r.body.words)).sum) →
            ∃ u, exec (.selectRise p bytes k d f) t = .next u
              ∧ (u.port p).cursor = (match (taken.take j).getLast? with
                | some r => s.log.after c r
                | none => c)
              ∧ (u.port p).tx = .idle ∧ (u.port p).attn = (t.port p).attn ∧ u.log = s.log))
  ∧ (
    ∀ (p : Port) (n status : Byte) (s : State), s.TakesPort p → s.log.clearBusy = false → s.log.records ≠ [] →
      ((s.port p).cursor.state = .atEnd ∧ status = 1 ∨ (s.port p).cursor.state = .atEdge ∧ status = 2
        ∨ (s.port p).cursor.state = .overrun ∧ status = 3
            ∧ ∀ r ∈ s.log.records, inWindow (s.port p).cursor.window r.sequence = false) →
      ∃ t e, exec (.readProfile p n) s = .next t ∧ t = s.answered p 0x1B .ok [1, status] e
        ∧ ∀ bytes k d f, ∃ u, exec (.selectRise p bytes k d f) t = .next u ∧ (u.port p).cursor = (s.port p).cursor
            ∧ (u.port p).tx = .idle ∧ (u.port p).attn = (t.port p).attn ∧ u.log = s.log)

/-- Set Profile Cursor and Set Profile Window answer RANGE for an unknown code or a sequence outside the
window, and BUSY in a clear. Set Profile Cursor places the cursor on the oldest or the newest record of
the window, on the held record named, or on the nearest record of the window where it is not held; Set
Profile Window on the oldest FORWARD and the newest BACKWARD; with no record in the window, AT_END at the
next sequence or AT_EDGE. The placement is made at the rise of select once tag and result were clocked
out, and the refusals come in the order of assumption 10. It is checked against the log as it stands there:
one taken as AT_END whose record has been written and removed meanwhile raises LOG_OVERRUN (assumption 12). -/
def Obligations.CursorCommandsPlace : Prop :=
  (
    ∀ (p : Port) (s : State), s.TakesPort p →
      (∀ (d tg : Byte) (q : Seq), (1 < d.toNat ∨ 2 < tg.toNat
          ∨ (tg.toNat = 2 ∧ inWindow (s.port p).cursor.window q = false)) →
        exec (.setProfileCursor p d tg q) s = .next (s.answered p 0x1F .range [] .none))
      ∧ (∀ (k : Byte) (a b : Seq), 1 < k.toNat →
        exec (.setProfileWindow p k a b) s = .next (s.answered p 0x20 .range [] .none))
      ∧ (s.log.clearBusy = true →
        (∀ (d tg : Byte) (q : Seq), d.toNat ≤ 1 →
            (tg.toNat ≤ 1 ∨ tg.toNat = 2 ∧ inWindow (s.port p).cursor.window q = true) →
          exec (.setProfileCursor p d tg q) s = .next (s.answered p 0x1F .busy [] .none))
        ∧ ∀ (k : Byte) (a b : Seq), k.toNat ≤ 1 →
          exec (.setProfileWindow p k a b) s = .next (s.answered p 0x20 .busy [] .none)))
  ∧ (
    ∀ (p : Port) (d tg : Byte) (dir : Direction) (q : Seq) (s : State), s.TakesPort p → s.log.clearBusy = false →
      d.toNat = dir.code → (tg.toNat ≤ 1 ∨ tg.toNat = 2 ∧ inWindow (s.port p).cursor.window q = true) →
      let w := (s.port p).cursor.window
      ∃ t c, exec (.setProfileCursor p d tg q) s = .next t
        ∧ t = s.answered p 0x1F .ok (beBytes 4 c.position.toNat ++ [BitVec.ofNat 8 c.state.code]) (.place 2 c)
        ∧ ((∀ r ∈ s.log.records, inWindow w r.sequence = false) →
            c = s.log.nowhere { (s.port p).cursor with dir := dir })
        ∧ (∀ i, (hi : i < s.log.records.length) → inWindow w s.log.records[i].sequence = true →
            let placed : Prop := c = ⟨s.log.records[i].sequence, .atRecord, dir, w⟩
            let first : Prop := ∀ r ∈ s.log.records.take i, inWindow w r.sequence = false
            let last : Prop := ∀ r ∈ s.log.records.drop (i + 1), inWindow w r.sequence = false
            let before : Prop := ∃ r, s.log.records.head? = some r ∧ 2 ^ 31 ≤ (q - r.sequence).toNat
            (tg.toNat = 0 → first → placed) ∧ (tg.toNat = 1 → last → placed)
              ∧ (tg.toNat = 2 → q = s.log.records[i].sequence → placed)
              ∧ (tg.toNat = 2 → (∀ r ∈ s.log.records, r.sequence ≠ q) →
                  (before → first → placed) ∧ (¬ before → last → placed)))
        ∧ ∀ bytes k x f, ∃ u, exec (.selectRise p bytes k x f) t = .next u ∧ (u.port p).tx = .idle
            ∧ (u.port p).cursor = (if 2 ≤ bytes.length then c else (s.port p).cursor)
            ∧ (u.port p).attn = (t.port p).attn)
  ∧ (
    ∀ (p : Port) (k : Byte) (low high : Seq) (s : State), s.TakesPort p → s.log.clearBusy = false → k.toNat ≤ 1 →
      let w := if k.toNat = 0 then none else some (low, high)
      let dir := (s.port p).cursor.dir
      ∃ t c, exec (.setProfileWindow p k low high) s = .next t ∧ t = s.answered p 0x20 .ok [] (.place 2 c)
        ∧ ((∀ r ∈ s.log.records, inWindow w r.sequence = false) →
            c = s.log.nowhere { (s.port p).cursor with window := w })
        ∧ (∀ i, (hi : i < s.log.records.length) → inWindow w s.log.records[i].sequence = true →
            (dir = .forward → (∀ r ∈ s.log.records.take i, inWindow w r.sequence = false) →
              c = ⟨s.log.records[i].sequence, .atRecord, dir, w⟩)
            ∧ (dir = .backward → (∀ r ∈ s.log.records.drop (i + 1), inWindow w r.sequence = false) →
              c = ⟨s.log.records[i].sequence, .atRecord, dir, w⟩))
        ∧ ∀ bytes n x f, ∃ u, exec (.selectRise p bytes n x f) t = .next u ∧ (u.port p).tx = .idle
            ∧ (u.port p).cursor = (if 2 ≤ bytes.length then c else (s.port p).cursor)
            ∧ (u.port p).attn = (t.port p).attn)
  ∧ (
    ∀ (p : Port) (code : Byte) (reply : List Byte) (n : Nat) (c : Cursor) (bytes : List Byte) (k : Nat) (x f : Bool)
      (s : State), s.sup.mainSupply = true → (s.port p).tx = .replying code reply (.place n c) → n ≤ bytes.length →
      ∃ u, exec (.selectRise p bytes k x f) s = .next u ∧ (u.port p).tx = .idle
        ∧ ((c.state = .atRecord ∧ heldIn s.log.records c.position = true
              ∨ c.state = .atEnd ∧ c.position = s.log.nextSeq ∨ c.state = .atEdge) →
            (u.port p).cursor = c ∧ (u.port p).attn = (s.port p).attn)
        ∧ (c.state = .atEnd ∧ c.position ≠ s.log.nextSeq ∧ heldIn s.log.records c.position = true →
            (u.port p).cursor = { c with state := .atRecord } ∧ (u.port p).attn = (s.port p).attn)
        ∧ ((c.state = .atRecord ∨ c.state = .atEnd ∧ c.position ≠ s.log.nextSeq)
              ∧ heldIn s.log.records c.position = false →
            (u.port p).cursor = { c with state := .overrun } ∧ (u.port p).attn.has .logOverrun = true))

/-! ## Limit Monitor (chapter 8) -/

/-- The projection at a second event outside Hold: PROJECTED from the newest N − 1 ring entries and the
open totals scaled by S / e when the fill is at least N − 1 and e at least 30, held from the last window
as HELD_EARLY or HELD_FILL otherwise, 0 where there is none; in Hold only the source changes, to HOLD.
At an evaluating second event the timer of ALERT and RELEASING counts down, then each enabled comparator
takes one transition of the table; the SHED outputs follow the enabled comparators in ALERT or RELEASING;
LIMIT_ALERT and LIMIT_RELEASE are raised for CLEAR to ALERT and RELEASING to CLEAR, and no other flag.
Where the second reaches the end of the sub-interval and the close is taken first (R150), the projection
holds the window just formed with elapsed 0, and the comparators are evaluated with it. -/
def Obligations.SecondEventProjectsAndCompares : Prop :=
  (
    ∀ s : State, s.sup.mainSupply = true → s.NothingWaits →
      ∃ t, exec (.secondEvent false) s = .next t
        ∧ (s.sup.hold = true → t.lim = { s.lim with projection := { s.lim.projection with source := .hold } })
        ∧ (s.sup.hold = false → t.lim.projection.elapsed = s.sub.elapsed + 1
          ∧ (s.config.windowLen - 1 ≤ s.dem.ring.length ∧ 30 ≤ s.sub.elapsed + 1 →
              t.lim.projection.source = .projected
                ∧ (∃ ring, ring.length = s.config.windowLen - 1 ∧ ring <:+ s.dem.ring
                  ∧ t.lim.projection.dp = demandOf ((ring.map (fun x => x.ep.toNat)).sum
                      + min (s.sumOver .add .impActive - s.sumOver .subtract .impActive) (2 ^ 64 - 1)
                          * s.config.subLen / (s.sub.elapsed + 1)) (s.config.windowLen * s.config.subLen)
                  ∧ t.lim.projection.dq = demandOf ((ring.map (fun x => x.eq.toNat)).sum
                      + (totalize s.config s.partials).eq.toNat * s.config.subLen / (s.sub.elapsed + 1))
                        (s.config.windowLen * s.config.subLen))
                ∧ t.lim.projection.dva = apparentOf t.lim.projection.dp t.lim.projection.dq)
          ∧ (s.dem.ring.length < s.config.windowLen - 1 ∨ s.sub.elapsed + 1 < 30 →
              t.lim.projection.source = (if s.dem.ring.length < s.config.windowLen - 1 then .heldFill else .heldEarly)
                ∧ match s.dem.window with
                  | some w => t.lim.projection.dp = w.dp ∧ t.lim.projection.dq = w.dq ∧ t.lim.projection.dva = w.dva
                  | none => t.lim.projection.dp = 0 ∧ t.lim.projection.dq = 0 ∧ t.lim.projection.dva = 0)
          ∧ (s.dem.ring.length < s.config.windowLen - 1 →
              t.lim.comparators = s.lim.comparators ∧ t.lim.shed = s.lim.shed)))
  ∧ (
    ∀ s : State, s.sup.mainSupply = true → s.NothingWaits → s.sup.hold = false →
      s.config.windowLen - 1 ≤ s.dem.ring.length →
      ∃ t, exec (.secondEvent false) s = .next t ∧ s.EvaluatedInto t
        ∧ ∀ (f : AttnFlag) (p : Port), f ≠ .limitAlert → f ≠ .limitRelease → (t.port p).attn.has f = (s.port p).attn.has f)
  ∧ (
    ∀ s : State, s.sup.mainSupply = true → s.NothingWaits →
      (s.config.syncMode = .internal ∧ s.clock.now.tick = s.sub.nominalEnd
        ∨ s.config.syncMode = .external ∧ s.config.subLen + s.config.grace ≤ s.sub.elapsed + 1) →
      ∃ t w, exec (.secondEvent true) s = .next t ∧ t.dem.window = some w ∧ w.sequence = s.tot.lastSeq + 1
        ∧ t.lim.projection = { dp := w.dp, dq := w.dq, dva := w.dva, elapsed := 0
                               source := if s.sup.hold then .hold
                                 else if t.dem.ring.length < s.config.windowLen - 1 then .heldFill else .heldEarly }
        ∧ (s.sup.hold = false → s.config.windowLen - 1 ≤ t.dem.ring.length → s.EvaluatedInto t)
        ∧ (s.sup.hold = true ∨ t.dem.ring.length < s.config.windowLen - 1 →
            t.lim.comparators = s.lim.comparators ∧ t.lim.shed = s.lim.shed))

/-! ## Command ports (chapter 9) -/

/-- The checks of a write-class transaction in their order: unknown code (every UNKNOWN_COMMAND) and byte
count MALFORMED, wrong port DENIED, Hold HOLD, no latch DENIED, lock mode LOCKED. A refusal has no effect
but the port's Last Result with its command byte and the end of its transaction, which met filler alone on
data out; unknown, OPERATION and CONFIG codes clear the latch, and the arm is cleared. Without a
transaction there, nothing happens (assumption 4). -/
def Obligations.WriteChecksInOrder : Prop :=
  ∀ (i : Instr) (p : Port) (fr : Framing) (code : Byte) (args : List Byte) (s : State),
    i.wellFormed = true → writeBytes i = some (p, fr, code, args) →
    let known := (0x30 ≤ code.toNat ∧ code.toNat ≤ 0x34) ∨ (0x40 ≤ code.toNat ∧ code.toNat ≤ 0x49)
      ∨ (0x50 ≤ code.toNat ∧ code.toNat ≤ 0x55)
    let accepted := (code.toNat ≤ 0x33) ∨ (p = .utility ∧ code.toNat ≠ 0x49) ∨ (p = .customer ∧ code.toNat = 0x49)
    let after := match fr with
      | .whole => args.length
      | .broken n => n
    let refused := fun r => exec i s = .next (s.finishAfter p code after r
      ((s.port p).latch && (decide (0x30 ≤ code.toNat) && decide (code.toNat ≤ 0x34))) false)
    (¬ s.Selected p → exec i s = .next s)
    ∧ (s.Selected p →
      (¬ known ∨ fr ≠ .whole → refused .malformed)
      ∧ (known → fr = .whole →
        (¬ accepted → refused .denied)
        ∧ (accepted →
          (s.sup.hold = true → refused .hold)
          ∧ (s.sup.hold = false →
            (0x40 ≤ code.toNat → (s.port p).latch = false → refused .denied)
            ∧ (0x50 ≤ code.toNat → (s.port p).latch = true → ¬ s.Unlocked → refused .locked)))))

/-- The PORT-class commands taken with OK: the latch set or cleared, the attention enable set, the fourteen
mask bits replaced (the argument's two upper bits stand for none, assumption 14), the arm set; nothing
else of the part is changed, and a mask or an enable leaves the flags as they were. -/
def Obligations.PortCommandsTakeEffect : Prop :=
  ∀ (p : Port) (s : State), s.TakesPort p →
    exec (.enableWrite p .whole) s = .next (s.finish p 0x30 .ok true false)
    ∧ exec (.disableWrite p .whole) s = .next (s.finish p 0x31 .ok false false)
    ∧ exec (.attentionEnable p .whole) s = .next
        ((s.setPort p { s.port p with attn := { (s.port p).attn with enable := true } }).finish
          p 0x32 .ok (s.port p).latch false)
    ∧ (∀ m : BitVec 16, exec (.setEventMask p .whole m) s = .next
        ((s.setPort p { s.port p with attn := { (s.port p).attn with mask := BitVec.ofNat 14 m.toNat } }).finish
          p 0x33 .ok (s.port p).latch false))
    ∧ (p = .utility → exec (.resetEnable p .whole) s = .next (s.finish p 0x34 .ok (s.port p).latch true))
    ∧ (p = .customer → exec (.resetEnable p .whole) s = .next (s.finish p 0x34 .denied (s.port p).latch false))

/-- The READ-class commands at their snapshot instant: all but four are refused HOLD in Hold, and each of
those named here answers with the tag, the result and its data, field by field, without any other effect
on the part. Read Profile on a log that is not empty, the two cursor commands, Request Preview, Attention
Fetch and Event Test have statements of their own. The order and the width of the fields where no table
lays them out, the length bytes, the presence bytes, the window of Read Profile State, the reason bits and
the codes of a SHED level are those of assumption 9; the codes of the switches and SS are those of
assumption 8; a register is sent as R57 derives it. -/
def Obligations.ReadCommandsAnswer : Prop :=
  (∀ n v : Nat, (beBytes n v).length = n
    ∧ ∀ k, k < n → (beBytes n v)[k]? = some (BitVec.ofNat 8 (v / 256 ^ (n - 1 - k))))
  ∧ (([.off, .waiting, .active, .stalled] : List ChannelState).map ChannelState.code = [0, 1, 2, 3]
    ∧ ([.disabled, .clear, .alert, .releasing] : List ComparatorState).map ComparatorState.code = [0, 1, 2, 3]
    ∧ ([.projected, .heldEarly, .heldFill, .hold] : List ProjectionSource).map ProjectionSource.code = [0, 1, 2, 3]
    ∧ ([.atRecord, .atEnd, .atEdge, .overrun] : List CursorState).map CursorState.code = [0, 1, 2, 3]
    ∧ ([.command, .date, .button, .dateLate, .preview] : List Cause).map Cause.code = [0, 1, 2, 3, 4]
    ∧ ([.cold, .warm, .restart] : List StartCause).map StartCause.code = [0, 1, 2]
    ∧ ([.opened, .guarded, .powerLocked, .permanent] : List LockMode).map LockMode.code = [0, 1, 2, 3]
    ∧ ([.add, .subtract, .omit] : List Weight).map Weight.code = [0, 1, 2]
    ∧ ([.lagOnly, .lagPlusLead, .lagMinusLead] : List ReactiveMode).map ReactiveMode.code = [0, 1, 2]
    ∧ ([.r1, .r2, .r3, .r4, .r5, .r6] : List Rate).map Rate.number = [1, 2, 3, 4, 5, 6])
  ∧ ∀ (p : Port) (s : State), s.Selected p →
    let byte := fun (n : Nat) => [(BitVec.ofNat 8 n : Byte)]
    let bit := fun (b : Bool) => [(if b then 1 else 0 : Byte)]
    let at5 := fun (t : Instant) => beBytes 2 t.day ++ beBytes 3 t.sec
    let none0 := fun (n : Nat) => List.replicate n (0 : Byte)
    let five := fun (q : Quint Energy) => [q.pp, q.pm, q.qp, q.qm, q.eq]
    let four := fun (q : Quad Energy) => [q.pp, q.pm, q.qp, q.qm]
    let energy := fun (a : Energy) => beBytes 8 a.toNat
    let wh := fun (a : Energy) => beBytes 8 (a.toNat / 1000)
    let reg := fun (a : Energy) =>
      let w := a.toNat / 1000
      let full := 10 ^ s.config.digits
      match s.config.registerMode with
      | .rollover => beBytes 8 (w % full) ++ byte (if 255 < w / full then 255 else w / full)
      | .saturate => beBytes 8 (if w ≤ full - 1 then w else full - 1) ++ byte 0
    let sum := fun (q : Quantity) => min (s.sumOver .add q - s.sumOver .subtract q) (2 ^ 64 - 1)
    let reactive := match s.config.reactive with
      | .lagOnly => sum .lagging
      | .lagPlusLead => min (sum .lagging + sum .leading) (2 ^ 64 - 1)
      | .lagMinusLead => sum .lagging - sum .leading
    let max26 := fun (m : Option MaxRecord) => match m with
      | some m => 1 :: (beBytes 4 m.value ++ at5 m.stop ++ beBytes 4 m.sequence.toNat ++ beBytes 4 m.dq
          ++ beBytes 4 m.other ++ beBytes 2 m.pf ++ beBytes 2 m.status.toNat)
      | none => none0 26
    let block77 := fun (b : RateBlock) => byte b.rate.code ++ beBytes 8 b.ep ++ beBytes 8 b.eq ++ beBytes 8 b.excess
      ++ max26 b.maxima.kw ++ max26 b.maxima.kva
    let period := fun (r : PeriodRecord) => beBytes 4 r.number.toNat ++ at5 r.start ++ at5 r.stop ++ byte r.cause.code
      ++ byte ((if r.flags.ratchetApplied then 1 else 0) + (if r.flags.minApplied then 2 else 0)
          + (if r.flags.pfAdjusted then 4 else 0) + (if r.flags.clamped then 8 else 0)
          + (if r.flags.noDemand then 16 else 0) + (if r.partialMark then 128 else 0))
      ++ byte r.ratePresent.toNat ++ byte (if r.basis = .kw then 0 else 1) ++ beBytes 2 r.pfAvg ++ beBytes 2 r.pfUsed
      ++ beBytes 4 r.base ++ beBytes 4 r.floor ++ beBytes 4 r.unadjusted ++ beBytes 4 r.adjusted
      ++ byte r.blocks.length ++ r.blocks.flatMap block77 ++ block77 r.blockA
    let number4 := fun (r : Option PeriodRecord) => match r with
      | some r => 1 :: beBytes 4 r.number.toNat
      | none => none0 5
    let sequence4 := fun (r : Option LogRecord) => match r with
      | some r => 1 :: beBytes 4 r.sequence.toNat
      | none => none0 5
    let cause1 := fun (c : Option Cause) => match c with
      | some c => 1 :: byte c.code
      | none => none0 2
    (s.sup.hold = true → ∀ i code args, readBytes i = some (p, code, args) → code.toNat ∉ [0x10, 0x11, 0x15, 0x16] →
      exec i s = .next (s.answered p code .hold [] .none))
    ∧ exec (.readStatus p) s = .next (s.answered p 0x10 .ok
        [(s.port p).lastResult.code, (s.port p).lastCommand,
         BitVec.ofNat 8 ((if (s.port p).latch then 1 else 0) + (if (s.port p).arm then 2 else 0)
           + (if s.pins.guard then 4 else 0) + (if s.sup.hold then 8 else 0) + (if s.clock.timeValid then 16 else 0)
           + (if s.attnAsserted p then 32 else 0) + (if s.store.writing.isSome then 64 else 0)
           + (if s.store.writing.map StoreWrite.port = some .customer then 128 else 0)),
         BitVec.ofNat 8 s.config.lockMode.code,
         BitVec.ofNat 8 (∑ c : Fin 4, if (s.config.channels.get c).calLock then 2 ^ c.val else 0),
         BitVec.ofNat 8 s.sup.startCause.code,
         (match s.per.close with
          | .idle => 0
          | .closing _ => 1
          | .resuming _ => 2),
         if s.log.clearBusy then 1 else 0, 0] .none)
    ∧ exec (.readTime p) s = .next (s.answered p 0x11 .ok
        (at5 s.clock.now ++ byte ((s.clock.now.day + s.config.weekdayOffset) % 7) ++ bit s.clock.timeValid
          ++ byte (if s.config.syncMode = .internal then 0 else 1) ++ byte s.config.grace ++ bit s.pins.sync
          ++ beBytes 2 s.config.subLen ++ at5 s.sub.start ++ at5 s.sub.nominalEnd ++ beBytes 4 s.sub.elapsed
          ++ byte s.sub.rate.number ++ byte s.clock.dayType.val
          ++ (match s.store.pendSched with
            | .none => [0, 0, 0, 0]
            | .loading _ => [1, 0, 0, 0]
            | .armed _ day => 2 :: 1 :: beBytes 2 day)
          ++ (match s.clock.pointer.bind (fun i => s.store.closeDates[i]?) with
            | some day => 1 :: (beBytes 2 day ++ beBytes 3 s.config.closeSecond)
            | none => none0 6)) .none)
    ∧ exec (.readSubInterval p) s = .next (s.answered p 0x16 .ok
        ((match s.tot.last with
          | some r => 1 :: (beBytes 4 r.sequence.toNat ++ at5 r.start ++ at5 r.stop ++ byte r.rate.number
              ++ beBytes 2 r.status.toNat ++ (five r.totals).flatMap energy
              ++ [r.parts.c0, r.parts.c1, r.parts.c2, r.parts.c3].flatMap (fun q => (four q).flatMap energy))
          | none => none0 186)
          ++ at5 s.sub.start ++ byte s.sub.rate.number ++ beBytes 2 s.sub.status.toNat
          ++ [sum .impActive, sum .expActive, sum .lagging, sum .leading, reactive].flatMap (beBytes 8)) .none)
    ∧ (∀ code : Byte, (code.toNat = 0 ∨ (7 ≤ code.toNat ∧ code.toNat ≠ 0x0A ∧ code.toNat < 0x20) ∨ 0x23 < code.toNat) →
        exec (.readRegisters p code) s = .next (s.answered p 0x15 .range [] .none))
    ∧ (∀ (code : Byte) (r : RateSet), code.toNat = r.code → exec (.readRegisters p code) s = .next (s.answered p 0x15 .ok
        (byte s.config.digits ++ byte (if s.config.registerMode = .rollover then 0 else 1)
          ++ (five (s.tot.acc.get r)).flatMap reg ++ (five (s.tot.period.get r)).flatMap wh) .none))
    ∧ (∀ (code : Byte) (c : Fin 4), code.toNat = 0x20 + c.val → exec (.readRegisters p code) s = .next (s.answered p 0x15 .ok
        (byte s.config.digits ++ byte (if s.config.registerMode = .rollover then 0 else 1)
          ++ (four (s.chans.get c).cum).flatMap reg) .none))
    ∧ (s.sup.hold = false →
      (∀ a n : Byte, (1 < a.toNat ∨ 5 < n.toNat) → exec (.readSchedule p a n) s = .next (s.answered p 0x12 .range [] .none))
      ∧ (∀ a n : Byte, a.toNat = 1 → n.toNat ≤ 5 → s.store.pendSched = .none →
          exec (.readSchedule p a n) s = .next (s.answered p 0x12 .ok [0] .none))
      ∧ (∀ (a n : Byte) (t : Tables), (a.toNat = 0 ∧ t = s.store.active
            ∨ a.toNat = 1 ∧ (s.store.pendSched = .loading t ∨ ∃ day, s.store.pendSched = .armed t day)) →
          (∀ d : Fin 4, n.toNat = d.val → exec (.readSchedule p a n) s = .next (s.answered p 0x12 .ok
            ((t.switches.get d).flatMap (fun x => beBytes 2 x.minute ++ byte x.rate) ++ byte (t.switches.get d).length) .none))
          ∧ (n.toNat = 4 → exec (.readSchedule p a n) s = .next (s.answered p 0x12 .ok
            (([t.week.mon, t.week.tue, t.week.wed, t.week.thu, t.week.fri, t.week.sat, t.week.sun].flatMap
              (fun d => byte d.val)) ++ [7]) .none))
          ∧ (n.toNat = 5 → exec (.readSchedule p a n) s = .next (s.answered p 0x12 .ok
            (t.holidays.flatMap (beBytes 2) ++ byte t.holidays.length) .none)))
      ∧ exec (.readCloseDates p) s = .next (s.answered p 0x13 .ok
          (s.store.closeDates.flatMap (beBytes 2) ++ byte s.store.closeDates.length ++ beBytes 4 s.config.closeSecond) .none)
      ∧ (∀ b : Byte, (3 < b.toNat → exec (.readChannelStatus p b) s = .next (s.answered p 0x14 .range [] .none))
          ∧ ∀ c : Fin 4, b.toNat = c.val →
            exec (.readChannelStatus p b) s = .next (s.answered p 0x14 .ok
              (byte (s.chans.get c).state.code ++ byte (s.chans.get c).timer
                ++ (match (s.chans.get c).expected with
                  | some q => 1 :: byte q.toNat
                  | none => none0 2)
                ++ beBytes 2 (s.config.channels.get c).k ++ [BitVec.ofInt 8 (s.config.channels.get c).ss]
                ++ bit (s.config.channels.get c).enabled ++ byte (s.config.channels.get c).weight.code
                ++ bit (s.config.channels.get c).calLock ++ (four (s.chans.get c).cum).flatMap reg
                ++ (four (s.chans.get c).part).flatMap wh) .none))
      ∧ exec (.readDemand p) s = .next (s.answered p 0x17 .ok
          (byte s.config.windowLen ++ beBytes 2 s.config.subLen ++ beBytes 2 (s.config.windowLen * s.config.subLen)
            ++ bit (!s.config.excludeFlagged) ++ beBytes 2 s.config.pickupThreshold ++ byte s.config.pickupLength
            ++ byte s.dem.pickup ++ byte s.dem.ring.length
            ++ s.dem.ring.flatMap (fun x => beBytes 4 x.sequence.toNat ++ byte x.rate.number ++ beBytes 2 x.status.toNat
              ++ energy x.ep ++ energy x.eq)
            ++ (match s.dem.window with
              | some w => 1 :: (beBytes 4 w.sequence.toNat ++ at5 w.stop ++ byte w.rate.number ++ byte w.fill
                  ++ beBytes 4 w.dp ++ beBytes 4 w.dq ++ beBytes 4 w.dva ++ beBytes 2 w.pf
                  ++ bit (!w.failFill && !w.failPickup && !w.failFlagged)
                  ++ byte ((if w.failFill then 1 else 0) + (if w.failPickup then 2 else 0) + (if w.failFlagged then 4 else 0)))
              | none => none0 28)) .none)
      ∧ (∀ b : Byte, ((b.toNat = 0 ∨ 6 < b.toNat) ∧ b.toNat ≠ 0x0A →
            exec (.readMaxima p b) s = .next (s.answered p 0x18 .range [] .none))
          ∧ ∀ r : RateSet, b.toNat = r.code → exec (.readMaxima p b) s = .next (s.answered p 0x18 .ok
              (max26 (s.dem.maxima.get r).kw ++ max26 (s.dem.maxima.get r).kva) .none))
      ∧ (∀ b : Byte,
          (b.toNat = 0x80 → exec (.readPeriod p b) s = .next (s.answered p 0x19 .ok
            (match (s.port p).previewRec with
              | some r => 1 :: period r
              | none => [0]) .none))
          ∧ (12 < b.toNat ∧ b.toNat ≠ 0x80 → exec (.readPeriod p b) s = .next (s.answered p 0x19 .range [] .none))
          ∧ (b.toNat ≤ 12 → s.per.close ≠ .idle → exec (.readPeriod p b) s = .next (s.answered p 0x19 .busy [] .none))
          ∧ (b.toNat ≤ 12 → s.per.close = .idle → s.per.history.length ≤ b.toNat →
              exec (.readPeriod p b) s = .next (s.answered p 0x19 .ok [0] .none))
          ∧ ((h : b.toNat < s.per.history.length) → b.toNat ≤ 12 → s.per.close = .idle →
              exec (.readPeriod p b) s = .next (s.answered p 0x19 .ok
                (1 :: period (s.per.history[s.per.history.length - 1 - b.toNat])) .none)))
      ∧ exec (.readPeriodState p) s = .next (s.answered p 0x1A .ok
          ((match s.per.close with
            | .idle => [0, 0, 0]
            | .closing x => 1 :: cause1 (some x.cause)
            | .resuming x => 2 :: cause1 (some x.cause))
            ++ beBytes 4 s.per.number.toNat ++ at5 s.per.start ++ bit s.per.partialMark ++ beBytes 4 s.per.lockout
            ++ cause1 s.per.deferred ++ byte s.tot.present.toNat ++ byte s.per.history.length
            ++ number4 s.per.history.head? ++ number4 s.per.history.getLast? ++ bit (s.port p).preview.isSome
            ++ number4 (s.port p).previewRec) .none)
      ∧ (∀ n : Byte, s.log.clearBusy = true → exec (.readProfile p n) s = .next (s.answered p 0x1B .busy [] .none))
      ∧ (∀ n : Byte, s.log.clearBusy = false → s.log.records = [] →
          exec (.readProfile p n) s = .next (s.answered p 0x1B .ok [0, 4] .none))
      ∧ exec (.readProfileState p) s = .next (s.answered p 0x1C .ok
          (beBytes 2 ((s.log.records.map (fun r => r.body.words)).sum) ++ beBytes 2 s.log.records.length
            ++ sequence4 s.log.records.head? ++ sequence4 s.log.records.getLast? ++ beBytes 4 s.log.nextSeq.toNat
            ++ byte s.config.logMask.toNat ++ bit s.log.clearBusy ++ bit s.log.slot.isSome
            ++ beBytes 4 (s.port p).cursor.position.toNat ++ byte (s.port p).cursor.state.code
            ++ byte (if (s.port p).cursor.dir = .forward then 0 else 1)
            ++ (match (s.port p).cursor.window with
              | some w => 1 :: (beBytes 4 w.1.toNat ++ beBytes 4 w.2.toNat)
              | none => none0 9)) .none)
      ∧ exec (.readLimits p) s = .next (s.answered p 0x1D .ok
          (([0, 1, 2, 3] : List (Fin 4)).flatMap (fun k =>
              bit (s.config.limits.get k).enabled ++ byte (if (s.config.limits.get k).quantity = .kw then 0 else 1)
                ++ beBytes 4 (s.config.limits.get k).threshold ++ beBytes 4 (s.config.limits.get k).hysteresis
                ++ beBytes 2 (s.config.limits.get k).minHold ++ byte (s.config.limits.get k).shed.val
                ++ byte (s.lim.comparators.get k).state.code ++ beBytes 2 (s.lim.comparators.get k).timer)
            ++ ([0, 1, 2, 3] : List (Fin 4)).flatMap (fun k => bit (s.lim.shed.get k))
            ++ beBytes 4 s.lim.projection.dp ++ beBytes 4 s.lim.projection.dq ++ beBytes 4 s.lim.projection.dva
            ++ byte s.lim.projection.source.code ++ beBytes 4 s.lim.projection.elapsed ++ byte s.lim.seenN
            ++ beBytes 2 s.lim.seenS ++ byte s.lim.seenFill) .none)
      ∧ (let item := fun (n v : Nat) =>
            exec (.readConfigItem p (BitVec.ofNat 16 n)) s = .next (s.answered p 0x1E .ok (beBytes 4 v) .none)
          let c := s.config
          (∀ i : Fin 4, item (0x0100 + i.val) (c.channels.get i).k
              ∧ item (0x0110 + i.val) (BitVec.ofInt 8 (c.channels.get i).ss).toNat
              ∧ item (0x0120 + i.val) (if (c.channels.get i).enabled then 1 else 0)
              ∧ item (0x0130 + i.val) (c.channels.get i).weight.code
              ∧ item (0x0150 + i.val) (if (c.channels.get i).calLock then 1 else 0)
              ∧ item (0x0800 + 0x10 * i.val) (if (c.limits.get i).enabled then 1 else 0)
              ∧ item (0x0801 + 0x10 * i.val) (if (c.limits.get i).quantity = .kw then 0 else 1)
              ∧ item (0x0802 + 0x10 * i.val) (c.limits.get i).threshold
              ∧ item (0x0803 + 0x10 * i.val) (c.limits.get i).hysteresis
              ∧ item (0x0804 + 0x10 * i.val) (c.limits.get i).minHold
              ∧ item (0x0805 + 0x10 * i.val) (c.limits.get i).shed.val)
            ∧ item 0x0140 (if c.polarity = .activeHigh then 0 else 1) ∧ item 0x0141 c.stallTimeout
            ∧ item 0x0200 c.subLen ∧ item 0x0201 (if c.syncMode = .internal then 0 else 1) ∧ item 0x0202 c.grace
            ∧ item 0x0203 c.weekdayOffset ∧ item 0x0204 c.closeSecond
            ∧ item 0x0400 c.reactive.code ∧ item 0x0401 c.digits
            ∧ item 0x0402 (if c.registerMode = .rollover then 0 else 1)
            ∧ item 0x0500 c.windowLen ∧ item 0x0501 (if c.excludeFlagged then 0 else 1)
            ∧ item 0x0502 c.pickupThreshold ∧ item 0x0503 c.pickupLength
            ∧ item 0x0600 (if c.bill.basis = .kw then 0 else 1) ∧ item 0x0601 c.bill.billable.toNat
            ∧ item 0x0602 c.bill.ratchetPct ∧ item 0x0603 c.bill.lookback ∧ item 0x0604 c.bill.contractMin
            ∧ item 0x0605 (if c.bill.excessOn then 0 else 1) ∧ item 0x0606 c.bill.ratio
            ∧ item 0x0607 (if c.bill.pfAdjustOn then 0 else 1) ∧ item 0x0608 c.bill.pfRef ∧ item 0x0609 c.bill.pfFloor
            ∧ item 0x060A c.lockoutLen ∧ item 0x0700 c.logMask.toNat ∧ item 0x0900 c.lockMode.code)
      ∧ (∀ n : BitVec 16,
          n.toNat ∉ [0x0100, 0x0101, 0x0102, 0x0103, 0x0110, 0x0111, 0x0112, 0x0113, 0x0120, 0x0121, 0x0122, 0x0123,
            0x0130, 0x0131, 0x0132, 0x0133, 0x0140, 0x0141, 0x0150, 0x0151, 0x0152, 0x0153, 0x0200, 0x0201, 0x0202,
            0x0203, 0x0204, 0x0400, 0x0401, 0x0402, 0x0500, 0x0501, 0x0502, 0x0503, 0x0600, 0x0601, 0x0602, 0x0603,
            0x0604, 0x0605, 0x0606, 0x0607, 0x0608, 0x0609, 0x060A, 0x0700, 0x0800, 0x0801, 0x0802, 0x0803, 0x0804,
            0x0805, 0x0810, 0x0811, 0x0812, 0x0813, 0x0814, 0x0815, 0x0820, 0x0821, 0x0822, 0x0823, 0x0824, 0x0825,
            0x0830, 0x0831, 0x0832, 0x0833, 0x0834, 0x0835, 0x0900] →
          exec (.readConfigItem p n) s = .next (s.answered p 0x1E .range [] .none)))

/-- The bytes of a transaction, given to the rise of select, run the command they spell: every write-class
command with every operand, whole or broken, and every READ-class command, whose reply bytes are those
that follow; a READ transaction cut before its last argument has no effect but the end of a transaction.
That a READ row is its snapshot instant, a write row its rise of select, and that SELECT_RISE carries and
parses the bytes, is the model's choice (assumption 7); the order of R117 is an operand of both. -/
def Obligations.TransactionBytesRunTheirCommand : Prop :=
  ∀ (i : Instr) (p : Port) (code : Byte) (args : List Byte) (s : State), s.Selected p →
    (∀ d f, i.wellFormed = true → writeBytes i = some (p, .whole, code, args) →
        (∀ v b, i = .adjustTime p .whole v b → b = f) →
        exec (.selectRise p (code :: args) 0 d f) s = exec i s)
    ∧ (∀ d f given partialBits, i.wellFormed = true → writeBytes i = some (p, .broken given.length, code, args) →
        (given.length ≠ args.length ∨ partialBits ≠ 0) →
        exec (.selectRise p (code :: given) partialBits d f) s = exec i s)
    ∧ (∀ d f more partialBits t, readBytes i = some (p, code, args) → exec i s = .next t →
        exec (.selectRise p (code :: (args ++ more)) partialBits d f) s = exec (.selectRise p more partialBits d f) t)
    ∧ (∀ d f given partialBits, readBytes i = some (p, code, args) → given.length < args.length →
        exec (.selectRise p (code :: given) partialBits d f) s = .next (s.setPort p
          { s.port p with tx := .idle, arm := false, pattern := 0, dataOut := List.replicate (1 + given.length) 0xFF }))

/-- The fall of select begins a transaction and its rise ends it; a rise without a transaction does nothing
(assumption 4). What the row SELECT_RISE carries, PORT_RESET doing what that rise does, and the record of
the bytes of data out are assumption 7. A void transaction with a clock edge only
sets the reset pattern count to 0, as a byte taken does among its effects; one without compares data in
with the pattern low, high, low, high, and the fourth in place resets the port: latch, arm and count, and
nothing else. After a snapshot instant data out drives the reply and then filler, byte by byte. -/
def Obligations.SelectAndPortReset : Prop :=
  ∀ (p : Port) (s : State),
    (s.sup.mainSupply = true → (s.port p).tx = .idle →
      exec (.selectFall p) s = .next (s.setPort p { s.port p with tx := .selected, dataOut := [] })
        ∧ ∀ bytes n d f, exec (.selectRise p bytes n d f) s = .next s)
    ∧ (s.Selected p →
      (∀ n d f, 0 < n → exec (.selectRise p [] n d f) s = .next (s.setPort p { s.port p with tx := .idle, pattern := 0 }))
      ∧ (∀ d f, (s.port p).pattern < 3 → d = decide ((s.port p).pattern = 1) →
          exec (.selectRise p [] 0 d f) s = .next (s.setPort p
            { s.port p with tx := .idle, pattern := (s.port p).pattern + 1 }))
      ∧ (∀ d f, (s.port p).pattern ≤ 3 → d ≠ decide ((s.port p).pattern = 1 ∨ (s.port p).pattern = 3) →
          exec (.selectRise p [] 0 d f) s = .next (s.setPort p
            { s.port p with tx := .idle, pattern := if d then 0 else 1 }))
      ∧ (∀ byte rest n d f, ∃ v, exec (.selectRise p (byte :: rest) n d f) s = .next v ∧ (v.port p).pattern = 0)
      ∧ ((s.port p).pattern = 3 →
          (∀ f, exec (.selectRise p [] 0 true f) s = .next (s.setPort p
              { s.port p with tx := .idle, latch := false, arm := false, pattern := 0 }))
            ∧ exec (.portReset p) s = .next (s.setPort p
              { s.port p with tx := .idle, latch := false, arm := false, pattern := 0 })))
    ∧ (∀ code reply e bytes n d f, s.sup.mainSupply = true → (s.port p).tx = .replying code reply e →
        ∃ v, exec (.selectRise p bytes n d f) s = .next v
          ∧ (v.port p).dataOut = (s.port p).dataOut
              ++ (List.range bytes.length).map (fun k => (reply[k]?).getD 0xFF)
          ∧ (v.port p).tx = .idle ∧ (v.port p).arm = false ∧ (v.port p).pattern = 0
          ∧ (v.port p).lastResult = (s.port p).lastResult ∧ (v.port p).latch = (s.port p).latch)

/-! ## Attention Units (chapter 10) -/

/-- Attention Fetch returns the highest-priority group with a flag that counts, or 0, and at the rise of
select, the group byte being clocked out, clears the enable and the one unmasked member of that group, or
SUPPLY_WARN for group 1; cut short it clears nothing; and a raise since the snapshot is not lost. -/
def Obligations.AttentionFetchClears : Prop :=
  ∀ (p : Port) (s : State) (g : Nat), s.TakesPort p → g ≤ 8 →
    let u := (s.port p).attn
    let pendingIn := fun (k : Nat) => ∃ f : AttnFlag, u.has f = true ∧
      ((k = 1 ∧ f = .supplyWarn) ∨ (2 ≤ k ∧ (f.bit = 2 * k - 3 ∨ f.bit = 2 * k - 2) ∧ u.mask.getLsbD (f.bit - 1) = false))
    (g = 0 → ∀ k, k ≤ 8 → ¬ pendingIn k) → (0 < g → pendingIn g ∧ ∀ k, k < g → ¬ pendingIn k) →
    ∃ t, exec (.attentionFetch p) s = .next t ∧ t = s.answered p 0x22 .ok [BitVec.ofNat 8 g] (.fetch g u.mask)
      ∧ ∀ bytes n d f0,
        (∃ v, exec (.selectRise p bytes n d f0) t = .next v ∧ (v.port p).tx = .idle ∧ (v.port p).attn.mask = u.mask
          ∧ (v.port p).attn.enable = (u.enable && decide (bytes.length < 3))
          ∧ ∀ f, (v.port p).attn.has f = true ↔ u.has f = true ∧
              ¬ (3 ≤ bytes.length ∧ ((g = 1 ∧ f = .supplyWarn)
                ∨ (2 ≤ g ∧ f.bit = 2 * g - 3 ∧ u.mask.getLsbD (2 * g - 4) = false ∧ u.mask.getLsbD (2 * g - 3) = true)
                ∨ (2 ≤ g ∧ f.bit = 2 * g - 2 ∧ u.mask.getLsbD (2 * g - 3) = false ∧ u.mask.getLsbD (2 * g - 4) = true))))
        ∧ ∀ f, ∃ v, exec (.selectRise p bytes n d f0) (t.raiseOn p f) = .next v ∧ (v.port p).attn.has f = true

/-- Event Test returns one flag, or the GUARD level, as a byte 1 or 0 (assumption 9), and at the rise of
select, the value byte being clocked out, clears that flag alone; a number that names none is refused RANGE;
a raise since the snapshot is not lost, of a request flag by R176 and of a test flag by assumption 12. The ATTN output is asserted by SUPPLY_WARN, or by the enable with an unmasked flag pending. -/
def Obligations.EventTestClears : Prop :=
  ∀ (p : Port) (s : State),
    (s.attnAsserted p = true ↔ s.sup.mainSupply = true ∧ ((s.port p).attn.has .supplyWarn = true
      ∨ ((s.port p).attn.enable = true ∧ ∃ f : AttnFlag, 1 ≤ f.bit ∧ f.bit ≤ 14 ∧ (s.port p).attn.has f = true
          ∧ (s.port p).attn.mask.getLsbD (f.bit - 1) = false)))
    ∧ (s.TakesPort p →
      (∀ n : Byte, (n.toNat = 0 ∨ 21 < n.toNat) → exec (.eventTest p n) s = .next (s.answered p 0x23 .range [] .none))
      ∧ (∃ t, exec (.eventTest p 21) s = .next t
        ∧ t = s.answered p 0x23 .ok [if s.pins.guard then 1 else 0] (.test none)
        ∧ ∀ bytes k d f0, ∃ v, exec (.selectRise p bytes k d f0) t = .next v ∧ (v.port p).tx = .idle
            ∧ (v.port p).attn = (t.port p).attn ∧ v.pins = s.pins)
      ∧ ∀ (n : Byte) (f : AttnFlag), n.toNat = f.bit + 1 →
        ∃ t, exec (.eventTest p n) s = .next t
          ∧ t = s.answered p 0x23 .ok [if (s.port p).attn.has f then 1 else 0] (.test (some f.bit))
          ∧ ∀ bytes k d f0,
            (∃ v, exec (.selectRise p bytes k d f0) t = .next v ∧ (v.port p).tx = .idle
              ∧ (v.port p).attn.enable = (s.port p).attn.enable ∧ (v.port p).attn.mask = (s.port p).attn.mask
              ∧ ∀ h, (v.port p).attn.has h = true ↔ (s.port p).attn.has h = true ∧ ¬ (3 ≤ bytes.length ∧ h = f))
            ∧ ∃ v, exec (.selectRise p bytes k d f0) (t.raiseOn p f) = .next v ∧ (v.port p).attn.has f = true)

/-! ## Supply Monitor (chapter 11) -/

/-- Hold entry sets Hold, records the outage start, raises SUPPLY_WARN, marks OUTAGE and clears both latches
and the arm; Hold release clears Hold and outage-start-valid and marks OUTAGE; neither changes anything
else. The levels of SYNC and GUARD follow their events, a pulse being discarded in INTERNAL mode. The
loss of the main supply stops the main domain: while it is lost, seconds counted on VBAT, the loss of
retention and the start reach the part, and nothing else; what was due is not taken (assumption 2). -/
def Obligations.HoldLevelsAndSupplyLoss : Prop :=
  (
    ∀ s : State, s.sup.mainSupply = true →
      (s.pins.pfail = false → ∃ t, exec .holdEntry s = .next t
        ∧ t.sup = { s.sup with hold := true, outageStart := s.clock.now, outageValid := true }
        ∧ s.RaisedOnly t (fun f => f = .supplyWarn)
        ∧ (∀ f, t.sub.status.has f = true ↔ s.sub.status.has f = true ∨ f = .outage)
        ∧ (∀ p, t.port p = { s.port p with latch := false, arm := false, attn := (t.port p).attn })
        ∧ t = { s with sup := t.sup, sub := { s.sub with status := t.sub.status }, util := t.util, cust := t.cust
                       pins := { s.pins with pfail := true } })
      ∧ (s.pins.pfail = true → ∃ t, exec .holdRelease s = .next t
        ∧ (∀ f, t.sub.status.has f = true ↔ s.sub.status.has f = true ∨ f = .outage)
        ∧ t = { s with sup := { s.sup with hold := false, outageValid := false }
                       sub := { s.sub with status := t.sub.status }, pins := { s.pins with pfail := false } }))
  ∧ (
    ∀ s : State,
      (s.sup.mainSupply = true →
        exec .supplyLoss s = .next { s with sup := { s.sup with mainSupply := false }, due := .nothing }
        ∧ exec .syncLevelFall s = .next { s with pins := { s.pins with sync := false } }
        ∧ (s.config.syncMode = .internal ∨ s.pins.sync = true →
            exec .syncPulse s = .next { s with pins := { s.pins with sync := true } })
        ∧ (∀ b, exec (.guardChange b) s = .next { s with pins := { s.pins with guard := b } })
        ∧ exec .retentionInvalid s = .next s)
      ∧ (s.sup.mainSupply = false →
        exec .retentionInvalid s = .next { s with sup := { s.sup with retentionValid := false } }
        ∧ ∀ c, (∀ b, c ≠ .secondEvent b) → c ≠ .retentionInvalid → (∀ lv, c ≠ .coldStart lv) → (∀ lv, c ≠ .warmStart lv) →
            exec c s = .next s))

/-- A warm start keeps the time, and the period where no late close freezes it; it takes the start values
of the ports, the Attention Units and the channels, reverts POWER_LOCKED, resumes a close and completes a
clear. The interrupted sub-interval continues with OUTAGE, and then the accumulators, the period energies, the
rate-present set, the close marks, the ring, the last window and the Maximum Records stay; or it is closed at
its nominal end with OUTAGE, SHORT or LONG by its elapsed count there or NOSYNC, filed and handed on, and the
next one opens at the warm-start instant. Then come the OUTAGE marker, after the DATA record, the pickup
counter loaded after an outage of the threshold, and one late-close request for dates passed, whose freeze
takes what stands by then. No flag is pending but those that these steps raise. -/
def Obligations.WarmStartResumes : Prop :=
  ∀ (lv : PinLevels) (s : State), s.sup.mainSupply = false → s.sup.retentionValid = true →
    let goesOn := (s.config.syncMode = .internal ∧
        s.sup.lossInstant.until s.clock.now < s.sup.lossInstant.until s.sub.nominalEnd)
      ∨ (s.config.syncMode = .external ∧ s.sub.elapsed < s.config.subLen + s.config.grace)
    let began := if s.sup.outageValid then s.sup.outageStart else s.sup.lossInstant
    let late := ∃ d ∈ s.store.closeDates, passedInOutage s.sup.lossInstant s.clock.now ⟨d, s.config.closeSecond⟩ = true
    let frozen := late ∧ s.per.close = .idle ∧ s.per.lockout = 0 ∧ s.per.number ≠ 0xFFFFFFFF
    let atEnd := s.sub.elapsed - s.sub.nominalEnd.until s.clock.now
    let cause := StatusFlag.outage :: (match s.config.syncMode with
      | .internal => s.lengthFlags atEnd
      | .external => [.noSync])
    ∃ t tot dem log, exec (.warmStart lv) s = .next t
      ∧ t.sup = { s.sup with mainSupply := true, hold := false, outageValid := false, startCause := .warm }
      ∧ t.pins = { sync := lv.sync, guard := lv.guard, close := lv.close, pfail := false }
      ∧ t.clock = { now := s.clock.now, timeValid := s.clock.timeValid
                    dayType := dayTypeOf t.store.active s.config.weekdayOffset s.clock.now.day
                    pointer := s.store.pointerAfter s.clock.now }
      ∧ t.config = { s.config with
          lockMode := if s.config.lockMode = .powerLocked then .guarded else s.config.lockMode }
      ∧ t.store.writing = none ∧ t.store.closeDates = s.store.closeDates
      ∧ (∀ c, t.chans.get c = { s.chans.get c with
          state := if (s.config.channels.get c).enabled then .waiting else .off, expected := none, timer := 0
          residue := .all 0, part := (t.chans.get c).part })
      ∧ (∀ p, (t.port p).tx = .idle ∧ (t.port p).lastResult = .ok ∧ (t.port p).lastCommand = 0
          ∧ (t.port p).latch = false ∧ (t.port p).arm = false ∧ (t.port p).pattern = 0 ∧ (t.port p).preview = none
          ∧ (t.port p).previewRec = (s.port p).previewRec
          ∧ (t.port p).attn.mask = 0x3FFF ∧ (t.port p).attn.enable = false
          ∧ (s.log.clearBusy = false → (t.port p).cursor.dir = (s.port p).cursor.dir
              ∧ (t.port p).cursor.window = (s.port p).cursor.window)
          ∧ (s.log.clearBusy = true → (t.port p).cursor.dir = .forward ∧ (t.port p).cursor.window = none)
          ∧ (∀ f, (t.port p).attn.has f = true → f ∈ [.subintEnd, .rateChange, .newMaxKW, .newMaxKVA, .regRollover,
              .scheduleSwitched, .logOverrun, .closeDeferred])
          ∧ ((t.port p).attn.has .subintEnd = true ↔ ¬ goesOn)
          ∧ ((t.port p).attn.has .rateChange = true ↔ t.sub.rate ≠ s.sub.rate)
          ∧ ((t.port p).attn.has .scheduleSwitched = true ↔ t.store.pendSched ≠ s.store.pendSched)
          ∧ ((t.port p).attn.has .closeDeferred = true ↔ late ∧ (s.per.close ≠ .idle ∨ s.per.lockout ≠ 0))
          ∧ (goesOn → (t.port p).attn.has .newMaxKW = false ∧ (t.port p).attn.has .newMaxKVA = false
              ∧ (t.port p).attn.has .regRollover = false))
      ∧ (∀ k, t.lim.comparators.get k =
          { state := if (s.config.limits.get k).enabled then .clear else .disabled, timer := 0 })
      ∧ t.lim.shed = .all false ∧ t.log.clearBusy = false
      ∧ (goesOn → tot = s.tot ∧ dem = { s.dem with pickup := dem.pickup } ∧ log = s.clearFinished
          ∧ t.sub = { s.sub with status := t.sub.status }
          ∧ (∀ f, t.sub.status.has f = true ↔ s.sub.status.has f = true ∨ f = .outage)
          ∧ t.store.active = s.store.active ∧ t.store.pendSched = s.store.pendSched
          ∧ ∀ c, (t.chans.get c).part = (s.chans.get c).part)
      ∧ (¬ goesOn → ∃ r d, s.ClosesInto t t.chans s.sub.nominalEnd cause r tot d ∧ dem = { d with pickup := dem.pickup }
          ∧ log = s.closeLogged t s.clearFinished r)
      ∧ (s.config.pickupThreshold ≤ began.until s.clock.now → dem.pickup = s.config.pickupLength)
      ∧ (began.until s.clock.now < s.config.pickupThreshold →
          dem.pickup = if goesOn then s.dem.pickup else s.dem.pickup - 1)
      ∧ (let marked := log.logged { kind := .outage, rate := t.sub.rate, status := 0, stamp := s.clock.now
                                    payload := [BitVec.ofNat 32 began.day, BitVec.ofNat 32 began.sec] }
        (¬ frozen → t.tot = tot ∧ t.dem = dem ∧ t.log = marked)
        ∧ (frozen → t.tot = { tot with period := .all (.all 0), present := 0 }
            ∧ t.dem = { dem with maxima := .all ⟨none, none⟩ }
            ∧ t.per = { s.per with
                close := .closing
                  { energy := tot.period, maxima := dem.maxima, ratePresent := tot.present
                    ratchet := (s.per.history.reverse.take s.config.bill.lookback).map PeriodRecord.unadjusted
                    settings := s.config.bill, number := s.per.number, start := s.per.start, stop := s.clock.now
                    cause := .dateLate, partialMark := s.per.partialMark }
                number := s.per.number + 1, start := s.clock.now, partialMark := false, lockout := s.config.lockoutLen }
            ∧ t.log = marked.logged { kind := .close, rate := t.sub.rate, status := 0, stamp := s.clock.now
                                      payload := [s.per.number] }))
      ∧ (∀ x, s.per.close = .closing x ∨ s.per.close = .resuming x →
          t.per = { s.per with close := .resuming x
                               deferred := if late then some (s.per.deferred.getD .dateLate) else s.per.deferred })
      ∧ (s.per.close = .idle → ¬ late → t.per = s.per)
      ∧ (s.per.close = .idle → late → s.per.lockout ≠ 0 →
          t.per = { s.per with deferred := some (s.per.deferred.getD .dateLate) })
      ∧ (s.per.close = .idle → late → s.per.lockout = 0 → s.per.number = 0xFFFFFFFF → t.per = s.per)

/-- Reset: DENIED without the arm, then BUSY in a close, then BUSY in STORE_BUSY; otherwise a Restart, which
closes the sub-interval with RESTART, gives the channels, ports, Attention Units and monitor their start
values, completes a clear, abandons Previews, places both cursors on the RESTART marker and keeps the time,
the period and the configuration. The rest of the billing state is kept but for what the RESTART record adds
to it: its energies to its rate and to rate A, its entry to the ring, its count to the pickup counter, and its
window, where eligible, to the maxima. The log takes its DATA record and then the RESTART marker. No flag is
pending afterwards but those the close itself raises. The next sub-interval carries STALL where a channel stood
in STALLED (assumption 12), and the close no NOSYNC (assumption 2). -/
def Obligations.ResetRestarts : Prop :=
  ∀ s : State, s.TakesOperation .utility →
    (s.util.arm = false → exec (.reset .utility .whole) s = .next (s.finish .utility 0x48 .denied false false))
    ∧ (s.util.arm = true → s.per.close ≠ .idle ∨ s.store.writing ≠ none →
        exec (.reset .utility .whole) s = .next (s.finish .utility 0x48 .busy false false))
    ∧ (s.util.arm = true → s.per.close = .idle → s.store.writing = none →
        ∃ t r, exec (.reset .utility .whole) s = .next t
          ∧ s.ClosesInto t s.chans s.clock.now (.restart :: s.lengthFlags s.sub.elapsed) r t.tot t.dem
          ∧ t.log = (s.closeLogged t s.clearFinished r).logged
              { kind := .restart, rate := t.sub.rate, status := 0, stamp := s.clock.now, payload := [] }
          ∧ t.clock.now = s.clock.now ∧ t.clock.timeValid = s.clock.timeValid ∧ t.clock.pointer = s.clock.pointer
          ∧ t.store.closeDates = s.store.closeDates
          ∧ t.per = s.per ∧ t.config = s.config ∧ t.pins = s.pins ∧ t.sup = { s.sup with startCause := .restart }
          ∧ (∀ c, t.chans.get c = { s.chans.get c with
              state := if (s.config.channels.get c).enabled then .waiting else .off, expected := none, timer := 0
              residue := .all 0, part := .all 0 })
          ∧ (∀ k, t.lim.comparators.get k =
              { state := if (s.config.limits.get k).enabled then .clear else .disabled, timer := 0 })
          ∧ t.lim.shed = .all false ∧ t.log.clearBusy = false
          ∧ (∃ q, t.log.records.getLast? = some ⟨q, ⟨.restart, t.sub.rate, 0, s.clock.now, []⟩⟩
              ∧ t.log.nextSeq = q + 1 ∧ ∀ p, (t.port p).cursor = ⟨q, .atRecord, .forward, none⟩)
          ∧ (∀ p, (t.port p).tx = .idle ∧ (t.port p).lastResult = .ok ∧ (t.port p).latch = false
              ∧ (t.port p).arm = false ∧ (t.port p).pattern = 0 ∧ (t.port p).preview = none
              ∧ (t.port p).previewRec = (s.port p).previewRec ∧ (t.port p).attn.mask = 0x3FFF
              ∧ (t.port p).attn.enable = false
              ∧ (∀ f, (t.port p).attn.has f = true →
                  f ∈ [.subintEnd, .rateChange, .newMaxKW, .newMaxKVA, .regRollover, .scheduleSwitched, .logOverrun])
              ∧ (t.port p).attn.has .subintEnd = true
              ∧ ((t.port p).attn.has .rateChange = true ↔ t.sub.rate ≠ s.sub.rate)
              ∧ ((t.port p).attn.has .scheduleSwitched = true ↔ t.store.pendSched ≠ s.store.pendSched))
          ∧ t.util.lastCommand = 0x48 ∧ t.cust.lastCommand = 0)
end

