-- ==== Sys2Proof/Laws/Carriers.lean ====
section
/-! SUPPORT. The small lemmas of the carriers: one of several, status sets, flags, instants. -/

namespace Sys2Proof.Machine

/-! ### One of four -/

@[simp] theorem PerFour.get_set_same {α : Type} (x : PerFour α) (i : Fin 4) (v : α) : (x.set i v).get i = v := by
  match i with
  | 0 => rfl
  | 1 => rfl
  | 2 => rfl
  | 3 => rfl

/-- Replacing one of four leaves the others. -/
theorem PerFour.get_set_other {α : Type} (x : PerFour α) {i j : Fin 4} (v : α) (h : j ≠ i) : (x.set i v).get j = x.get j := by
  match i, j with
  | 0, 1 => rfl
  | 0, 2 => rfl
  | 0, 3 => rfl
  | 1, 0 => rfl
  | 1, 2 => rfl
  | 1, 3 => rfl
  | 2, 0 => rfl
  | 2, 1 => rfl
  | 2, 3 => rfl
  | 3, 0 => rfl
  | 3, 1 => rfl
  | 3, 2 => rfl
  | 0, 0 => exact absurd rfl h
  | 1, 1 => exact absurd rfl h
  | 2, 2 => exact absurd rfl h
  | 3, 3 => exact absurd rfl h

@[simp] theorem PerFour.get_map {α β : Type} (f : α → β) (x : PerFour α) (i : Fin 4) : (x.map f).get i = f (x.get i) := by
  match i with
  | 0 => rfl
  | 1 => rfl
  | 2 => rfl
  | 3 => rfl

@[simp] theorem PerFour.get_zipWith {α β γ : Type} (f : α → β → γ) (x : PerFour α) (y : PerFour β) (i : Fin 4) :
    (x.zipWith f y).get i = f (x.get i) (y.get i) := by
  match i with
  | 0 => rfl
  | 1 => rfl
  | 2 => rfl
  | 3 => rfl

@[simp] theorem PerFour.get_all {α : Type} (v : α) (i : Fin 4) : (PerFour.all v).get i = v := by
  match i with
  | 0 => rfl
  | 1 => rfl
  | 2 => rfl
  | 3 => rfl

/-! ### One of the quantities and of the rate sets -/

@[simp] theorem Quad.get_set_same {α : Type} (x : Quad α) (q : Quantity) (v : α) : (x.set q v).get q = v := by cases q <;> rfl

/-- Replacing one quantity leaves the others. -/
theorem Quad.get_set_other {α : Type} (x : Quad α) {q r : Quantity} (v : α) (h : r ≠ q) : (x.set q v).get r = x.get r := by
  cases q <;> cases r <;> first | rfl | exact absurd rfl h

@[simp] theorem PerRate.get_set_same {α : Type} (x : PerRate α) (r : RateSet) (v : α) : (x.set r v).get r = v := by
  cases r with
  | all => rfl
  | one r => cases r <;> rfl

/-- Replacing one rate set leaves the others. -/
theorem PerRate.get_set_other {α : Type} (x : PerRate α) {r t : RateSet} (v : α) (h : t ≠ r) : (x.set r v).get t = x.get t := by
  cases r with
  | all => cases t with
    | all => exact absurd rfl h
    | one t => cases t <;> rfl
  | one r => cases t with
    | all => cases r <;> rfl
    | one t => cases r <;> cases t <;> first | rfl | exact absurd rfl h

/-- A rate joins a set of rates, and the others stay as they are. -/
theorem RateMask.has_join (m : RateMask) (r t : Rate) : (m.join r).has t = (decide (t = r) || m.has t) := by
  cases r <;> cases t <;> simp [RateMask.join, RateMask.has, Rate.number]

/-! ### Status sets (R48) -/

/-- A marked flag is held, and the others are held as they were (R48). -/
theorem StatusSet.has_mark (x : StatusSet) (f g : StatusFlag) : (x.mark f).has g = (x.has g || decide (g = f)) := by
  cases f <;> cases g <;> simp [StatusSet.mark, StatusSet.has, StatusSet.single, StatusFlag.bit]

/-- A union of status sets. -/
theorem StatusSet.has_or (x y : StatusSet) (g : StatusFlag) : StatusSet.has (x ||| y) g = (x.has g || y.has g) := by
  simp [StatusSet.has, BitVec.getLsbD_or]

/-- The set of one flag holds that flag alone. -/
theorem StatusSet.has_single (f g : StatusFlag) : (StatusSet.single f).has g = decide (g = f) := by
  cases f <;> cases g <;> decide

/-- A conditional mark. -/
theorem StatusSet.has_markIf (x : StatusSet) (c : Bool) (f g : StatusFlag) :
    (x.markIf c f).has g = (x.has g || (c && decide (g = f))) := by
  cases c <;> simp [StatusSet.markIf, StatusSet.has_mark]

/-- The empty set holds nothing. -/
theorem StatusSet.has_zero (g : StatusFlag) : StatusSet.has 0 g = false := by cases g <;> decide

/-! ### Flags (R176) -/

/-- A raised flag is pending, and the others are as they were (R176). -/
theorem AttentionUnit.has_raise (u : AttentionUnit) (f g : AttnFlag) : (u.raise f).has g = (u.has g || decide (g = f)) := by
  cases f <;> cases g <;> simp [AttentionUnit.raise, AttentionUnit.has, AttnFlag.bit]

@[simp] theorem AttentionUnit.raise_mask (u : AttentionUnit) (f : AttnFlag) : (u.raise f).mask = u.mask := rfl
@[simp] theorem AttentionUnit.raise_enable (u : AttentionUnit) (f : AttnFlag) : (u.raise f).enable = u.enable := rfl

/-! ### Instants (R19) -/

/-- An instant found from a second of the cycle is one of the calendar. -/
theorem Instant.ofAbs_range (n : Nat) : (Instant.ofAbs n).day < cycleDays ∧ (Instant.ofAbs n).sec < daySeconds :=
  ⟨Nat.mod_lt _ (by decide), Nat.mod_lt _ (by decide)⟩

/-- The next second of an instant of the calendar is one too (R19). -/
theorem Instant.tick_range (t : Instant) (h : t.day < cycleDays) : t.tick.day < cycleDays ∧ t.tick.sec < daySeconds := by
  unfold Instant.tick
  split
  · exact ⟨h, by assumption⟩
  · exact ⟨Nat.mod_lt _ (by decide), Nat.succ_pos _⟩

/-- One second later by the clock is one second later by the cycle. -/
theorem Instant.tick_eq_later (t : Instant) (hd : t.day < cycleDays) (hs : t.sec < daySeconds) : t.tick = t.later 1 := by
  unfold Instant.tick Instant.later Instant.ofAbs Instant.abs
  by_cases h : t.sec + 1 < daySeconds
  · rw [if_pos h, Instant.mk.injEq]
    simp only [daySeconds, cycleDays] at *
    omega
  · rw [if_neg h, Instant.mk.injEq]
    simp only [daySeconds, cycleDays] at *
    omega

/-- The next multiple of S is an instant of the calendar, and stands on a multiple of S (R22). -/
theorem Instant.nextMultiple_spec (t : Instant) (s : Nat) (h : t.day < cycleDays) :
    (t.nextMultiple s).day < cycleDays ∧ (t.nextMultiple s).sec < daySeconds ∧ (t.nextMultiple s).sec % s = 0 := by
  unfold Instant.nextMultiple
  split
  · exact ⟨h, by assumption, Nat.mul_mod_left _ _⟩
  · exact ⟨Nat.mod_lt _ (by decide), Nat.succ_pos _, Nat.zero_mod _⟩

end Sys2Proof.Machine
end

