-- ==== Sys2Proof/Laws/State.lean ====
section
/-! SUPPORT. One lemma per field per update of State, so that no proof unfolds a record update. -/

namespace Sys2Proof.Machine

/-! ### setStore -/
@[simp] theorem State.setStore_store (s : State) (x : Store) : (s.setStore x).store = x := rfl
@[simp] theorem State.setStore_clock (s : State) (x : Store) : (s.setStore x).clock = s.clock := rfl
@[simp] theorem State.setStore_sub (s : State) (x : Store) : (s.setStore x).sub = s.sub := rfl
@[simp] theorem State.setStore_due (s : State) (x : Store) : (s.setStore x).due = s.due := rfl
@[simp] theorem State.setStore_chans (s : State) (x : Store) : (s.setStore x).chans = s.chans := rfl
@[simp] theorem State.setStore_tot (s : State) (x : Store) : (s.setStore x).tot = s.tot := rfl
@[simp] theorem State.setStore_dem (s : State) (x : Store) : (s.setStore x).dem = s.dem := rfl
@[simp] theorem State.setStore_per (s : State) (x : Store) : (s.setStore x).per = s.per := rfl
@[simp] theorem State.setStore_log (s : State) (x : Store) : (s.setStore x).log = s.log := rfl
@[simp] theorem State.setStore_lim (s : State) (x : Store) : (s.setStore x).lim = s.lim := rfl
@[simp] theorem State.setStore_util (s : State) (x : Store) : (s.setStore x).util = s.util := rfl
@[simp] theorem State.setStore_cust (s : State) (x : Store) : (s.setStore x).cust = s.cust := rfl
@[simp] theorem State.setStore_sup (s : State) (x : Store) : (s.setStore x).sup = s.sup := rfl
@[simp] theorem State.setStore_pins (s : State) (x : Store) : (s.setStore x).pins = s.pins := rfl
@[simp] theorem State.setStore_pending (s : State) (x : Store) : (s.setStore x).pending = s.pending := rfl
@[simp] theorem State.setStore_free (s : State) (x : Store) : (s.setStore x).free = s.free := rfl
@[simp] theorem State.setStore_self (s : State) : s.setStore s.store = s := rfl
@[simp] theorem State.setStore_setStore (s : State) (x y : Store) : (s.setStore x).setStore y = s.setStore y := rfl

/-! ### setClock -/
@[simp] theorem State.setClock_store (s : State) (x : Clock) : (s.setClock x).store = s.store := rfl
@[simp] theorem State.setClock_clock (s : State) (x : Clock) : (s.setClock x).clock = x := rfl
@[simp] theorem State.setClock_sub (s : State) (x : Clock) : (s.setClock x).sub = s.sub := rfl
@[simp] theorem State.setClock_due (s : State) (x : Clock) : (s.setClock x).due = s.due := rfl
@[simp] theorem State.setClock_chans (s : State) (x : Clock) : (s.setClock x).chans = s.chans := rfl
@[simp] theorem State.setClock_tot (s : State) (x : Clock) : (s.setClock x).tot = s.tot := rfl
@[simp] theorem State.setClock_dem (s : State) (x : Clock) : (s.setClock x).dem = s.dem := rfl
@[simp] theorem State.setClock_per (s : State) (x : Clock) : (s.setClock x).per = s.per := rfl
@[simp] theorem State.setClock_log (s : State) (x : Clock) : (s.setClock x).log = s.log := rfl
@[simp] theorem State.setClock_lim (s : State) (x : Clock) : (s.setClock x).lim = s.lim := rfl
@[simp] theorem State.setClock_util (s : State) (x : Clock) : (s.setClock x).util = s.util := rfl
@[simp] theorem State.setClock_cust (s : State) (x : Clock) : (s.setClock x).cust = s.cust := rfl
@[simp] theorem State.setClock_sup (s : State) (x : Clock) : (s.setClock x).sup = s.sup := rfl
@[simp] theorem State.setClock_pins (s : State) (x : Clock) : (s.setClock x).pins = s.pins := rfl
@[simp] theorem State.setClock_pending (s : State) (x : Clock) : (s.setClock x).pending = s.pending := rfl
@[simp] theorem State.setClock_free (s : State) (x : Clock) : (s.setClock x).free = s.free := rfl
@[simp] theorem State.setClock_self (s : State) : s.setClock s.clock = s := rfl
@[simp] theorem State.setClock_setClock (s : State) (x y : Clock) : (s.setClock x).setClock y = s.setClock y := rfl

/-! ### setSub -/
@[simp] theorem State.setSub_store (s : State) (x : OpenSub) : (s.setSub x).store = s.store := rfl
@[simp] theorem State.setSub_clock (s : State) (x : OpenSub) : (s.setSub x).clock = s.clock := rfl
@[simp] theorem State.setSub_sub (s : State) (x : OpenSub) : (s.setSub x).sub = x := rfl
@[simp] theorem State.setSub_due (s : State) (x : OpenSub) : (s.setSub x).due = s.due := rfl
@[simp] theorem State.setSub_chans (s : State) (x : OpenSub) : (s.setSub x).chans = s.chans := rfl
@[simp] theorem State.setSub_tot (s : State) (x : OpenSub) : (s.setSub x).tot = s.tot := rfl
@[simp] theorem State.setSub_dem (s : State) (x : OpenSub) : (s.setSub x).dem = s.dem := rfl
@[simp] theorem State.setSub_per (s : State) (x : OpenSub) : (s.setSub x).per = s.per := rfl
@[simp] theorem State.setSub_log (s : State) (x : OpenSub) : (s.setSub x).log = s.log := rfl
@[simp] theorem State.setSub_lim (s : State) (x : OpenSub) : (s.setSub x).lim = s.lim := rfl
@[simp] theorem State.setSub_util (s : State) (x : OpenSub) : (s.setSub x).util = s.util := rfl
@[simp] theorem State.setSub_cust (s : State) (x : OpenSub) : (s.setSub x).cust = s.cust := rfl
@[simp] theorem State.setSub_sup (s : State) (x : OpenSub) : (s.setSub x).sup = s.sup := rfl
@[simp] theorem State.setSub_pins (s : State) (x : OpenSub) : (s.setSub x).pins = s.pins := rfl
@[simp] theorem State.setSub_pending (s : State) (x : OpenSub) : (s.setSub x).pending = s.pending := rfl
@[simp] theorem State.setSub_free (s : State) (x : OpenSub) : (s.setSub x).free = s.free := rfl
@[simp] theorem State.setSub_self (s : State) : s.setSub s.sub = s := rfl
@[simp] theorem State.setSub_setSub (s : State) (x y : OpenSub) : (s.setSub x).setSub y = s.setSub y := rfl

/-! ### setDue -/
@[simp] theorem State.setDue_store (s : State) (x : Due) : (s.setDue x).store = s.store := rfl
@[simp] theorem State.setDue_clock (s : State) (x : Due) : (s.setDue x).clock = s.clock := rfl
@[simp] theorem State.setDue_sub (s : State) (x : Due) : (s.setDue x).sub = s.sub := rfl
@[simp] theorem State.setDue_due (s : State) (x : Due) : (s.setDue x).due = x := rfl
@[simp] theorem State.setDue_chans (s : State) (x : Due) : (s.setDue x).chans = s.chans := rfl
@[simp] theorem State.setDue_tot (s : State) (x : Due) : (s.setDue x).tot = s.tot := rfl
@[simp] theorem State.setDue_dem (s : State) (x : Due) : (s.setDue x).dem = s.dem := rfl
@[simp] theorem State.setDue_per (s : State) (x : Due) : (s.setDue x).per = s.per := rfl
@[simp] theorem State.setDue_log (s : State) (x : Due) : (s.setDue x).log = s.log := rfl
@[simp] theorem State.setDue_lim (s : State) (x : Due) : (s.setDue x).lim = s.lim := rfl
@[simp] theorem State.setDue_util (s : State) (x : Due) : (s.setDue x).util = s.util := rfl
@[simp] theorem State.setDue_cust (s : State) (x : Due) : (s.setDue x).cust = s.cust := rfl
@[simp] theorem State.setDue_sup (s : State) (x : Due) : (s.setDue x).sup = s.sup := rfl
@[simp] theorem State.setDue_pins (s : State) (x : Due) : (s.setDue x).pins = s.pins := rfl
@[simp] theorem State.setDue_pending (s : State) (x : Due) : (s.setDue x).pending = s.pending := rfl
@[simp] theorem State.setDue_free (s : State) (x : Due) : (s.setDue x).free = s.free := rfl
@[simp] theorem State.setDue_self (s : State) : s.setDue s.due = s := rfl
@[simp] theorem State.setDue_setDue (s : State) (x y : Due) : (s.setDue x).setDue y = s.setDue y := rfl

/-! ### setChans -/
@[simp] theorem State.setChans_store (s : State) (x : PerFour Channel) : (s.setChans x).store = s.store := rfl
@[simp] theorem State.setChans_clock (s : State) (x : PerFour Channel) : (s.setChans x).clock = s.clock := rfl
@[simp] theorem State.setChans_sub (s : State) (x : PerFour Channel) : (s.setChans x).sub = s.sub := rfl
@[simp] theorem State.setChans_due (s : State) (x : PerFour Channel) : (s.setChans x).due = s.due := rfl
@[simp] theorem State.setChans_chans (s : State) (x : PerFour Channel) : (s.setChans x).chans = x := rfl
@[simp] theorem State.setChans_tot (s : State) (x : PerFour Channel) : (s.setChans x).tot = s.tot := rfl
@[simp] theorem State.setChans_dem (s : State) (x : PerFour Channel) : (s.setChans x).dem = s.dem := rfl
@[simp] theorem State.setChans_per (s : State) (x : PerFour Channel) : (s.setChans x).per = s.per := rfl
@[simp] theorem State.setChans_log (s : State) (x : PerFour Channel) : (s.setChans x).log = s.log := rfl
@[simp] theorem State.setChans_lim (s : State) (x : PerFour Channel) : (s.setChans x).lim = s.lim := rfl
@[simp] theorem State.setChans_util (s : State) (x : PerFour Channel) : (s.setChans x).util = s.util := rfl
@[simp] theorem State.setChans_cust (s : State) (x : PerFour Channel) : (s.setChans x).cust = s.cust := rfl
@[simp] theorem State.setChans_sup (s : State) (x : PerFour Channel) : (s.setChans x).sup = s.sup := rfl
@[simp] theorem State.setChans_pins (s : State) (x : PerFour Channel) : (s.setChans x).pins = s.pins := rfl
@[simp] theorem State.setChans_pending (s : State) (x : PerFour Channel) : (s.setChans x).pending = s.pending := rfl
@[simp] theorem State.setChans_free (s : State) (x : PerFour Channel) : (s.setChans x).free = s.free := rfl
@[simp] theorem State.setChans_self (s : State) : s.setChans s.chans = s := rfl
@[simp] theorem State.setChans_setChans (s : State) (x y : PerFour Channel) : (s.setChans x).setChans y = s.setChans y := rfl

/-! ### setTot -/
@[simp] theorem State.setTot_store (s : State) (x : Totalizer) : (s.setTot x).store = s.store := rfl
@[simp] theorem State.setTot_clock (s : State) (x : Totalizer) : (s.setTot x).clock = s.clock := rfl
@[simp] theorem State.setTot_sub (s : State) (x : Totalizer) : (s.setTot x).sub = s.sub := rfl
@[simp] theorem State.setTot_due (s : State) (x : Totalizer) : (s.setTot x).due = s.due := rfl
@[simp] theorem State.setTot_chans (s : State) (x : Totalizer) : (s.setTot x).chans = s.chans := rfl
@[simp] theorem State.setTot_tot (s : State) (x : Totalizer) : (s.setTot x).tot = x := rfl
@[simp] theorem State.setTot_dem (s : State) (x : Totalizer) : (s.setTot x).dem = s.dem := rfl
@[simp] theorem State.setTot_per (s : State) (x : Totalizer) : (s.setTot x).per = s.per := rfl
@[simp] theorem State.setTot_log (s : State) (x : Totalizer) : (s.setTot x).log = s.log := rfl
@[simp] theorem State.setTot_lim (s : State) (x : Totalizer) : (s.setTot x).lim = s.lim := rfl
@[simp] theorem State.setTot_util (s : State) (x : Totalizer) : (s.setTot x).util = s.util := rfl
@[simp] theorem State.setTot_cust (s : State) (x : Totalizer) : (s.setTot x).cust = s.cust := rfl
@[simp] theorem State.setTot_sup (s : State) (x : Totalizer) : (s.setTot x).sup = s.sup := rfl
@[simp] theorem State.setTot_pins (s : State) (x : Totalizer) : (s.setTot x).pins = s.pins := rfl
@[simp] theorem State.setTot_pending (s : State) (x : Totalizer) : (s.setTot x).pending = s.pending := rfl
@[simp] theorem State.setTot_free (s : State) (x : Totalizer) : (s.setTot x).free = s.free := rfl
@[simp] theorem State.setTot_self (s : State) : s.setTot s.tot = s := rfl
@[simp] theorem State.setTot_setTot (s : State) (x y : Totalizer) : (s.setTot x).setTot y = s.setTot y := rfl

/-! ### setDem -/
@[simp] theorem State.setDem_store (s : State) (x : Demand) : (s.setDem x).store = s.store := rfl
@[simp] theorem State.setDem_clock (s : State) (x : Demand) : (s.setDem x).clock = s.clock := rfl
@[simp] theorem State.setDem_sub (s : State) (x : Demand) : (s.setDem x).sub = s.sub := rfl
@[simp] theorem State.setDem_due (s : State) (x : Demand) : (s.setDem x).due = s.due := rfl
@[simp] theorem State.setDem_chans (s : State) (x : Demand) : (s.setDem x).chans = s.chans := rfl
@[simp] theorem State.setDem_tot (s : State) (x : Demand) : (s.setDem x).tot = s.tot := rfl
@[simp] theorem State.setDem_dem (s : State) (x : Demand) : (s.setDem x).dem = x := rfl
@[simp] theorem State.setDem_per (s : State) (x : Demand) : (s.setDem x).per = s.per := rfl
@[simp] theorem State.setDem_log (s : State) (x : Demand) : (s.setDem x).log = s.log := rfl
@[simp] theorem State.setDem_lim (s : State) (x : Demand) : (s.setDem x).lim = s.lim := rfl
@[simp] theorem State.setDem_util (s : State) (x : Demand) : (s.setDem x).util = s.util := rfl
@[simp] theorem State.setDem_cust (s : State) (x : Demand) : (s.setDem x).cust = s.cust := rfl
@[simp] theorem State.setDem_sup (s : State) (x : Demand) : (s.setDem x).sup = s.sup := rfl
@[simp] theorem State.setDem_pins (s : State) (x : Demand) : (s.setDem x).pins = s.pins := rfl
@[simp] theorem State.setDem_pending (s : State) (x : Demand) : (s.setDem x).pending = s.pending := rfl
@[simp] theorem State.setDem_free (s : State) (x : Demand) : (s.setDem x).free = s.free := rfl
@[simp] theorem State.setDem_self (s : State) : s.setDem s.dem = s := rfl
@[simp] theorem State.setDem_setDem (s : State) (x y : Demand) : (s.setDem x).setDem y = s.setDem y := rfl

/-! ### setPer -/
@[simp] theorem State.setPer_store (s : State) (x : PeriodUnit) : (s.setPer x).store = s.store := rfl
@[simp] theorem State.setPer_clock (s : State) (x : PeriodUnit) : (s.setPer x).clock = s.clock := rfl
@[simp] theorem State.setPer_sub (s : State) (x : PeriodUnit) : (s.setPer x).sub = s.sub := rfl
@[simp] theorem State.setPer_due (s : State) (x : PeriodUnit) : (s.setPer x).due = s.due := rfl
@[simp] theorem State.setPer_chans (s : State) (x : PeriodUnit) : (s.setPer x).chans = s.chans := rfl
@[simp] theorem State.setPer_tot (s : State) (x : PeriodUnit) : (s.setPer x).tot = s.tot := rfl
@[simp] theorem State.setPer_dem (s : State) (x : PeriodUnit) : (s.setPer x).dem = s.dem := rfl
@[simp] theorem State.setPer_per (s : State) (x : PeriodUnit) : (s.setPer x).per = x := rfl
@[simp] theorem State.setPer_log (s : State) (x : PeriodUnit) : (s.setPer x).log = s.log := rfl
@[simp] theorem State.setPer_lim (s : State) (x : PeriodUnit) : (s.setPer x).lim = s.lim := rfl
@[simp] theorem State.setPer_util (s : State) (x : PeriodUnit) : (s.setPer x).util = s.util := rfl
@[simp] theorem State.setPer_cust (s : State) (x : PeriodUnit) : (s.setPer x).cust = s.cust := rfl
@[simp] theorem State.setPer_sup (s : State) (x : PeriodUnit) : (s.setPer x).sup = s.sup := rfl
@[simp] theorem State.setPer_pins (s : State) (x : PeriodUnit) : (s.setPer x).pins = s.pins := rfl
@[simp] theorem State.setPer_pending (s : State) (x : PeriodUnit) : (s.setPer x).pending = s.pending := rfl
@[simp] theorem State.setPer_free (s : State) (x : PeriodUnit) : (s.setPer x).free = s.free := rfl
@[simp] theorem State.setPer_self (s : State) : s.setPer s.per = s := rfl
@[simp] theorem State.setPer_setPer (s : State) (x y : PeriodUnit) : (s.setPer x).setPer y = s.setPer y := rfl

/-! ### setLog -/
@[simp] theorem State.setLog_store (s : State) (x : ProfileLog) : (s.setLog x).store = s.store := rfl
@[simp] theorem State.setLog_clock (s : State) (x : ProfileLog) : (s.setLog x).clock = s.clock := rfl
@[simp] theorem State.setLog_sub (s : State) (x : ProfileLog) : (s.setLog x).sub = s.sub := rfl
@[simp] theorem State.setLog_due (s : State) (x : ProfileLog) : (s.setLog x).due = s.due := rfl
@[simp] theorem State.setLog_chans (s : State) (x : ProfileLog) : (s.setLog x).chans = s.chans := rfl
@[simp] theorem State.setLog_tot (s : State) (x : ProfileLog) : (s.setLog x).tot = s.tot := rfl
@[simp] theorem State.setLog_dem (s : State) (x : ProfileLog) : (s.setLog x).dem = s.dem := rfl
@[simp] theorem State.setLog_per (s : State) (x : ProfileLog) : (s.setLog x).per = s.per := rfl
@[simp] theorem State.setLog_log (s : State) (x : ProfileLog) : (s.setLog x).log = x := rfl
@[simp] theorem State.setLog_lim (s : State) (x : ProfileLog) : (s.setLog x).lim = s.lim := rfl
@[simp] theorem State.setLog_util (s : State) (x : ProfileLog) : (s.setLog x).util = s.util := rfl
@[simp] theorem State.setLog_cust (s : State) (x : ProfileLog) : (s.setLog x).cust = s.cust := rfl
@[simp] theorem State.setLog_sup (s : State) (x : ProfileLog) : (s.setLog x).sup = s.sup := rfl
@[simp] theorem State.setLog_pins (s : State) (x : ProfileLog) : (s.setLog x).pins = s.pins := rfl
@[simp] theorem State.setLog_pending (s : State) (x : ProfileLog) : (s.setLog x).pending = s.pending := rfl
@[simp] theorem State.setLog_free (s : State) (x : ProfileLog) : (s.setLog x).free = s.free := rfl
@[simp] theorem State.setLog_self (s : State) : s.setLog s.log = s := rfl
@[simp] theorem State.setLog_setLog (s : State) (x y : ProfileLog) : (s.setLog x).setLog y = s.setLog y := rfl

/-! ### setLim -/
@[simp] theorem State.setLim_store (s : State) (x : Monitor) : (s.setLim x).store = s.store := rfl
@[simp] theorem State.setLim_clock (s : State) (x : Monitor) : (s.setLim x).clock = s.clock := rfl
@[simp] theorem State.setLim_sub (s : State) (x : Monitor) : (s.setLim x).sub = s.sub := rfl
@[simp] theorem State.setLim_due (s : State) (x : Monitor) : (s.setLim x).due = s.due := rfl
@[simp] theorem State.setLim_chans (s : State) (x : Monitor) : (s.setLim x).chans = s.chans := rfl
@[simp] theorem State.setLim_tot (s : State) (x : Monitor) : (s.setLim x).tot = s.tot := rfl
@[simp] theorem State.setLim_dem (s : State) (x : Monitor) : (s.setLim x).dem = s.dem := rfl
@[simp] theorem State.setLim_per (s : State) (x : Monitor) : (s.setLim x).per = s.per := rfl
@[simp] theorem State.setLim_log (s : State) (x : Monitor) : (s.setLim x).log = s.log := rfl
@[simp] theorem State.setLim_lim (s : State) (x : Monitor) : (s.setLim x).lim = x := rfl
@[simp] theorem State.setLim_util (s : State) (x : Monitor) : (s.setLim x).util = s.util := rfl
@[simp] theorem State.setLim_cust (s : State) (x : Monitor) : (s.setLim x).cust = s.cust := rfl
@[simp] theorem State.setLim_sup (s : State) (x : Monitor) : (s.setLim x).sup = s.sup := rfl
@[simp] theorem State.setLim_pins (s : State) (x : Monitor) : (s.setLim x).pins = s.pins := rfl
@[simp] theorem State.setLim_pending (s : State) (x : Monitor) : (s.setLim x).pending = s.pending := rfl
@[simp] theorem State.setLim_free (s : State) (x : Monitor) : (s.setLim x).free = s.free := rfl
@[simp] theorem State.setLim_self (s : State) : s.setLim s.lim = s := rfl
@[simp] theorem State.setLim_setLim (s : State) (x y : Monitor) : (s.setLim x).setLim y = s.setLim y := rfl

/-! ### setUtil -/
@[simp] theorem State.setUtil_store (s : State) (x : PortState) : (s.setUtil x).store = s.store := rfl
@[simp] theorem State.setUtil_clock (s : State) (x : PortState) : (s.setUtil x).clock = s.clock := rfl
@[simp] theorem State.setUtil_sub (s : State) (x : PortState) : (s.setUtil x).sub = s.sub := rfl
@[simp] theorem State.setUtil_due (s : State) (x : PortState) : (s.setUtil x).due = s.due := rfl
@[simp] theorem State.setUtil_chans (s : State) (x : PortState) : (s.setUtil x).chans = s.chans := rfl
@[simp] theorem State.setUtil_tot (s : State) (x : PortState) : (s.setUtil x).tot = s.tot := rfl
@[simp] theorem State.setUtil_dem (s : State) (x : PortState) : (s.setUtil x).dem = s.dem := rfl
@[simp] theorem State.setUtil_per (s : State) (x : PortState) : (s.setUtil x).per = s.per := rfl
@[simp] theorem State.setUtil_log (s : State) (x : PortState) : (s.setUtil x).log = s.log := rfl
@[simp] theorem State.setUtil_lim (s : State) (x : PortState) : (s.setUtil x).lim = s.lim := rfl
@[simp] theorem State.setUtil_util (s : State) (x : PortState) : (s.setUtil x).util = x := rfl
@[simp] theorem State.setUtil_cust (s : State) (x : PortState) : (s.setUtil x).cust = s.cust := rfl
@[simp] theorem State.setUtil_sup (s : State) (x : PortState) : (s.setUtil x).sup = s.sup := rfl
@[simp] theorem State.setUtil_pins (s : State) (x : PortState) : (s.setUtil x).pins = s.pins := rfl
@[simp] theorem State.setUtil_pending (s : State) (x : PortState) : (s.setUtil x).pending = s.pending := rfl
@[simp] theorem State.setUtil_free (s : State) (x : PortState) : (s.setUtil x).free = s.free := rfl
@[simp] theorem State.setUtil_self (s : State) : s.setUtil s.util = s := rfl
@[simp] theorem State.setUtil_setUtil (s : State) (x y : PortState) : (s.setUtil x).setUtil y = s.setUtil y := rfl

/-! ### setCust -/
@[simp] theorem State.setCust_store (s : State) (x : PortState) : (s.setCust x).store = s.store := rfl
@[simp] theorem State.setCust_clock (s : State) (x : PortState) : (s.setCust x).clock = s.clock := rfl
@[simp] theorem State.setCust_sub (s : State) (x : PortState) : (s.setCust x).sub = s.sub := rfl
@[simp] theorem State.setCust_due (s : State) (x : PortState) : (s.setCust x).due = s.due := rfl
@[simp] theorem State.setCust_chans (s : State) (x : PortState) : (s.setCust x).chans = s.chans := rfl
@[simp] theorem State.setCust_tot (s : State) (x : PortState) : (s.setCust x).tot = s.tot := rfl
@[simp] theorem State.setCust_dem (s : State) (x : PortState) : (s.setCust x).dem = s.dem := rfl
@[simp] theorem State.setCust_per (s : State) (x : PortState) : (s.setCust x).per = s.per := rfl
@[simp] theorem State.setCust_log (s : State) (x : PortState) : (s.setCust x).log = s.log := rfl
@[simp] theorem State.setCust_lim (s : State) (x : PortState) : (s.setCust x).lim = s.lim := rfl
@[simp] theorem State.setCust_util (s : State) (x : PortState) : (s.setCust x).util = s.util := rfl
@[simp] theorem State.setCust_cust (s : State) (x : PortState) : (s.setCust x).cust = x := rfl
@[simp] theorem State.setCust_sup (s : State) (x : PortState) : (s.setCust x).sup = s.sup := rfl
@[simp] theorem State.setCust_pins (s : State) (x : PortState) : (s.setCust x).pins = s.pins := rfl
@[simp] theorem State.setCust_pending (s : State) (x : PortState) : (s.setCust x).pending = s.pending := rfl
@[simp] theorem State.setCust_free (s : State) (x : PortState) : (s.setCust x).free = s.free := rfl
@[simp] theorem State.setCust_self (s : State) : s.setCust s.cust = s := rfl
@[simp] theorem State.setCust_setCust (s : State) (x y : PortState) : (s.setCust x).setCust y = s.setCust y := rfl

/-! ### setSup -/
@[simp] theorem State.setSup_store (s : State) (x : Supply) : (s.setSup x).store = s.store := rfl
@[simp] theorem State.setSup_clock (s : State) (x : Supply) : (s.setSup x).clock = s.clock := rfl
@[simp] theorem State.setSup_sub (s : State) (x : Supply) : (s.setSup x).sub = s.sub := rfl
@[simp] theorem State.setSup_due (s : State) (x : Supply) : (s.setSup x).due = s.due := rfl
@[simp] theorem State.setSup_chans (s : State) (x : Supply) : (s.setSup x).chans = s.chans := rfl
@[simp] theorem State.setSup_tot (s : State) (x : Supply) : (s.setSup x).tot = s.tot := rfl
@[simp] theorem State.setSup_dem (s : State) (x : Supply) : (s.setSup x).dem = s.dem := rfl
@[simp] theorem State.setSup_per (s : State) (x : Supply) : (s.setSup x).per = s.per := rfl
@[simp] theorem State.setSup_log (s : State) (x : Supply) : (s.setSup x).log = s.log := rfl
@[simp] theorem State.setSup_lim (s : State) (x : Supply) : (s.setSup x).lim = s.lim := rfl
@[simp] theorem State.setSup_util (s : State) (x : Supply) : (s.setSup x).util = s.util := rfl
@[simp] theorem State.setSup_cust (s : State) (x : Supply) : (s.setSup x).cust = s.cust := rfl
@[simp] theorem State.setSup_sup (s : State) (x : Supply) : (s.setSup x).sup = x := rfl
@[simp] theorem State.setSup_pins (s : State) (x : Supply) : (s.setSup x).pins = s.pins := rfl
@[simp] theorem State.setSup_pending (s : State) (x : Supply) : (s.setSup x).pending = s.pending := rfl
@[simp] theorem State.setSup_free (s : State) (x : Supply) : (s.setSup x).free = s.free := rfl
@[simp] theorem State.setSup_self (s : State) : s.setSup s.sup = s := rfl
@[simp] theorem State.setSup_setSup (s : State) (x y : Supply) : (s.setSup x).setSup y = s.setSup y := rfl

/-! ### setPins -/
@[simp] theorem State.setPins_store (s : State) (x : Pins) : (s.setPins x).store = s.store := rfl
@[simp] theorem State.setPins_clock (s : State) (x : Pins) : (s.setPins x).clock = s.clock := rfl
@[simp] theorem State.setPins_sub (s : State) (x : Pins) : (s.setPins x).sub = s.sub := rfl
@[simp] theorem State.setPins_due (s : State) (x : Pins) : (s.setPins x).due = s.due := rfl
@[simp] theorem State.setPins_chans (s : State) (x : Pins) : (s.setPins x).chans = s.chans := rfl
@[simp] theorem State.setPins_tot (s : State) (x : Pins) : (s.setPins x).tot = s.tot := rfl
@[simp] theorem State.setPins_dem (s : State) (x : Pins) : (s.setPins x).dem = s.dem := rfl
@[simp] theorem State.setPins_per (s : State) (x : Pins) : (s.setPins x).per = s.per := rfl
@[simp] theorem State.setPins_log (s : State) (x : Pins) : (s.setPins x).log = s.log := rfl
@[simp] theorem State.setPins_lim (s : State) (x : Pins) : (s.setPins x).lim = s.lim := rfl
@[simp] theorem State.setPins_util (s : State) (x : Pins) : (s.setPins x).util = s.util := rfl
@[simp] theorem State.setPins_cust (s : State) (x : Pins) : (s.setPins x).cust = s.cust := rfl
@[simp] theorem State.setPins_sup (s : State) (x : Pins) : (s.setPins x).sup = s.sup := rfl
@[simp] theorem State.setPins_pins (s : State) (x : Pins) : (s.setPins x).pins = x := rfl
@[simp] theorem State.setPins_pending (s : State) (x : Pins) : (s.setPins x).pending = s.pending := rfl
@[simp] theorem State.setPins_free (s : State) (x : Pins) : (s.setPins x).free = s.free := rfl
@[simp] theorem State.setPins_self (s : State) : s.setPins s.pins = s := rfl
@[simp] theorem State.setPins_setPins (s : State) (x y : Pins) : (s.setPins x).setPins y = s.setPins y := rfl

/-! ### setPending -/
@[simp] theorem State.setPending_store (s : State) (x : List Instr) : (s.setPending x).store = s.store := rfl
@[simp] theorem State.setPending_clock (s : State) (x : List Instr) : (s.setPending x).clock = s.clock := rfl
@[simp] theorem State.setPending_sub (s : State) (x : List Instr) : (s.setPending x).sub = s.sub := rfl
@[simp] theorem State.setPending_due (s : State) (x : List Instr) : (s.setPending x).due = s.due := rfl
@[simp] theorem State.setPending_chans (s : State) (x : List Instr) : (s.setPending x).chans = s.chans := rfl
@[simp] theorem State.setPending_tot (s : State) (x : List Instr) : (s.setPending x).tot = s.tot := rfl
@[simp] theorem State.setPending_dem (s : State) (x : List Instr) : (s.setPending x).dem = s.dem := rfl
@[simp] theorem State.setPending_per (s : State) (x : List Instr) : (s.setPending x).per = s.per := rfl
@[simp] theorem State.setPending_log (s : State) (x : List Instr) : (s.setPending x).log = s.log := rfl
@[simp] theorem State.setPending_lim (s : State) (x : List Instr) : (s.setPending x).lim = s.lim := rfl
@[simp] theorem State.setPending_util (s : State) (x : List Instr) : (s.setPending x).util = s.util := rfl
@[simp] theorem State.setPending_cust (s : State) (x : List Instr) : (s.setPending x).cust = s.cust := rfl
@[simp] theorem State.setPending_sup (s : State) (x : List Instr) : (s.setPending x).sup = s.sup := rfl
@[simp] theorem State.setPending_pins (s : State) (x : List Instr) : (s.setPending x).pins = s.pins := rfl
@[simp] theorem State.setPending_pending (s : State) (x : List Instr) : (s.setPending x).pending = x := rfl
@[simp] theorem State.setPending_free (s : State) (x : List Instr) : (s.setPending x).free = s.free := rfl
@[simp] theorem State.setPending_self (s : State) : s.setPending s.pending = s := rfl
@[simp] theorem State.setPending_setPending (s : State) (x y : List Instr) : (s.setPending x).setPending y = s.setPending y := rfl

/-! ### setFree -/
@[simp] theorem State.setFree_store (s : State) (x : Nat) : (s.setFree x).store = s.store := rfl
@[simp] theorem State.setFree_clock (s : State) (x : Nat) : (s.setFree x).clock = s.clock := rfl
@[simp] theorem State.setFree_sub (s : State) (x : Nat) : (s.setFree x).sub = s.sub := rfl
@[simp] theorem State.setFree_due (s : State) (x : Nat) : (s.setFree x).due = s.due := rfl
@[simp] theorem State.setFree_chans (s : State) (x : Nat) : (s.setFree x).chans = s.chans := rfl
@[simp] theorem State.setFree_tot (s : State) (x : Nat) : (s.setFree x).tot = s.tot := rfl
@[simp] theorem State.setFree_dem (s : State) (x : Nat) : (s.setFree x).dem = s.dem := rfl
@[simp] theorem State.setFree_per (s : State) (x : Nat) : (s.setFree x).per = s.per := rfl
@[simp] theorem State.setFree_log (s : State) (x : Nat) : (s.setFree x).log = s.log := rfl
@[simp] theorem State.setFree_lim (s : State) (x : Nat) : (s.setFree x).lim = s.lim := rfl
@[simp] theorem State.setFree_util (s : State) (x : Nat) : (s.setFree x).util = s.util := rfl
@[simp] theorem State.setFree_cust (s : State) (x : Nat) : (s.setFree x).cust = s.cust := rfl
@[simp] theorem State.setFree_sup (s : State) (x : Nat) : (s.setFree x).sup = s.sup := rfl
@[simp] theorem State.setFree_pins (s : State) (x : Nat) : (s.setFree x).pins = s.pins := rfl
@[simp] theorem State.setFree_pending (s : State) (x : Nat) : (s.setFree x).pending = s.pending := rfl
@[simp] theorem State.setFree_free (s : State) (x : Nat) : (s.setFree x).free = x := rfl
@[simp] theorem State.setFree_self (s : State) : s.setFree s.free = s := rfl
@[simp] theorem State.setFree_setFree (s : State) (x y : Nat) : (s.setFree x).setFree y = s.setFree y := rfl

/-! ### Ports -/
@[simp] theorem State.setPort_store (s : State) (p : Port) (x : PortState) : (s.setPort p x).store = s.store := by cases p <;> rfl
@[simp] theorem State.setPort_clock (s : State) (p : Port) (x : PortState) : (s.setPort p x).clock = s.clock := by cases p <;> rfl
@[simp] theorem State.setPort_sub (s : State) (p : Port) (x : PortState) : (s.setPort p x).sub = s.sub := by cases p <;> rfl
@[simp] theorem State.setPort_due (s : State) (p : Port) (x : PortState) : (s.setPort p x).due = s.due := by cases p <;> rfl
@[simp] theorem State.setPort_chans (s : State) (p : Port) (x : PortState) : (s.setPort p x).chans = s.chans := by cases p <;> rfl
@[simp] theorem State.setPort_tot (s : State) (p : Port) (x : PortState) : (s.setPort p x).tot = s.tot := by cases p <;> rfl
@[simp] theorem State.setPort_dem (s : State) (p : Port) (x : PortState) : (s.setPort p x).dem = s.dem := by cases p <;> rfl
@[simp] theorem State.setPort_per (s : State) (p : Port) (x : PortState) : (s.setPort p x).per = s.per := by cases p <;> rfl
@[simp] theorem State.setPort_log (s : State) (p : Port) (x : PortState) : (s.setPort p x).log = s.log := by cases p <;> rfl
@[simp] theorem State.setPort_lim (s : State) (p : Port) (x : PortState) : (s.setPort p x).lim = s.lim := by cases p <;> rfl
@[simp] theorem State.setPort_sup (s : State) (p : Port) (x : PortState) : (s.setPort p x).sup = s.sup := by cases p <;> rfl
@[simp] theorem State.setPort_pins (s : State) (p : Port) (x : PortState) : (s.setPort p x).pins = s.pins := by cases p <;> rfl
@[simp] theorem State.setPort_pending (s : State) (p : Port) (x : PortState) : (s.setPort p x).pending = s.pending := by cases p <;> rfl
@[simp] theorem State.setPort_free (s : State) (p : Port) (x : PortState) : (s.setPort p x).free = s.free := by cases p <;> rfl
@[simp] theorem State.setPort_port (s : State) (p : Port) (x : PortState) : (s.setPort p x).port p = x := by cases p <;> rfl
@[simp] theorem State.setPort_setPort (s : State) (p : Port) (x y : PortState) : (s.setPort p x).setPort p y = s.setPort p y := by
  cases p <;> rfl
@[simp] theorem State.setPort_self (s : State) (p : Port) : s.setPort p (s.port p) = s := by cases p <;> rfl
/-- The other port's state is not changed by a change of one (R159). -/
theorem State.setPort_port_other (s : State) {p q : Port} (x : PortState) (h : q ≠ p) : (s.setPort p x).port q = s.port q := by
  cases p <;> cases q <;> first | rfl | exact absurd rfl h
@[simp] theorem State.port_utility (s : State) : s.port .utility = s.util := rfl
@[simp] theorem State.port_customer (s : State) : s.port .customer = s.cust := rfl
@[simp] theorem State.setPort_utility (s : State) (x : PortState) : s.setPort .utility x = s.setUtil x := rfl
@[simp] theorem State.setPort_customer (s : State) (x : PortState) : s.setPort .customer x = s.setCust x := rfl

@[simp] theorem State.setStore_port (s : State) (x : Store) (p : Port) : (s.setStore x).port p = s.port p := by cases p <;> rfl
@[simp] theorem State.setClock_port (s : State) (x : Clock) (p : Port) : (s.setClock x).port p = s.port p := by cases p <;> rfl
@[simp] theorem State.setSub_port (s : State) (x : OpenSub) (p : Port) : (s.setSub x).port p = s.port p := by cases p <;> rfl
@[simp] theorem State.setDue_port (s : State) (x : Due) (p : Port) : (s.setDue x).port p = s.port p := by cases p <;> rfl
@[simp] theorem State.setChans_port (s : State) (x : PerFour Channel) (p : Port) : (s.setChans x).port p = s.port p := by cases p <;> rfl
@[simp] theorem State.setTot_port (s : State) (x : Totalizer) (p : Port) : (s.setTot x).port p = s.port p := by cases p <;> rfl
@[simp] theorem State.setDem_port (s : State) (x : Demand) (p : Port) : (s.setDem x).port p = s.port p := by cases p <;> rfl
@[simp] theorem State.setPer_port (s : State) (x : PeriodUnit) (p : Port) : (s.setPer x).port p = s.port p := by cases p <;> rfl
@[simp] theorem State.setLog_port (s : State) (x : ProfileLog) (p : Port) : (s.setLog x).port p = s.port p := by cases p <;> rfl
@[simp] theorem State.setLim_port (s : State) (x : Monitor) (p : Port) : (s.setLim x).port p = s.port p := by cases p <;> rfl
@[simp] theorem State.setSup_port (s : State) (x : Supply) (p : Port) : (s.setSup x).port p = s.port p := by cases p <;> rfl
@[simp] theorem State.setPins_port (s : State) (x : Pins) (p : Port) : (s.setPins x).port p = s.port p := by cases p <;> rfl
@[simp] theorem State.setPending_port (s : State) (x : List Instr) (p : Port) : (s.setPending x).port p = s.port p := by cases p <;> rfl
@[simp] theorem State.setFree_port (s : State) (x : Nat) (p : Port) : (s.setFree x).port p = s.port p := by cases p <;> rfl

/-! ### The other shared updates -/
@[simp] theorem State.setConfig_config (s : State) (c : Config) : (s.setConfig c).store.config = c := rfl
@[simp] theorem State.setConfig_store (s : State) (c : Config) : (s.setConfig c).store = { s.store with config := c } := rfl
@[simp] theorem State.markSub_sub (s : State) (f : StatusFlag) : (s.markSub f).sub = { s.sub with status := s.sub.status.mark f } := rfl
@[simp] theorem State.setChan_chans (s : State) (c : Fin 4) (x : Channel) : (s.setChan c x).chans = s.chans.set c x := rfl

@[simp] theorem State.markSub_store (s : State) (f : StatusFlag) : (s.markSub f).store = s.store := rfl
@[simp] theorem State.setChan_store (s : State) (c : Fin 4) (x : Channel) : (s.setChan c x).store = s.store := rfl
@[simp] theorem State.setConfig_clock (s : State) (c : Config) : (s.setConfig c).clock = s.clock := rfl
@[simp] theorem State.markSub_clock (s : State) (f : StatusFlag) : (s.markSub f).clock = s.clock := rfl
@[simp] theorem State.setChan_clock (s : State) (c : Fin 4) (x : Channel) : (s.setChan c x).clock = s.clock := rfl
@[simp] theorem State.setConfig_sub (s : State) (c : Config) : (s.setConfig c).sub = s.sub := rfl
@[simp] theorem State.setChan_sub (s : State) (c : Fin 4) (x : Channel) : (s.setChan c x).sub = s.sub := rfl
@[simp] theorem State.setConfig_due (s : State) (c : Config) : (s.setConfig c).due = s.due := rfl
@[simp] theorem State.markSub_due (s : State) (f : StatusFlag) : (s.markSub f).due = s.due := rfl
@[simp] theorem State.setChan_due (s : State) (c : Fin 4) (x : Channel) : (s.setChan c x).due = s.due := rfl
@[simp] theorem State.setConfig_chans (s : State) (c : Config) : (s.setConfig c).chans = s.chans := rfl
@[simp] theorem State.markSub_chans (s : State) (f : StatusFlag) : (s.markSub f).chans = s.chans := rfl
@[simp] theorem State.setConfig_tot (s : State) (c : Config) : (s.setConfig c).tot = s.tot := rfl
@[simp] theorem State.markSub_tot (s : State) (f : StatusFlag) : (s.markSub f).tot = s.tot := rfl
@[simp] theorem State.setChan_tot (s : State) (c : Fin 4) (x : Channel) : (s.setChan c x).tot = s.tot := rfl
@[simp] theorem State.setConfig_dem (s : State) (c : Config) : (s.setConfig c).dem = s.dem := rfl
@[simp] theorem State.markSub_dem (s : State) (f : StatusFlag) : (s.markSub f).dem = s.dem := rfl
@[simp] theorem State.setChan_dem (s : State) (c : Fin 4) (x : Channel) : (s.setChan c x).dem = s.dem := rfl
@[simp] theorem State.setConfig_per (s : State) (c : Config) : (s.setConfig c).per = s.per := rfl
@[simp] theorem State.markSub_per (s : State) (f : StatusFlag) : (s.markSub f).per = s.per := rfl
@[simp] theorem State.setChan_per (s : State) (c : Fin 4) (x : Channel) : (s.setChan c x).per = s.per := rfl
@[simp] theorem State.setConfig_log (s : State) (c : Config) : (s.setConfig c).log = s.log := rfl
@[simp] theorem State.markSub_log (s : State) (f : StatusFlag) : (s.markSub f).log = s.log := rfl
@[simp] theorem State.setChan_log (s : State) (c : Fin 4) (x : Channel) : (s.setChan c x).log = s.log := rfl
@[simp] theorem State.setConfig_lim (s : State) (c : Config) : (s.setConfig c).lim = s.lim := rfl
@[simp] theorem State.markSub_lim (s : State) (f : StatusFlag) : (s.markSub f).lim = s.lim := rfl
@[simp] theorem State.setChan_lim (s : State) (c : Fin 4) (x : Channel) : (s.setChan c x).lim = s.lim := rfl
@[simp] theorem State.setConfig_util (s : State) (c : Config) : (s.setConfig c).util = s.util := rfl
@[simp] theorem State.markSub_util (s : State) (f : StatusFlag) : (s.markSub f).util = s.util := rfl
@[simp] theorem State.setChan_util (s : State) (c : Fin 4) (x : Channel) : (s.setChan c x).util = s.util := rfl
@[simp] theorem State.setConfig_cust (s : State) (c : Config) : (s.setConfig c).cust = s.cust := rfl
@[simp] theorem State.markSub_cust (s : State) (f : StatusFlag) : (s.markSub f).cust = s.cust := rfl
@[simp] theorem State.setChan_cust (s : State) (c : Fin 4) (x : Channel) : (s.setChan c x).cust = s.cust := rfl
@[simp] theorem State.setConfig_sup (s : State) (c : Config) : (s.setConfig c).sup = s.sup := rfl
@[simp] theorem State.markSub_sup (s : State) (f : StatusFlag) : (s.markSub f).sup = s.sup := rfl
@[simp] theorem State.setChan_sup (s : State) (c : Fin 4) (x : Channel) : (s.setChan c x).sup = s.sup := rfl
@[simp] theorem State.setConfig_pins (s : State) (c : Config) : (s.setConfig c).pins = s.pins := rfl
@[simp] theorem State.markSub_pins (s : State) (f : StatusFlag) : (s.markSub f).pins = s.pins := rfl
@[simp] theorem State.setChan_pins (s : State) (c : Fin 4) (x : Channel) : (s.setChan c x).pins = s.pins := rfl
@[simp] theorem State.setConfig_pending (s : State) (c : Config) : (s.setConfig c).pending = s.pending := rfl
@[simp] theorem State.setConfig_free (s : State) (c : Config) : (s.setConfig c).free = s.free := rfl
@[simp] theorem State.markSub_pending (s : State) (f : StatusFlag) : (s.markSub f).pending = s.pending := rfl
@[simp] theorem State.markSub_free (s : State) (f : StatusFlag) : (s.markSub f).free = s.free := rfl
@[simp] theorem State.setChan_pending (s : State) (c : Fin 4) (x : Channel) : (s.setChan c x).pending = s.pending := rfl
@[simp] theorem State.setChan_free (s : State) (c : Fin 4) (x : Channel) : (s.setChan c x).free = s.free := rfl

/-- Two states are equal when every field is. -/
theorem State.ext_fields {s t : State} (h0 : s.store = t.store) (h1 : s.clock = t.clock) (h2 : s.sub = t.sub) (h3 : s.due = t.due) (h4 : s.chans = t.chans) (h5 : s.tot = t.tot) (h6 : s.dem = t.dem) (h7 : s.per = t.per) (h8 : s.log = t.log) (h9 : s.lim = t.lim) (h10 : s.util = t.util) (h11 : s.cust = t.cust) (h12 : s.sup = t.sup) (h13 : s.pins = t.pins) (h14 : s.pending = t.pending) (h15 : s.free = t.free) : s = t := by
  cases s; cases t; simp_all

end Sys2Proof.Machine
end

