-- ==== Sys2Proof/Laws/FramesBlocks.lean ====
section
/-! SUPPORT. Frames: for each operation of the blocks, one lemma for each part of the state that it leaves as it was. -/

set_option linter.all false

namespace Sys2Proof.Machine

/-! ### State.raiseOn -/
@[simp] theorem State.raiseOn_store (s : State) (p : Port) (f : AttnFlag) : (State.raiseOn s p f).store = s.store := by unfold State.raiseOn; first | with_reducible rfl | ((try dsimp only); (repeat' split) <;> simp)
@[simp] theorem State.raiseOn_clock (s : State) (p : Port) (f : AttnFlag) : (State.raiseOn s p f).clock = s.clock := by unfold State.raiseOn; first | with_reducible rfl | ((try dsimp only); (repeat' split) <;> simp)
@[simp] theorem State.raiseOn_sub (s : State) (p : Port) (f : AttnFlag) : (State.raiseOn s p f).sub = s.sub := by unfold State.raiseOn; first | with_reducible rfl | ((try dsimp only); (repeat' split) <;> simp)
@[simp] theorem State.raiseOn_due (s : State) (p : Port) (f : AttnFlag) : (State.raiseOn s p f).due = s.due := by unfold State.raiseOn; first | with_reducible rfl | ((try dsimp only); (repeat' split) <;> simp)
@[simp] theorem State.raiseOn_chans (s : State) (p : Port) (f : AttnFlag) : (State.raiseOn s p f).chans = s.chans := by unfold State.raiseOn; first | with_reducible rfl | ((try dsimp only); (repeat' split) <;> simp)
@[simp] theorem State.raiseOn_tot (s : State) (p : Port) (f : AttnFlag) : (State.raiseOn s p f).tot = s.tot := by unfold State.raiseOn; first | with_reducible rfl | ((try dsimp only); (repeat' split) <;> simp)
@[simp] theorem State.raiseOn_dem (s : State) (p : Port) (f : AttnFlag) : (State.raiseOn s p f).dem = s.dem := by unfold State.raiseOn; first | with_reducible rfl | ((try dsimp only); (repeat' split) <;> simp)
@[simp] theorem State.raiseOn_per (s : State) (p : Port) (f : AttnFlag) : (State.raiseOn s p f).per = s.per := by unfold State.raiseOn; first | with_reducible rfl | ((try dsimp only); (repeat' split) <;> simp)
@[simp] theorem State.raiseOn_log (s : State) (p : Port) (f : AttnFlag) : (State.raiseOn s p f).log = s.log := by unfold State.raiseOn; first | with_reducible rfl | ((try dsimp only); (repeat' split) <;> simp)
@[simp] theorem State.raiseOn_lim (s : State) (p : Port) (f : AttnFlag) : (State.raiseOn s p f).lim = s.lim := by unfold State.raiseOn; first | with_reducible rfl | ((try dsimp only); (repeat' split) <;> simp)
@[simp] theorem State.raiseOn_sup (s : State) (p : Port) (f : AttnFlag) : (State.raiseOn s p f).sup = s.sup := by unfold State.raiseOn; first | with_reducible rfl | ((try dsimp only); (repeat' split) <;> simp)
@[simp] theorem State.raiseOn_pins (s : State) (p : Port) (f : AttnFlag) : (State.raiseOn s p f).pins = s.pins := by unfold State.raiseOn; first | with_reducible rfl | ((try dsimp only); (repeat' split) <;> simp)
@[simp] theorem State.raiseOn_pending (s : State) (p : Port) (f : AttnFlag) : (State.raiseOn s p f).pending = s.pending := by unfold State.raiseOn; first | with_reducible rfl | ((try dsimp only); (repeat' split) <;> simp)
@[simp] theorem State.raiseOn_free (s : State) (p : Port) (f : AttnFlag) : (State.raiseOn s p f).free = s.free := by unfold State.raiseOn; first | with_reducible rfl | ((try dsimp only); (repeat' split) <;> simp)
/-! ### State.raise -/
@[simp] theorem State.raise_store (s : State) (f : AttnFlag) : (State.raise s f).store = s.store := by unfold State.raise; first | with_reducible rfl | ((try dsimp only); (repeat' split) <;> simp)
@[simp] theorem State.raise_clock (s : State) (f : AttnFlag) : (State.raise s f).clock = s.clock := by unfold State.raise; first | with_reducible rfl | ((try dsimp only); (repeat' split) <;> simp)
@[simp] theorem State.raise_sub (s : State) (f : AttnFlag) : (State.raise s f).sub = s.sub := by unfold State.raise; first | with_reducible rfl | ((try dsimp only); (repeat' split) <;> simp)
@[simp] theorem State.raise_due (s : State) (f : AttnFlag) : (State.raise s f).due = s.due := by unfold State.raise; first | with_reducible rfl | ((try dsimp only); (repeat' split) <;> simp)
@[simp] theorem State.raise_chans (s : State) (f : AttnFlag) : (State.raise s f).chans = s.chans := by unfold State.raise; first | with_reducible rfl | ((try dsimp only); (repeat' split) <;> simp)
@[simp] theorem State.raise_tot (s : State) (f : AttnFlag) : (State.raise s f).tot = s.tot := by unfold State.raise; first | with_reducible rfl | ((try dsimp only); (repeat' split) <;> simp)
@[simp] theorem State.raise_dem (s : State) (f : AttnFlag) : (State.raise s f).dem = s.dem := by unfold State.raise; first | with_reducible rfl | ((try dsimp only); (repeat' split) <;> simp)
@[simp] theorem State.raise_per (s : State) (f : AttnFlag) : (State.raise s f).per = s.per := by unfold State.raise; first | with_reducible rfl | ((try dsimp only); (repeat' split) <;> simp)
@[simp] theorem State.raise_log (s : State) (f : AttnFlag) : (State.raise s f).log = s.log := by unfold State.raise; first | with_reducible rfl | ((try dsimp only); (repeat' split) <;> simp)
@[simp] theorem State.raise_lim (s : State) (f : AttnFlag) : (State.raise s f).lim = s.lim := by unfold State.raise; first | with_reducible rfl | ((try dsimp only); (repeat' split) <;> simp)
@[simp] theorem State.raise_sup (s : State) (f : AttnFlag) : (State.raise s f).sup = s.sup := by unfold State.raise; first | with_reducible rfl | ((try dsimp only); (repeat' split) <;> simp)
@[simp] theorem State.raise_pins (s : State) (f : AttnFlag) : (State.raise s f).pins = s.pins := by unfold State.raise; first | with_reducible rfl | ((try dsimp only); (repeat' split) <;> simp)
@[simp] theorem State.raise_pending (s : State) (f : AttnFlag) : (State.raise s f).pending = s.pending := by unfold State.raise; first | with_reducible rfl | ((try dsimp only); (repeat' split) <;> simp)
@[simp] theorem State.raise_free (s : State) (f : AttnFlag) : (State.raise s f).free = s.free := by unfold State.raise; first | with_reducible rfl | ((try dsimp only); (repeat' split) <;> simp)

/-! ### refreshDayType -/
@[simp] theorem refreshDayType_store (s : State) : (refreshDayType s).store = s.store := by unfold refreshDayType; first | with_reducible rfl | ((try dsimp only); (repeat' split) <;> simp)
@[simp] theorem refreshDayType_sub (s : State) : (refreshDayType s).sub = s.sub := by unfold refreshDayType; first | with_reducible rfl | ((try dsimp only); (repeat' split) <;> simp)
@[simp] theorem refreshDayType_due (s : State) : (refreshDayType s).due = s.due := by unfold refreshDayType; first | with_reducible rfl | ((try dsimp only); (repeat' split) <;> simp)
@[simp] theorem refreshDayType_chans (s : State) : (refreshDayType s).chans = s.chans := by unfold refreshDayType; first | with_reducible rfl | ((try dsimp only); (repeat' split) <;> simp)
@[simp] theorem refreshDayType_tot (s : State) : (refreshDayType s).tot = s.tot := by unfold refreshDayType; first | with_reducible rfl | ((try dsimp only); (repeat' split) <;> simp)
@[simp] theorem refreshDayType_dem (s : State) : (refreshDayType s).dem = s.dem := by unfold refreshDayType; first | with_reducible rfl | ((try dsimp only); (repeat' split) <;> simp)
@[simp] theorem refreshDayType_per (s : State) : (refreshDayType s).per = s.per := by unfold refreshDayType; first | with_reducible rfl | ((try dsimp only); (repeat' split) <;> simp)
@[simp] theorem refreshDayType_log (s : State) : (refreshDayType s).log = s.log := by unfold refreshDayType; first | with_reducible rfl | ((try dsimp only); (repeat' split) <;> simp)
@[simp] theorem refreshDayType_lim (s : State) : (refreshDayType s).lim = s.lim := by unfold refreshDayType; first | with_reducible rfl | ((try dsimp only); (repeat' split) <;> simp)
@[simp] theorem refreshDayType_util (s : State) : (refreshDayType s).util = s.util := by unfold refreshDayType; first | with_reducible rfl | ((try dsimp only); (repeat' split) <;> simp)
@[simp] theorem refreshDayType_cust (s : State) : (refreshDayType s).cust = s.cust := by unfold refreshDayType; first | with_reducible rfl | ((try dsimp only); (repeat' split) <;> simp)
@[simp] theorem refreshDayType_sup (s : State) : (refreshDayType s).sup = s.sup := by unfold refreshDayType; first | with_reducible rfl | ((try dsimp only); (repeat' split) <;> simp)
@[simp] theorem refreshDayType_pins (s : State) : (refreshDayType s).pins = s.pins := by unfold refreshDayType; first | with_reducible rfl | ((try dsimp only); (repeat' split) <;> simp)
@[simp] theorem refreshDayType_pending (s : State) : (refreshDayType s).pending = s.pending := by unfold refreshDayType; first | with_reducible rfl | ((try dsimp only); (repeat' split) <;> simp)
@[simp] theorem refreshDayType_free (s : State) : (refreshDayType s).free = s.free := by unfold refreshDayType; first | with_reducible rfl | ((try dsimp only); (repeat' split) <;> simp)
@[simp] theorem refreshDayType_clock_now (s : State) : (refreshDayType s).clock.now = s.clock.now := by unfold refreshDayType; first | with_reducible rfl | ((try dsimp only); (repeat' split) <;> simp)
@[simp] theorem refreshDayType_clock_timeValid (s : State) : (refreshDayType s).clock.timeValid = s.clock.timeValid := by unfold refreshDayType; first | with_reducible rfl | ((try dsimp only); (repeat' split) <;> simp)
/-! ### activateSchedule -/
@[simp] theorem activateSchedule_sub (s : State) : (activateSchedule s).sub = s.sub := by unfold activateSchedule; first | with_reducible rfl | ((try dsimp only); (repeat' split) <;> simp)
@[simp] theorem activateSchedule_due (s : State) : (activateSchedule s).due = s.due := by unfold activateSchedule; first | with_reducible rfl | ((try dsimp only); (repeat' split) <;> simp)
@[simp] theorem activateSchedule_chans (s : State) : (activateSchedule s).chans = s.chans := by unfold activateSchedule; first | with_reducible rfl | ((try dsimp only); (repeat' split) <;> simp)
@[simp] theorem activateSchedule_tot (s : State) : (activateSchedule s).tot = s.tot := by unfold activateSchedule; first | with_reducible rfl | ((try dsimp only); (repeat' split) <;> simp)
@[simp] theorem activateSchedule_dem (s : State) : (activateSchedule s).dem = s.dem := by unfold activateSchedule; first | with_reducible rfl | ((try dsimp only); (repeat' split) <;> simp)
@[simp] theorem activateSchedule_per (s : State) : (activateSchedule s).per = s.per := by unfold activateSchedule; first | with_reducible rfl | ((try dsimp only); (repeat' split) <;> simp)
@[simp] theorem activateSchedule_log (s : State) : (activateSchedule s).log = s.log := by unfold activateSchedule; first | with_reducible rfl | ((try dsimp only); (repeat' split) <;> simp)
@[simp] theorem activateSchedule_lim (s : State) : (activateSchedule s).lim = s.lim := by unfold activateSchedule; first | with_reducible rfl | ((try dsimp only); (repeat' split) <;> simp)
@[simp] theorem activateSchedule_sup (s : State) : (activateSchedule s).sup = s.sup := by unfold activateSchedule; first | with_reducible rfl | ((try dsimp only); (repeat' split) <;> simp)
@[simp] theorem activateSchedule_pins (s : State) : (activateSchedule s).pins = s.pins := by unfold activateSchedule; first | with_reducible rfl | ((try dsimp only); (repeat' split) <;> simp)
@[simp] theorem activateSchedule_pending (s : State) : (activateSchedule s).pending = s.pending := by unfold activateSchedule; first | with_reducible rfl | ((try dsimp only); (repeat' split) <;> simp)
@[simp] theorem activateSchedule_free (s : State) : (activateSchedule s).free = s.free := by unfold activateSchedule; first | with_reducible rfl | ((try dsimp only); (repeat' split) <;> simp)
@[simp] theorem activateSchedule_store_config (s : State) : (activateSchedule s).store.config = s.store.config := by unfold activateSchedule; first | with_reducible rfl | ((try dsimp only); (repeat' split) <;> simp)
@[simp] theorem activateSchedule_store_writing (s : State) : (activateSchedule s).store.writing = s.store.writing := by unfold activateSchedule; first | with_reducible rfl | ((try dsimp only); (repeat' split) <;> simp)
@[simp] theorem activateSchedule_store_closeDates (s : State) : (activateSchedule s).store.closeDates = s.store.closeDates := by unfold activateSchedule; first | with_reducible rfl | ((try dsimp only); (repeat' split) <;> simp)
@[simp] theorem activateSchedule_clock_now (s : State) : (activateSchedule s).clock.now = s.clock.now := by unfold activateSchedule; first | with_reducible rfl | ((try dsimp only); (repeat' split) <;> simp)
@[simp] theorem activateSchedule_clock_timeValid (s : State) : (activateSchedule s).clock.timeValid = s.clock.timeValid := by unfold activateSchedule; first | with_reducible rfl | ((try dsimp only); (repeat' split) <;> simp)
/-! ### refreshPointer -/
@[simp] theorem refreshPointer_store (s : State) : (refreshPointer s).store = s.store := by unfold refreshPointer; first | with_reducible rfl | ((try dsimp only); (repeat' split) <;> simp)
@[simp] theorem refreshPointer_sub (s : State) : (refreshPointer s).sub = s.sub := by unfold refreshPointer; first | with_reducible rfl | ((try dsimp only); (repeat' split) <;> simp)
@[simp] theorem refreshPointer_due (s : State) : (refreshPointer s).due = s.due := by unfold refreshPointer; first | with_reducible rfl | ((try dsimp only); (repeat' split) <;> simp)
@[simp] theorem refreshPointer_chans (s : State) : (refreshPointer s).chans = s.chans := by unfold refreshPointer; first | with_reducible rfl | ((try dsimp only); (repeat' split) <;> simp)
@[simp] theorem refreshPointer_tot (s : State) : (refreshPointer s).tot = s.tot := by unfold refreshPointer; first | with_reducible rfl | ((try dsimp only); (repeat' split) <;> simp)
@[simp] theorem refreshPointer_dem (s : State) : (refreshPointer s).dem = s.dem := by unfold refreshPointer; first | with_reducible rfl | ((try dsimp only); (repeat' split) <;> simp)
@[simp] theorem refreshPointer_per (s : State) : (refreshPointer s).per = s.per := by unfold refreshPointer; first | with_reducible rfl | ((try dsimp only); (repeat' split) <;> simp)
@[simp] theorem refreshPointer_log (s : State) : (refreshPointer s).log = s.log := by unfold refreshPointer; first | with_reducible rfl | ((try dsimp only); (repeat' split) <;> simp)
@[simp] theorem refreshPointer_lim (s : State) : (refreshPointer s).lim = s.lim := by unfold refreshPointer; first | with_reducible rfl | ((try dsimp only); (repeat' split) <;> simp)
@[simp] theorem refreshPointer_util (s : State) : (refreshPointer s).util = s.util := by unfold refreshPointer; first | with_reducible rfl | ((try dsimp only); (repeat' split) <;> simp)
@[simp] theorem refreshPointer_cust (s : State) : (refreshPointer s).cust = s.cust := by unfold refreshPointer; first | with_reducible rfl | ((try dsimp only); (repeat' split) <;> simp)
@[simp] theorem refreshPointer_sup (s : State) : (refreshPointer s).sup = s.sup := by unfold refreshPointer; first | with_reducible rfl | ((try dsimp only); (repeat' split) <;> simp)
@[simp] theorem refreshPointer_pins (s : State) : (refreshPointer s).pins = s.pins := by unfold refreshPointer; first | with_reducible rfl | ((try dsimp only); (repeat' split) <;> simp)
@[simp] theorem refreshPointer_pending (s : State) : (refreshPointer s).pending = s.pending := by unfold refreshPointer; first | with_reducible rfl | ((try dsimp only); (repeat' split) <;> simp)
@[simp] theorem refreshPointer_free (s : State) : (refreshPointer s).free = s.free := by unfold refreshPointer; first | with_reducible rfl | ((try dsimp only); (repeat' split) <;> simp)
@[simp] theorem refreshPointer_clock_now (s : State) : (refreshPointer s).clock.now = s.clock.now := by unfold refreshPointer; first | with_reducible rfl | ((try dsimp only); (repeat' split) <;> simp)
@[simp] theorem refreshPointer_clock_timeValid (s : State) : (refreshPointer s).clock.timeValid = s.clock.timeValid := by unfold refreshPointer; first | with_reducible rfl | ((try dsimp only); (repeat' split) <;> simp)
/-! ### detectCloseDate -/
@[simp] theorem detectCloseDate_store (s : State) : (detectCloseDate s).store = s.store := by unfold detectCloseDate; first | with_reducible rfl | ((try dsimp only); (repeat' split) <;> simp)
@[simp] theorem detectCloseDate_sub (s : State) : (detectCloseDate s).sub = s.sub := by unfold detectCloseDate; first | with_reducible rfl | ((try dsimp only); (repeat' split) <;> simp)
@[simp] theorem detectCloseDate_chans (s : State) : (detectCloseDate s).chans = s.chans := by unfold detectCloseDate; first | with_reducible rfl | ((try dsimp only); (repeat' split) <;> simp)
@[simp] theorem detectCloseDate_tot (s : State) : (detectCloseDate s).tot = s.tot := by unfold detectCloseDate; first | with_reducible rfl | ((try dsimp only); (repeat' split) <;> simp)
@[simp] theorem detectCloseDate_dem (s : State) : (detectCloseDate s).dem = s.dem := by unfold detectCloseDate; first | with_reducible rfl | ((try dsimp only); (repeat' split) <;> simp)
@[simp] theorem detectCloseDate_per (s : State) : (detectCloseDate s).per = s.per := by unfold detectCloseDate; first | with_reducible rfl | ((try dsimp only); (repeat' split) <;> simp)
@[simp] theorem detectCloseDate_log (s : State) : (detectCloseDate s).log = s.log := by unfold detectCloseDate; first | with_reducible rfl | ((try dsimp only); (repeat' split) <;> simp)
@[simp] theorem detectCloseDate_lim (s : State) : (detectCloseDate s).lim = s.lim := by unfold detectCloseDate; first | with_reducible rfl | ((try dsimp only); (repeat' split) <;> simp)
@[simp] theorem detectCloseDate_util (s : State) : (detectCloseDate s).util = s.util := by unfold detectCloseDate; first | with_reducible rfl | ((try dsimp only); (repeat' split) <;> simp)
@[simp] theorem detectCloseDate_cust (s : State) : (detectCloseDate s).cust = s.cust := by unfold detectCloseDate; first | with_reducible rfl | ((try dsimp only); (repeat' split) <;> simp)
@[simp] theorem detectCloseDate_sup (s : State) : (detectCloseDate s).sup = s.sup := by unfold detectCloseDate; first | with_reducible rfl | ((try dsimp only); (repeat' split) <;> simp)
@[simp] theorem detectCloseDate_pins (s : State) : (detectCloseDate s).pins = s.pins := by unfold detectCloseDate; first | with_reducible rfl | ((try dsimp only); (repeat' split) <;> simp)
@[simp] theorem detectCloseDate_pending (s : State) : (detectCloseDate s).pending = s.pending := by unfold detectCloseDate; first | with_reducible rfl | ((try dsimp only); (repeat' split) <;> simp)
@[simp] theorem detectCloseDate_free (s : State) : (detectCloseDate s).free = s.free := by unfold detectCloseDate; first | with_reducible rfl | ((try dsimp only); (repeat' split) <;> simp)
@[simp] theorem detectCloseDate_clock_now (s : State) : (detectCloseDate s).clock.now = s.clock.now := by unfold detectCloseDate; first | with_reducible rfl | ((try dsimp only); (repeat' split) <;> simp)
@[simp] theorem detectCloseDate_clock_timeValid (s : State) : (detectCloseDate s).clock.timeValid = s.clock.timeValid := by unfold detectCloseDate; first | with_reducible rfl | ((try dsimp only); (repeat' split) <;> simp)
/-! ### advanceSecond -/
@[simp] theorem advanceSecond_store (s : State) : (advanceSecond s).store = s.store := by unfold advanceSecond; first | with_reducible rfl | ((try dsimp only); (repeat' split) <;> simp)
@[simp] theorem advanceSecond_due (s : State) : (advanceSecond s).due = s.due := by unfold advanceSecond; first | with_reducible rfl | ((try dsimp only); (repeat' split) <;> simp)
@[simp] theorem advanceSecond_chans (s : State) : (advanceSecond s).chans = s.chans := by unfold advanceSecond; first | with_reducible rfl | ((try dsimp only); (repeat' split) <;> simp)
@[simp] theorem advanceSecond_tot (s : State) : (advanceSecond s).tot = s.tot := by unfold advanceSecond; first | with_reducible rfl | ((try dsimp only); (repeat' split) <;> simp)
@[simp] theorem advanceSecond_dem (s : State) : (advanceSecond s).dem = s.dem := by unfold advanceSecond; first | with_reducible rfl | ((try dsimp only); (repeat' split) <;> simp)
@[simp] theorem advanceSecond_per (s : State) : (advanceSecond s).per = s.per := by unfold advanceSecond; first | with_reducible rfl | ((try dsimp only); (repeat' split) <;> simp)
@[simp] theorem advanceSecond_log (s : State) : (advanceSecond s).log = s.log := by unfold advanceSecond; first | with_reducible rfl | ((try dsimp only); (repeat' split) <;> simp)
@[simp] theorem advanceSecond_lim (s : State) : (advanceSecond s).lim = s.lim := by unfold advanceSecond; first | with_reducible rfl | ((try dsimp only); (repeat' split) <;> simp)
@[simp] theorem advanceSecond_util (s : State) : (advanceSecond s).util = s.util := by unfold advanceSecond; first | with_reducible rfl | ((try dsimp only); (repeat' split) <;> simp)
@[simp] theorem advanceSecond_cust (s : State) : (advanceSecond s).cust = s.cust := by unfold advanceSecond; first | with_reducible rfl | ((try dsimp only); (repeat' split) <;> simp)
@[simp] theorem advanceSecond_sup (s : State) : (advanceSecond s).sup = s.sup := by unfold advanceSecond; first | with_reducible rfl | ((try dsimp only); (repeat' split) <;> simp)
@[simp] theorem advanceSecond_pins (s : State) : (advanceSecond s).pins = s.pins := by unfold advanceSecond; first | with_reducible rfl | ((try dsimp only); (repeat' split) <;> simp)
@[simp] theorem advanceSecond_pending (s : State) : (advanceSecond s).pending = s.pending := by unfold advanceSecond; first | with_reducible rfl | ((try dsimp only); (repeat' split) <;> simp)
@[simp] theorem advanceSecond_free (s : State) : (advanceSecond s).free = s.free := by unfold advanceSecond; first | with_reducible rfl | ((try dsimp only); (repeat' split) <;> simp)
@[simp] theorem advanceSecond_clock_timeValid (s : State) : (advanceSecond s).clock.timeValid = s.clock.timeValid := by unfold advanceSecond; first | with_reducible rfl | ((try dsimp only); (repeat' split) <;> simp)
@[simp] theorem advanceSecond_sub_start (s : State) : (advanceSecond s).sub.start = s.sub.start := by unfold advanceSecond; first | with_reducible rfl | ((try dsimp only); (repeat' split) <;> simp)
@[simp] theorem advanceSecond_sub_nominalEnd (s : State) : (advanceSecond s).sub.nominalEnd = s.sub.nominalEnd := by unfold advanceSecond; first | with_reducible rfl | ((try dsimp only); (repeat' split) <;> simp)
@[simp] theorem advanceSecond_sub_rate (s : State) : (advanceSecond s).sub.rate = s.sub.rate := by unfold advanceSecond; first | with_reducible rfl | ((try dsimp only); (repeat' split) <;> simp)
/-! ### timeBaseSecond -/
@[simp] theorem timeBaseSecond_store (s : State) : (timeBaseSecond s).store = s.store := by unfold timeBaseSecond; first | with_reducible rfl | ((try dsimp only); (repeat' split) <;> simp)
@[simp] theorem timeBaseSecond_chans (s : State) : (timeBaseSecond s).chans = s.chans := by unfold timeBaseSecond; first | with_reducible rfl | ((try dsimp only); (repeat' split) <;> simp)
@[simp] theorem timeBaseSecond_tot (s : State) : (timeBaseSecond s).tot = s.tot := by unfold timeBaseSecond; first | with_reducible rfl | ((try dsimp only); (repeat' split) <;> simp)
@[simp] theorem timeBaseSecond_dem (s : State) : (timeBaseSecond s).dem = s.dem := by unfold timeBaseSecond; first | with_reducible rfl | ((try dsimp only); (repeat' split) <;> simp)
@[simp] theorem timeBaseSecond_per (s : State) : (timeBaseSecond s).per = s.per := by unfold timeBaseSecond; first | with_reducible rfl | ((try dsimp only); (repeat' split) <;> simp)
@[simp] theorem timeBaseSecond_log (s : State) : (timeBaseSecond s).log = s.log := by unfold timeBaseSecond; first | with_reducible rfl | ((try dsimp only); (repeat' split) <;> simp)
@[simp] theorem timeBaseSecond_lim (s : State) : (timeBaseSecond s).lim = s.lim := by unfold timeBaseSecond; first | with_reducible rfl | ((try dsimp only); (repeat' split) <;> simp)
@[simp] theorem timeBaseSecond_util (s : State) : (timeBaseSecond s).util = s.util := by unfold timeBaseSecond; first | with_reducible rfl | ((try dsimp only); (repeat' split) <;> simp)
@[simp] theorem timeBaseSecond_cust (s : State) : (timeBaseSecond s).cust = s.cust := by unfold timeBaseSecond; first | with_reducible rfl | ((try dsimp only); (repeat' split) <;> simp)
@[simp] theorem timeBaseSecond_pins (s : State) : (timeBaseSecond s).pins = s.pins := by unfold timeBaseSecond; first | with_reducible rfl | ((try dsimp only); (repeat' split) <;> simp)
@[simp] theorem timeBaseSecond_pending (s : State) : (timeBaseSecond s).pending = s.pending := by unfold timeBaseSecond; first | with_reducible rfl | ((try dsimp only); (repeat' split) <;> simp)
@[simp] theorem timeBaseSecond_free (s : State) : (timeBaseSecond s).free = s.free := by unfold timeBaseSecond; first | with_reducible rfl | ((try dsimp only); (repeat' split) <;> simp)
@[simp] theorem timeBaseSecond_clock_timeValid (s : State) : (timeBaseSecond s).clock.timeValid = s.clock.timeValid := by unfold timeBaseSecond; first | with_reducible rfl | ((try dsimp only); (repeat' split) <;> simp)
@[simp] theorem timeBaseSecond_sub_start (s : State) : (timeBaseSecond s).sub.start = s.sub.start := by unfold timeBaseSecond; first | with_reducible rfl | ((try dsimp only); (repeat' split) <;> simp)
@[simp] theorem timeBaseSecond_sub_nominalEnd (s : State) : (timeBaseSecond s).sub.nominalEnd = s.sub.nominalEnd := by unfold timeBaseSecond; first | with_reducible rfl | ((try dsimp only); (repeat' split) <;> simp)
@[simp] theorem timeBaseSecond_sub_rate (s : State) : (timeBaseSecond s).sub.rate = s.sub.rate := by unfold timeBaseSecond; first | with_reducible rfl | ((try dsimp only); (repeat' split) <;> simp)
@[simp] theorem timeBaseSecond_sup_hold (s : State) : (timeBaseSecond s).sup.hold = s.sup.hold := by unfold timeBaseSecond; first | with_reducible rfl | ((try dsimp only); (repeat' split) <;> simp)
@[simp] theorem timeBaseSecond_sup_mainSupply (s : State) : (timeBaseSecond s).sup.mainSupply = s.sup.mainSupply := by unfold timeBaseSecond; first | with_reducible rfl | ((try dsimp only); (repeat' split) <;> simp)

/-! ### addCount -/
@[simp] theorem addCount_store (c : Fin 4) (q : Quantity) (m : Nat) (s : State) : (addCount c q m s).store = s.store := by unfold addCount; first | with_reducible rfl | ((try dsimp only); (repeat' split) <;> simp)
@[simp] theorem addCount_clock (c : Fin 4) (q : Quantity) (m : Nat) (s : State) : (addCount c q m s).clock = s.clock := by unfold addCount; first | with_reducible rfl | ((try dsimp only); (repeat' split) <;> simp)
@[simp] theorem addCount_sub (c : Fin 4) (q : Quantity) (m : Nat) (s : State) : (addCount c q m s).sub = s.sub := by unfold addCount; first | with_reducible rfl | ((try dsimp only); (repeat' split) <;> simp)
@[simp] theorem addCount_due (c : Fin 4) (q : Quantity) (m : Nat) (s : State) : (addCount c q m s).due = s.due := by unfold addCount; first | with_reducible rfl | ((try dsimp only); (repeat' split) <;> simp)
@[simp] theorem addCount_tot (c : Fin 4) (q : Quantity) (m : Nat) (s : State) : (addCount c q m s).tot = s.tot := by unfold addCount; first | with_reducible rfl | ((try dsimp only); (repeat' split) <;> simp)
@[simp] theorem addCount_dem (c : Fin 4) (q : Quantity) (m : Nat) (s : State) : (addCount c q m s).dem = s.dem := by unfold addCount; first | with_reducible rfl | ((try dsimp only); (repeat' split) <;> simp)
@[simp] theorem addCount_per (c : Fin 4) (q : Quantity) (m : Nat) (s : State) : (addCount c q m s).per = s.per := by unfold addCount; first | with_reducible rfl | ((try dsimp only); (repeat' split) <;> simp)
@[simp] theorem addCount_log (c : Fin 4) (q : Quantity) (m : Nat) (s : State) : (addCount c q m s).log = s.log := by unfold addCount; first | with_reducible rfl | ((try dsimp only); (repeat' split) <;> simp)
@[simp] theorem addCount_lim (c : Fin 4) (q : Quantity) (m : Nat) (s : State) : (addCount c q m s).lim = s.lim := by unfold addCount; first | with_reducible rfl | ((try dsimp only); (repeat' split) <;> simp)
@[simp] theorem addCount_util (c : Fin 4) (q : Quantity) (m : Nat) (s : State) : (addCount c q m s).util = s.util := by unfold addCount; first | with_reducible rfl | ((try dsimp only); (repeat' split) <;> simp)
@[simp] theorem addCount_cust (c : Fin 4) (q : Quantity) (m : Nat) (s : State) : (addCount c q m s).cust = s.cust := by unfold addCount; first | with_reducible rfl | ((try dsimp only); (repeat' split) <;> simp)
@[simp] theorem addCount_sup (c : Fin 4) (q : Quantity) (m : Nat) (s : State) : (addCount c q m s).sup = s.sup := by unfold addCount; first | with_reducible rfl | ((try dsimp only); (repeat' split) <;> simp)
@[simp] theorem addCount_pins (c : Fin 4) (q : Quantity) (m : Nat) (s : State) : (addCount c q m s).pins = s.pins := by unfold addCount; first | with_reducible rfl | ((try dsimp only); (repeat' split) <;> simp)
@[simp] theorem addCount_pending (c : Fin 4) (q : Quantity) (m : Nat) (s : State) : (addCount c q m s).pending = s.pending := by unfold addCount; first | with_reducible rfl | ((try dsimp only); (repeat' split) <;> simp)
@[simp] theorem addCount_free (c : Fin 4) (q : Quantity) (m : Nat) (s : State) : (addCount c q m s).free = s.free := by unfold addCount; first | with_reducible rfl | ((try dsimp only); (repeat' split) <;> simp)
/-! ### takeCount -/
@[simp] theorem takeCount_store (c : Fin 4) (pos neg : Quantity) (v : BitVec 16) (s : State) : (takeCount c pos neg v s).store = s.store := by unfold takeCount; first | with_reducible rfl | ((try dsimp only); (repeat' split) <;> simp)
@[simp] theorem takeCount_clock (c : Fin 4) (pos neg : Quantity) (v : BitVec 16) (s : State) : (takeCount c pos neg v s).clock = s.clock := by unfold takeCount; first | with_reducible rfl | ((try dsimp only); (repeat' split) <;> simp)
@[simp] theorem takeCount_due (c : Fin 4) (pos neg : Quantity) (v : BitVec 16) (s : State) : (takeCount c pos neg v s).due = s.due := by unfold takeCount; first | with_reducible rfl | ((try dsimp only); (repeat' split) <;> simp)
@[simp] theorem takeCount_tot (c : Fin 4) (pos neg : Quantity) (v : BitVec 16) (s : State) : (takeCount c pos neg v s).tot = s.tot := by unfold takeCount; first | with_reducible rfl | ((try dsimp only); (repeat' split) <;> simp)
@[simp] theorem takeCount_dem (c : Fin 4) (pos neg : Quantity) (v : BitVec 16) (s : State) : (takeCount c pos neg v s).dem = s.dem := by unfold takeCount; first | with_reducible rfl | ((try dsimp only); (repeat' split) <;> simp)
@[simp] theorem takeCount_per (c : Fin 4) (pos neg : Quantity) (v : BitVec 16) (s : State) : (takeCount c pos neg v s).per = s.per := by unfold takeCount; first | with_reducible rfl | ((try dsimp only); (repeat' split) <;> simp)
@[simp] theorem takeCount_log (c : Fin 4) (pos neg : Quantity) (v : BitVec 16) (s : State) : (takeCount c pos neg v s).log = s.log := by unfold takeCount; first | with_reducible rfl | ((try dsimp only); (repeat' split) <;> simp)
@[simp] theorem takeCount_lim (c : Fin 4) (pos neg : Quantity) (v : BitVec 16) (s : State) : (takeCount c pos neg v s).lim = s.lim := by unfold takeCount; first | with_reducible rfl | ((try dsimp only); (repeat' split) <;> simp)
@[simp] theorem takeCount_sup (c : Fin 4) (pos neg : Quantity) (v : BitVec 16) (s : State) : (takeCount c pos neg v s).sup = s.sup := by unfold takeCount; first | with_reducible rfl | ((try dsimp only); (repeat' split) <;> simp)
@[simp] theorem takeCount_pins (c : Fin 4) (pos neg : Quantity) (v : BitVec 16) (s : State) : (takeCount c pos neg v s).pins = s.pins := by unfold takeCount; first | with_reducible rfl | ((try dsimp only); (repeat' split) <;> simp)
@[simp] theorem takeCount_pending (c : Fin 4) (pos neg : Quantity) (v : BitVec 16) (s : State) : (takeCount c pos neg v s).pending = s.pending := by unfold takeCount; first | with_reducible rfl | ((try dsimp only); (repeat' split) <;> simp)
@[simp] theorem takeCount_free (c : Fin 4) (pos neg : Quantity) (v : BitVec 16) (s : State) : (takeCount c pos neg v s).free = s.free := by unfold takeCount; first | with_reducible rfl | ((try dsimp only); (repeat' split) <;> simp)
@[simp] theorem takeCount_sub_start (c : Fin 4) (pos neg : Quantity) (v : BitVec 16) (s : State) : (takeCount c pos neg v s).sub.start = s.sub.start := by unfold takeCount; first | with_reducible rfl | ((try dsimp only); (repeat' split) <;> simp)
@[simp] theorem takeCount_sub_nominalEnd (c : Fin 4) (pos neg : Quantity) (v : BitVec 16) (s : State) : (takeCount c pos neg v s).sub.nominalEnd = s.sub.nominalEnd := by unfold takeCount; first | with_reducible rfl | ((try dsimp only); (repeat' split) <;> simp)
@[simp] theorem takeCount_sub_elapsed (c : Fin 4) (pos neg : Quantity) (v : BitVec 16) (s : State) : (takeCount c pos neg v s).sub.elapsed = s.sub.elapsed := by unfold takeCount; first | with_reducible rfl | ((try dsimp only); (repeat' split) <;> simp)
@[simp] theorem takeCount_sub_rate (c : Fin 4) (pos neg : Quantity) (v : BitVec 16) (s : State) : (takeCount c pos neg v s).sub.rate = s.sub.rate := by unfold takeCount; first | with_reducible rfl | ((try dsimp only); (repeat' split) <;> simp)
/-! ### dropWithCheck -/
@[simp] theorem dropWithCheck_store (s : State) : (dropWithCheck s).store = s.store := by unfold dropWithCheck; first | with_reducible rfl | ((try dsimp only); (repeat' split) <;> simp)
@[simp] theorem dropWithCheck_clock (s : State) : (dropWithCheck s).clock = s.clock := by unfold dropWithCheck; first | with_reducible rfl | ((try dsimp only); (repeat' split) <;> simp)
@[simp] theorem dropWithCheck_due (s : State) : (dropWithCheck s).due = s.due := by unfold dropWithCheck; first | with_reducible rfl | ((try dsimp only); (repeat' split) <;> simp)
@[simp] theorem dropWithCheck_chans (s : State) : (dropWithCheck s).chans = s.chans := by unfold dropWithCheck; first | with_reducible rfl | ((try dsimp only); (repeat' split) <;> simp)
@[simp] theorem dropWithCheck_tot (s : State) : (dropWithCheck s).tot = s.tot := by unfold dropWithCheck; first | with_reducible rfl | ((try dsimp only); (repeat' split) <;> simp)
@[simp] theorem dropWithCheck_dem (s : State) : (dropWithCheck s).dem = s.dem := by unfold dropWithCheck; first | with_reducible rfl | ((try dsimp only); (repeat' split) <;> simp)
@[simp] theorem dropWithCheck_per (s : State) : (dropWithCheck s).per = s.per := by unfold dropWithCheck; first | with_reducible rfl | ((try dsimp only); (repeat' split) <;> simp)
@[simp] theorem dropWithCheck_log (s : State) : (dropWithCheck s).log = s.log := by unfold dropWithCheck; first | with_reducible rfl | ((try dsimp only); (repeat' split) <;> simp)
@[simp] theorem dropWithCheck_lim (s : State) : (dropWithCheck s).lim = s.lim := by unfold dropWithCheck; first | with_reducible rfl | ((try dsimp only); (repeat' split) <;> simp)
@[simp] theorem dropWithCheck_sup (s : State) : (dropWithCheck s).sup = s.sup := by unfold dropWithCheck; first | with_reducible rfl | ((try dsimp only); (repeat' split) <;> simp)
@[simp] theorem dropWithCheck_pins (s : State) : (dropWithCheck s).pins = s.pins := by unfold dropWithCheck; first | with_reducible rfl | ((try dsimp only); (repeat' split) <;> simp)
@[simp] theorem dropWithCheck_pending (s : State) : (dropWithCheck s).pending = s.pending := by unfold dropWithCheck; first | with_reducible rfl | ((try dsimp only); (repeat' split) <;> simp)
@[simp] theorem dropWithCheck_free (s : State) : (dropWithCheck s).free = s.free := by unfold dropWithCheck; first | with_reducible rfl | ((try dsimp only); (repeat' split) <;> simp)
@[simp] theorem dropWithCheck_sub_start (s : State) : (dropWithCheck s).sub.start = s.sub.start := by unfold dropWithCheck; first | with_reducible rfl | ((try dsimp only); (repeat' split) <;> simp)
@[simp] theorem dropWithCheck_sub_nominalEnd (s : State) : (dropWithCheck s).sub.nominalEnd = s.sub.nominalEnd := by unfold dropWithCheck; first | with_reducible rfl | ((try dsimp only); (repeat' split) <;> simp)
@[simp] theorem dropWithCheck_sub_elapsed (s : State) : (dropWithCheck s).sub.elapsed = s.sub.elapsed := by unfold dropWithCheck; first | with_reducible rfl | ((try dsimp only); (repeat' split) <;> simp)
@[simp] theorem dropWithCheck_sub_rate (s : State) : (dropWithCheck s).sub.rate = s.sub.rate := by unfold dropWithCheck; first | with_reducible rfl | ((try dsimp only); (repeat' split) <;> simp)
/-! ### hearRecord -/
@[simp] theorem hearRecord_store (c : Fin 4) (seq : BitVec 4) (s : State) : (hearRecord c seq s).store = s.store := by unfold hearRecord; first | with_reducible rfl | ((try dsimp only); (repeat' split) <;> simp)
@[simp] theorem hearRecord_clock (c : Fin 4) (seq : BitVec 4) (s : State) : (hearRecord c seq s).clock = s.clock := by unfold hearRecord; first | with_reducible rfl | ((try dsimp only); (repeat' split) <;> simp)
@[simp] theorem hearRecord_due (c : Fin 4) (seq : BitVec 4) (s : State) : (hearRecord c seq s).due = s.due := by unfold hearRecord; first | with_reducible rfl | ((try dsimp only); (repeat' split) <;> simp)
@[simp] theorem hearRecord_tot (c : Fin 4) (seq : BitVec 4) (s : State) : (hearRecord c seq s).tot = s.tot := by unfold hearRecord; first | with_reducible rfl | ((try dsimp only); (repeat' split) <;> simp)
@[simp] theorem hearRecord_dem (c : Fin 4) (seq : BitVec 4) (s : State) : (hearRecord c seq s).dem = s.dem := by unfold hearRecord; first | with_reducible rfl | ((try dsimp only); (repeat' split) <;> simp)
@[simp] theorem hearRecord_per (c : Fin 4) (seq : BitVec 4) (s : State) : (hearRecord c seq s).per = s.per := by unfold hearRecord; first | with_reducible rfl | ((try dsimp only); (repeat' split) <;> simp)
@[simp] theorem hearRecord_log (c : Fin 4) (seq : BitVec 4) (s : State) : (hearRecord c seq s).log = s.log := by unfold hearRecord; first | with_reducible rfl | ((try dsimp only); (repeat' split) <;> simp)
@[simp] theorem hearRecord_lim (c : Fin 4) (seq : BitVec 4) (s : State) : (hearRecord c seq s).lim = s.lim := by unfold hearRecord; first | with_reducible rfl | ((try dsimp only); (repeat' split) <;> simp)
@[simp] theorem hearRecord_sup (c : Fin 4) (seq : BitVec 4) (s : State) : (hearRecord c seq s).sup = s.sup := by unfold hearRecord; first | with_reducible rfl | ((try dsimp only); (repeat' split) <;> simp)
@[simp] theorem hearRecord_pins (c : Fin 4) (seq : BitVec 4) (s : State) : (hearRecord c seq s).pins = s.pins := by unfold hearRecord; first | with_reducible rfl | ((try dsimp only); (repeat' split) <;> simp)
@[simp] theorem hearRecord_pending (c : Fin 4) (seq : BitVec 4) (s : State) : (hearRecord c seq s).pending = s.pending := by unfold hearRecord; first | with_reducible rfl | ((try dsimp only); (repeat' split) <;> simp)
@[simp] theorem hearRecord_free (c : Fin 4) (seq : BitVec 4) (s : State) : (hearRecord c seq s).free = s.free := by unfold hearRecord; first | with_reducible rfl | ((try dsimp only); (repeat' split) <;> simp)
@[simp] theorem hearRecord_sub_start (c : Fin 4) (seq : BitVec 4) (s : State) : (hearRecord c seq s).sub.start = s.sub.start := by unfold hearRecord; first | with_reducible rfl | ((try dsimp only); (repeat' split) <;> simp)
@[simp] theorem hearRecord_sub_nominalEnd (c : Fin 4) (seq : BitVec 4) (s : State) : (hearRecord c seq s).sub.nominalEnd = s.sub.nominalEnd := by unfold hearRecord; first | with_reducible rfl | ((try dsimp only); (repeat' split) <;> simp)
@[simp] theorem hearRecord_sub_elapsed (c : Fin 4) (seq : BitVec 4) (s : State) : (hearRecord c seq s).sub.elapsed = s.sub.elapsed := by unfold hearRecord; first | with_reducible rfl | ((try dsimp only); (repeat' split) <;> simp)
@[simp] theorem hearRecord_sub_rate (c : Fin 4) (seq : BitVec 4) (s : State) : (hearRecord c seq s).sub.rate = s.sub.rate := by unfold hearRecord; first | with_reducible rfl | ((try dsimp only); (repeat' split) <;> simp)
/-! ### useRecord -/
@[simp] theorem useRecord_store (c : Fin 4) (f : LinkFrame) (s : State) : (useRecord c f s).store = s.store := by unfold useRecord; first | with_reducible rfl | ((try dsimp only); (repeat' split) <;> simp)
@[simp] theorem useRecord_clock (c : Fin 4) (f : LinkFrame) (s : State) : (useRecord c f s).clock = s.clock := by unfold useRecord; first | with_reducible rfl | ((try dsimp only); (repeat' split) <;> simp)
@[simp] theorem useRecord_due (c : Fin 4) (f : LinkFrame) (s : State) : (useRecord c f s).due = s.due := by unfold useRecord; first | with_reducible rfl | ((try dsimp only); (repeat' split) <;> simp)
@[simp] theorem useRecord_tot (c : Fin 4) (f : LinkFrame) (s : State) : (useRecord c f s).tot = s.tot := by unfold useRecord; first | with_reducible rfl | ((try dsimp only); (repeat' split) <;> simp)
@[simp] theorem useRecord_dem (c : Fin 4) (f : LinkFrame) (s : State) : (useRecord c f s).dem = s.dem := by unfold useRecord; first | with_reducible rfl | ((try dsimp only); (repeat' split) <;> simp)
@[simp] theorem useRecord_per (c : Fin 4) (f : LinkFrame) (s : State) : (useRecord c f s).per = s.per := by unfold useRecord; first | with_reducible rfl | ((try dsimp only); (repeat' split) <;> simp)
@[simp] theorem useRecord_log (c : Fin 4) (f : LinkFrame) (s : State) : (useRecord c f s).log = s.log := by unfold useRecord; first | with_reducible rfl | ((try dsimp only); (repeat' split) <;> simp)
@[simp] theorem useRecord_lim (c : Fin 4) (f : LinkFrame) (s : State) : (useRecord c f s).lim = s.lim := by unfold useRecord; first | with_reducible rfl | ((try dsimp only); (repeat' split) <;> simp)
@[simp] theorem useRecord_sup (c : Fin 4) (f : LinkFrame) (s : State) : (useRecord c f s).sup = s.sup := by unfold useRecord; first | with_reducible rfl | ((try dsimp only); (repeat' split) <;> simp)
@[simp] theorem useRecord_pins (c : Fin 4) (f : LinkFrame) (s : State) : (useRecord c f s).pins = s.pins := by unfold useRecord; first | with_reducible rfl | ((try dsimp only); (repeat' split) <;> simp)
@[simp] theorem useRecord_pending (c : Fin 4) (f : LinkFrame) (s : State) : (useRecord c f s).pending = s.pending := by unfold useRecord; first | with_reducible rfl | ((try dsimp only); (repeat' split) <;> simp)
@[simp] theorem useRecord_free (c : Fin 4) (f : LinkFrame) (s : State) : (useRecord c f s).free = s.free := by unfold useRecord; first | with_reducible rfl | ((try dsimp only); (repeat' split) <;> simp)
@[simp] theorem useRecord_sub_start (c : Fin 4) (f : LinkFrame) (s : State) : (useRecord c f s).sub.start = s.sub.start := by unfold useRecord; first | with_reducible rfl | ((try dsimp only); (repeat' split) <;> simp)
@[simp] theorem useRecord_sub_nominalEnd (c : Fin 4) (f : LinkFrame) (s : State) : (useRecord c f s).sub.nominalEnd = s.sub.nominalEnd := by unfold useRecord; first | with_reducible rfl | ((try dsimp only); (repeat' split) <;> simp)
@[simp] theorem useRecord_sub_elapsed (c : Fin 4) (f : LinkFrame) (s : State) : (useRecord c f s).sub.elapsed = s.sub.elapsed := by unfold useRecord; first | with_reducible rfl | ((try dsimp only); (repeat' split) <;> simp)
@[simp] theorem useRecord_sub_rate (c : Fin 4) (f : LinkFrame) (s : State) : (useRecord c f s).sub.rate = s.sub.rate := by unfold useRecord; first | with_reducible rfl | ((try dsimp only); (repeat' split) <;> simp)
/-! ### takeRecord -/
@[simp] theorem takeRecord_store (f : LinkFrame) (s : State) : (takeRecord f s).store = s.store := by unfold takeRecord; first | with_reducible rfl | ((try dsimp only); (repeat' split) <;> simp)
@[simp] theorem takeRecord_clock (f : LinkFrame) (s : State) : (takeRecord f s).clock = s.clock := by unfold takeRecord; first | with_reducible rfl | ((try dsimp only); (repeat' split) <;> simp)
@[simp] theorem takeRecord_due (f : LinkFrame) (s : State) : (takeRecord f s).due = s.due := by unfold takeRecord; first | with_reducible rfl | ((try dsimp only); (repeat' split) <;> simp)
@[simp] theorem takeRecord_tot (f : LinkFrame) (s : State) : (takeRecord f s).tot = s.tot := by unfold takeRecord; first | with_reducible rfl | ((try dsimp only); (repeat' split) <;> simp)
@[simp] theorem takeRecord_dem (f : LinkFrame) (s : State) : (takeRecord f s).dem = s.dem := by unfold takeRecord; first | with_reducible rfl | ((try dsimp only); (repeat' split) <;> simp)
@[simp] theorem takeRecord_per (f : LinkFrame) (s : State) : (takeRecord f s).per = s.per := by unfold takeRecord; first | with_reducible rfl | ((try dsimp only); (repeat' split) <;> simp)
@[simp] theorem takeRecord_log (f : LinkFrame) (s : State) : (takeRecord f s).log = s.log := by unfold takeRecord; first | with_reducible rfl | ((try dsimp only); (repeat' split) <;> simp)
@[simp] theorem takeRecord_lim (f : LinkFrame) (s : State) : (takeRecord f s).lim = s.lim := by unfold takeRecord; first | with_reducible rfl | ((try dsimp only); (repeat' split) <;> simp)
@[simp] theorem takeRecord_sup (f : LinkFrame) (s : State) : (takeRecord f s).sup = s.sup := by unfold takeRecord; first | with_reducible rfl | ((try dsimp only); (repeat' split) <;> simp)
@[simp] theorem takeRecord_pins (f : LinkFrame) (s : State) : (takeRecord f s).pins = s.pins := by unfold takeRecord; first | with_reducible rfl | ((try dsimp only); (repeat' split) <;> simp)
@[simp] theorem takeRecord_pending (f : LinkFrame) (s : State) : (takeRecord f s).pending = s.pending := by unfold takeRecord; first | with_reducible rfl | ((try dsimp only); (repeat' split) <;> simp)
@[simp] theorem takeRecord_free (f : LinkFrame) (s : State) : (takeRecord f s).free = s.free := by unfold takeRecord; first | with_reducible rfl | ((try dsimp only); (repeat' split) <;> simp)
@[simp] theorem takeRecord_sub_start (f : LinkFrame) (s : State) : (takeRecord f s).sub.start = s.sub.start := by unfold takeRecord; first | with_reducible rfl | ((try dsimp only); (repeat' split) <;> simp)
@[simp] theorem takeRecord_sub_nominalEnd (f : LinkFrame) (s : State) : (takeRecord f s).sub.nominalEnd = s.sub.nominalEnd := by unfold takeRecord; first | with_reducible rfl | ((try dsimp only); (repeat' split) <;> simp)
@[simp] theorem takeRecord_sub_elapsed (f : LinkFrame) (s : State) : (takeRecord f s).sub.elapsed = s.sub.elapsed := by unfold takeRecord; first | with_reducible rfl | ((try dsimp only); (repeat' split) <;> simp)
@[simp] theorem takeRecord_sub_rate (f : LinkFrame) (s : State) : (takeRecord f s).sub.rate = s.sub.rate := by unfold takeRecord; first | with_reducible rfl | ((try dsimp only); (repeat' split) <;> simp)
/-! ### takeFrame -/
@[simp] theorem takeFrame_store (f : LinkFrame) (s : State) : (takeFrame f s).store = s.store := by unfold takeFrame; first | with_reducible rfl | ((try dsimp only); (repeat' split) <;> simp)
@[simp] theorem takeFrame_clock (f : LinkFrame) (s : State) : (takeFrame f s).clock = s.clock := by unfold takeFrame; first | with_reducible rfl | ((try dsimp only); (repeat' split) <;> simp)
@[simp] theorem takeFrame_due (f : LinkFrame) (s : State) : (takeFrame f s).due = s.due := by unfold takeFrame; first | with_reducible rfl | ((try dsimp only); (repeat' split) <;> simp)
@[simp] theorem takeFrame_tot (f : LinkFrame) (s : State) : (takeFrame f s).tot = s.tot := by unfold takeFrame; first | with_reducible rfl | ((try dsimp only); (repeat' split) <;> simp)
@[simp] theorem takeFrame_dem (f : LinkFrame) (s : State) : (takeFrame f s).dem = s.dem := by unfold takeFrame; first | with_reducible rfl | ((try dsimp only); (repeat' split) <;> simp)
@[simp] theorem takeFrame_per (f : LinkFrame) (s : State) : (takeFrame f s).per = s.per := by unfold takeFrame; first | with_reducible rfl | ((try dsimp only); (repeat' split) <;> simp)
@[simp] theorem takeFrame_log (f : LinkFrame) (s : State) : (takeFrame f s).log = s.log := by unfold takeFrame; first | with_reducible rfl | ((try dsimp only); (repeat' split) <;> simp)
@[simp] theorem takeFrame_lim (f : LinkFrame) (s : State) : (takeFrame f s).lim = s.lim := by unfold takeFrame; first | with_reducible rfl | ((try dsimp only); (repeat' split) <;> simp)
@[simp] theorem takeFrame_sup (f : LinkFrame) (s : State) : (takeFrame f s).sup = s.sup := by unfold takeFrame; first | with_reducible rfl | ((try dsimp only); (repeat' split) <;> simp)
@[simp] theorem takeFrame_pins (f : LinkFrame) (s : State) : (takeFrame f s).pins = s.pins := by unfold takeFrame; first | with_reducible rfl | ((try dsimp only); (repeat' split) <;> simp)
@[simp] theorem takeFrame_pending (f : LinkFrame) (s : State) : (takeFrame f s).pending = s.pending := by unfold takeFrame; first | with_reducible rfl | ((try dsimp only); (repeat' split) <;> simp)
@[simp] theorem takeFrame_free (f : LinkFrame) (s : State) : (takeFrame f s).free = s.free := by unfold takeFrame; first | with_reducible rfl | ((try dsimp only); (repeat' split) <;> simp)
@[simp] theorem takeFrame_sub_start (f : LinkFrame) (s : State) : (takeFrame f s).sub.start = s.sub.start := by unfold takeFrame; first | with_reducible rfl | ((try dsimp only); (repeat' split) <;> simp)
@[simp] theorem takeFrame_sub_nominalEnd (f : LinkFrame) (s : State) : (takeFrame f s).sub.nominalEnd = s.sub.nominalEnd := by unfold takeFrame; first | with_reducible rfl | ((try dsimp only); (repeat' split) <;> simp)
@[simp] theorem takeFrame_sub_elapsed (f : LinkFrame) (s : State) : (takeFrame f s).sub.elapsed = s.sub.elapsed := by unfold takeFrame; first | with_reducible rfl | ((try dsimp only); (repeat' split) <;> simp)
@[simp] theorem takeFrame_sub_rate (f : LinkFrame) (s : State) : (takeFrame f s).sub.rate = s.sub.rate := by unfold takeFrame; first | with_reducible rfl | ((try dsimp only); (repeat' split) <;> simp)
/-! ### enterStalled -/
@[simp] theorem enterStalled_store (c : Fin 4) (s : State) : (enterStalled c s).store = s.store := by unfold enterStalled; first | with_reducible rfl | ((try dsimp only); (repeat' split) <;> simp)
@[simp] theorem enterStalled_clock (c : Fin 4) (s : State) : (enterStalled c s).clock = s.clock := by unfold enterStalled; first | with_reducible rfl | ((try dsimp only); (repeat' split) <;> simp)
@[simp] theorem enterStalled_due (c : Fin 4) (s : State) : (enterStalled c s).due = s.due := by unfold enterStalled; first | with_reducible rfl | ((try dsimp only); (repeat' split) <;> simp)
@[simp] theorem enterStalled_tot (c : Fin 4) (s : State) : (enterStalled c s).tot = s.tot := by unfold enterStalled; first | with_reducible rfl | ((try dsimp only); (repeat' split) <;> simp)
@[simp] theorem enterStalled_dem (c : Fin 4) (s : State) : (enterStalled c s).dem = s.dem := by unfold enterStalled; first | with_reducible rfl | ((try dsimp only); (repeat' split) <;> simp)
@[simp] theorem enterStalled_per (c : Fin 4) (s : State) : (enterStalled c s).per = s.per := by unfold enterStalled; first | with_reducible rfl | ((try dsimp only); (repeat' split) <;> simp)
@[simp] theorem enterStalled_log (c : Fin 4) (s : State) : (enterStalled c s).log = s.log := by unfold enterStalled; first | with_reducible rfl | ((try dsimp only); (repeat' split) <;> simp)
@[simp] theorem enterStalled_lim (c : Fin 4) (s : State) : (enterStalled c s).lim = s.lim := by unfold enterStalled; first | with_reducible rfl | ((try dsimp only); (repeat' split) <;> simp)
@[simp] theorem enterStalled_sup (c : Fin 4) (s : State) : (enterStalled c s).sup = s.sup := by unfold enterStalled; first | with_reducible rfl | ((try dsimp only); (repeat' split) <;> simp)
@[simp] theorem enterStalled_pins (c : Fin 4) (s : State) : (enterStalled c s).pins = s.pins := by unfold enterStalled; first | with_reducible rfl | ((try dsimp only); (repeat' split) <;> simp)
@[simp] theorem enterStalled_pending (c : Fin 4) (s : State) : (enterStalled c s).pending = s.pending := by unfold enterStalled; first | with_reducible rfl | ((try dsimp only); (repeat' split) <;> simp)
@[simp] theorem enterStalled_sub_start (c : Fin 4) (s : State) : (enterStalled c s).sub.start = s.sub.start := by unfold enterStalled; first | with_reducible rfl | ((try dsimp only); (repeat' split) <;> simp)
@[simp] theorem enterStalled_sub_nominalEnd (c : Fin 4) (s : State) : (enterStalled c s).sub.nominalEnd = s.sub.nominalEnd := by unfold enterStalled; first | with_reducible rfl | ((try dsimp only); (repeat' split) <;> simp)
@[simp] theorem enterStalled_sub_elapsed (c : Fin 4) (s : State) : (enterStalled c s).sub.elapsed = s.sub.elapsed := by unfold enterStalled; first | with_reducible rfl | ((try dsimp only); (repeat' split) <;> simp)
@[simp] theorem enterStalled_sub_rate (c : Fin 4) (s : State) : (enterStalled c s).sub.rate = s.sub.rate := by unfold enterStalled; first | with_reducible rfl | ((try dsimp only); (repeat' split) <;> simp)

/-! ### stallSecond -/
@[simp] theorem stallSecond_store (c : Fin 4) (s : State) : (stallSecond c s).store = s.store := by unfold stallSecond; first | with_reducible rfl | ((try dsimp only); (repeat' split) <;> simp)
@[simp] theorem stallSecond_clock (c : Fin 4) (s : State) : (stallSecond c s).clock = s.clock := by unfold stallSecond; first | with_reducible rfl | ((try dsimp only); (repeat' split) <;> simp)
@[simp] theorem stallSecond_due (c : Fin 4) (s : State) : (stallSecond c s).due = s.due := by unfold stallSecond; first | with_reducible rfl | ((try dsimp only); (repeat' split) <;> simp)
@[simp] theorem stallSecond_tot (c : Fin 4) (s : State) : (stallSecond c s).tot = s.tot := by unfold stallSecond; first | with_reducible rfl | ((try dsimp only); (repeat' split) <;> simp)
@[simp] theorem stallSecond_dem (c : Fin 4) (s : State) : (stallSecond c s).dem = s.dem := by unfold stallSecond; first | with_reducible rfl | ((try dsimp only); (repeat' split) <;> simp)
@[simp] theorem stallSecond_per (c : Fin 4) (s : State) : (stallSecond c s).per = s.per := by unfold stallSecond; first | with_reducible rfl | ((try dsimp only); (repeat' split) <;> simp)
@[simp] theorem stallSecond_log (c : Fin 4) (s : State) : (stallSecond c s).log = s.log := by unfold stallSecond; first | with_reducible rfl | ((try dsimp only); (repeat' split) <;> simp)
@[simp] theorem stallSecond_lim (c : Fin 4) (s : State) : (stallSecond c s).lim = s.lim := by unfold stallSecond; first | with_reducible rfl | ((try dsimp only); (repeat' split) <;> simp)
@[simp] theorem stallSecond_sup (c : Fin 4) (s : State) : (stallSecond c s).sup = s.sup := by unfold stallSecond; first | with_reducible rfl | ((try dsimp only); (repeat' split) <;> simp)
@[simp] theorem stallSecond_pins (c : Fin 4) (s : State) : (stallSecond c s).pins = s.pins := by unfold stallSecond; first | with_reducible rfl | ((try dsimp only); (repeat' split) <;> simp)
@[simp] theorem stallSecond_pending (c : Fin 4) (s : State) : (stallSecond c s).pending = s.pending := by unfold stallSecond; first | with_reducible rfl | ((try dsimp only); (repeat' split) <;> simp)
@[simp] theorem stallSecond_sub_start (c : Fin 4) (s : State) : (stallSecond c s).sub.start = s.sub.start := by unfold stallSecond; first | with_reducible rfl | ((try dsimp only); (repeat' split) <;> simp)
@[simp] theorem stallSecond_sub_nominalEnd (c : Fin 4) (s : State) : (stallSecond c s).sub.nominalEnd = s.sub.nominalEnd := by unfold stallSecond; first | with_reducible rfl | ((try dsimp only); (repeat' split) <;> simp)
@[simp] theorem stallSecond_sub_elapsed (c : Fin 4) (s : State) : (stallSecond c s).sub.elapsed = s.sub.elapsed := by unfold stallSecond; first | with_reducible rfl | ((try dsimp only); (repeat' split) <;> simp)
@[simp] theorem stallSecond_sub_rate (c : Fin 4) (s : State) : (stallSecond c s).sub.rate = s.sub.rate := by unfold stallSecond; first | with_reducible rfl | ((try dsimp only); (repeat' split) <;> simp)
/-! ### countStall -/
@[simp] theorem countStall_store (c : Fin 4) (s : State) : (countStall c s).store = s.store := by unfold countStall; first | with_reducible rfl | ((try dsimp only); (repeat' split) <;> simp)
@[simp] theorem countStall_clock (c : Fin 4) (s : State) : (countStall c s).clock = s.clock := by unfold countStall; first | with_reducible rfl | ((try dsimp only); (repeat' split) <;> simp)
@[simp] theorem countStall_tot (c : Fin 4) (s : State) : (countStall c s).tot = s.tot := by unfold countStall; first | with_reducible rfl | ((try dsimp only); (repeat' split) <;> simp)
@[simp] theorem countStall_dem (c : Fin 4) (s : State) : (countStall c s).dem = s.dem := by unfold countStall; first | with_reducible rfl | ((try dsimp only); (repeat' split) <;> simp)
@[simp] theorem countStall_per (c : Fin 4) (s : State) : (countStall c s).per = s.per := by unfold countStall; first | with_reducible rfl | ((try dsimp only); (repeat' split) <;> simp)
@[simp] theorem countStall_log (c : Fin 4) (s : State) : (countStall c s).log = s.log := by unfold countStall; first | with_reducible rfl | ((try dsimp only); (repeat' split) <;> simp)
@[simp] theorem countStall_lim (c : Fin 4) (s : State) : (countStall c s).lim = s.lim := by unfold countStall; first | with_reducible rfl | ((try dsimp only); (repeat' split) <;> simp)
@[simp] theorem countStall_sup (c : Fin 4) (s : State) : (countStall c s).sup = s.sup := by unfold countStall; first | with_reducible rfl | ((try dsimp only); (repeat' split) <;> simp)
@[simp] theorem countStall_pins (c : Fin 4) (s : State) : (countStall c s).pins = s.pins := by unfold countStall; first | with_reducible rfl | ((try dsimp only); (repeat' split) <;> simp)
@[simp] theorem countStall_pending (c : Fin 4) (s : State) : (countStall c s).pending = s.pending := by unfold countStall; first | with_reducible rfl | ((try dsimp only); (repeat' split) <;> simp)
@[simp] theorem countStall_free (c : Fin 4) (s : State) : (countStall c s).free = s.free := by
  unfold countStall
  split
  · rfl
  · rename_i h
    unfold stallSecond
    dsimp only
    split
    · rename_i hs
      rw [if_neg (fun ht => h (by rcases hs with hs | hs <;> simp [stallsNext, hs, ht]))]
      exact State.setChan_free _ _ _
    · rfl
@[simp] theorem countStall_sub_start (c : Fin 4) (s : State) : (countStall c s).sub.start = s.sub.start := by unfold countStall; first | with_reducible rfl | ((try dsimp only); (repeat' split) <;> simp)
@[simp] theorem countStall_sub_nominalEnd (c : Fin 4) (s : State) : (countStall c s).sub.nominalEnd = s.sub.nominalEnd := by unfold countStall; first | with_reducible rfl | ((try dsimp only); (repeat' split) <;> simp)
@[simp] theorem countStall_sub_elapsed (c : Fin 4) (s : State) : (countStall c s).sub.elapsed = s.sub.elapsed := by unfold countStall; first | with_reducible rfl | ((try dsimp only); (repeat' split) <;> simp)
@[simp] theorem countStall_sub_rate (c : Fin 4) (s : State) : (countStall c s).sub.rate = s.sub.rate := by unfold countStall; first | with_reducible rfl | ((try dsimp only); (repeat' split) <;> simp)
/-! ### takeStall -/
@[simp] theorem takeStall_store (c : Fin 4) (s : State) : (takeStall c s).store = s.store := by unfold takeStall; first | with_reducible rfl | ((try dsimp only); (repeat' split) <;> simp)
@[simp] theorem takeStall_clock (c : Fin 4) (s : State) : (takeStall c s).clock = s.clock := by unfold takeStall; first | with_reducible rfl | ((try dsimp only); (repeat' split) <;> simp)
@[simp] theorem takeStall_tot (c : Fin 4) (s : State) : (takeStall c s).tot = s.tot := by unfold takeStall; first | with_reducible rfl | ((try dsimp only); (repeat' split) <;> simp)
@[simp] theorem takeStall_dem (c : Fin 4) (s : State) : (takeStall c s).dem = s.dem := by unfold takeStall; first | with_reducible rfl | ((try dsimp only); (repeat' split) <;> simp)
@[simp] theorem takeStall_per (c : Fin 4) (s : State) : (takeStall c s).per = s.per := by unfold takeStall; first | with_reducible rfl | ((try dsimp only); (repeat' split) <;> simp)
@[simp] theorem takeStall_log (c : Fin 4) (s : State) : (takeStall c s).log = s.log := by unfold takeStall; first | with_reducible rfl | ((try dsimp only); (repeat' split) <;> simp)
@[simp] theorem takeStall_lim (c : Fin 4) (s : State) : (takeStall c s).lim = s.lim := by unfold takeStall; first | with_reducible rfl | ((try dsimp only); (repeat' split) <;> simp)
@[simp] theorem takeStall_sup (c : Fin 4) (s : State) : (takeStall c s).sup = s.sup := by unfold takeStall; first | with_reducible rfl | ((try dsimp only); (repeat' split) <;> simp)
@[simp] theorem takeStall_pins (c : Fin 4) (s : State) : (takeStall c s).pins = s.pins := by unfold takeStall; first | with_reducible rfl | ((try dsimp only); (repeat' split) <;> simp)
@[simp] theorem takeStall_pending (c : Fin 4) (s : State) : (takeStall c s).pending = s.pending := by unfold takeStall; first | with_reducible rfl | ((try dsimp only); (repeat' split) <;> simp)
@[simp] theorem takeStall_sub_start (c : Fin 4) (s : State) : (takeStall c s).sub.start = s.sub.start := by unfold takeStall; first | with_reducible rfl | ((try dsimp only); (repeat' split) <;> simp)
@[simp] theorem takeStall_sub_nominalEnd (c : Fin 4) (s : State) : (takeStall c s).sub.nominalEnd = s.sub.nominalEnd := by unfold takeStall; first | with_reducible rfl | ((try dsimp only); (repeat' split) <;> simp)
@[simp] theorem takeStall_sub_elapsed (c : Fin 4) (s : State) : (takeStall c s).sub.elapsed = s.sub.elapsed := by unfold takeStall; first | with_reducible rfl | ((try dsimp only); (repeat' split) <;> simp)
@[simp] theorem takeStall_sub_rate (c : Fin 4) (s : State) : (takeStall c s).sub.rate = s.sub.rate := by unfold takeStall; first | with_reducible rfl | ((try dsimp only); (repeat' split) <;> simp)
/-! ### channelsStarted -/
@[simp] theorem channelsStarted_store (s : State) : (channelsStarted s).store = s.store := by unfold channelsStarted; first | with_reducible rfl | ((try dsimp only); (repeat' split) <;> simp)
@[simp] theorem channelsStarted_clock (s : State) : (channelsStarted s).clock = s.clock := by unfold channelsStarted; first | with_reducible rfl | ((try dsimp only); (repeat' split) <;> simp)
@[simp] theorem channelsStarted_sub (s : State) : (channelsStarted s).sub = s.sub := by unfold channelsStarted; first | with_reducible rfl | ((try dsimp only); (repeat' split) <;> simp)
@[simp] theorem channelsStarted_due (s : State) : (channelsStarted s).due = s.due := by unfold channelsStarted; first | with_reducible rfl | ((try dsimp only); (repeat' split) <;> simp)
@[simp] theorem channelsStarted_tot (s : State) : (channelsStarted s).tot = s.tot := by unfold channelsStarted; first | with_reducible rfl | ((try dsimp only); (repeat' split) <;> simp)
@[simp] theorem channelsStarted_dem (s : State) : (channelsStarted s).dem = s.dem := by unfold channelsStarted; first | with_reducible rfl | ((try dsimp only); (repeat' split) <;> simp)
@[simp] theorem channelsStarted_per (s : State) : (channelsStarted s).per = s.per := by unfold channelsStarted; first | with_reducible rfl | ((try dsimp only); (repeat' split) <;> simp)
@[simp] theorem channelsStarted_log (s : State) : (channelsStarted s).log = s.log := by unfold channelsStarted; first | with_reducible rfl | ((try dsimp only); (repeat' split) <;> simp)
@[simp] theorem channelsStarted_lim (s : State) : (channelsStarted s).lim = s.lim := by unfold channelsStarted; first | with_reducible rfl | ((try dsimp only); (repeat' split) <;> simp)
@[simp] theorem channelsStarted_util (s : State) : (channelsStarted s).util = s.util := by unfold channelsStarted; first | with_reducible rfl | ((try dsimp only); (repeat' split) <;> simp)
@[simp] theorem channelsStarted_cust (s : State) : (channelsStarted s).cust = s.cust := by unfold channelsStarted; first | with_reducible rfl | ((try dsimp only); (repeat' split) <;> simp)
@[simp] theorem channelsStarted_sup (s : State) : (channelsStarted s).sup = s.sup := by unfold channelsStarted; first | with_reducible rfl | ((try dsimp only); (repeat' split) <;> simp)
@[simp] theorem channelsStarted_pins (s : State) : (channelsStarted s).pins = s.pins := by unfold channelsStarted; first | with_reducible rfl | ((try dsimp only); (repeat' split) <;> simp)
@[simp] theorem channelsStarted_pending (s : State) : (channelsStarted s).pending = s.pending := by unfold channelsStarted; first | with_reducible rfl | ((try dsimp only); (repeat' split) <;> simp)
@[simp] theorem channelsStarted_free (s : State) : (channelsStarted s).free = s.free := by unfold channelsStarted; first | with_reducible rfl | ((try dsimp only); (repeat' split) <;> simp)

/-! ### writeRecord -/
@[simp] theorem writeRecord_store (b : LogBody) (s : State) : (writeRecord b s).store = s.store := by unfold writeRecord; first | with_reducible rfl | ((try dsimp only); (repeat' split) <;> simp)
@[simp] theorem writeRecord_clock (b : LogBody) (s : State) : (writeRecord b s).clock = s.clock := by unfold writeRecord; first | with_reducible rfl | ((try dsimp only); (repeat' split) <;> simp)
@[simp] theorem writeRecord_sub (b : LogBody) (s : State) : (writeRecord b s).sub = s.sub := by unfold writeRecord; first | with_reducible rfl | ((try dsimp only); (repeat' split) <;> simp)
@[simp] theorem writeRecord_due (b : LogBody) (s : State) : (writeRecord b s).due = s.due := by unfold writeRecord; first | with_reducible rfl | ((try dsimp only); (repeat' split) <;> simp)
@[simp] theorem writeRecord_chans (b : LogBody) (s : State) : (writeRecord b s).chans = s.chans := by unfold writeRecord; first | with_reducible rfl | ((try dsimp only); (repeat' split) <;> simp)
@[simp] theorem writeRecord_tot (b : LogBody) (s : State) : (writeRecord b s).tot = s.tot := by unfold writeRecord; first | with_reducible rfl | ((try dsimp only); (repeat' split) <;> simp)
@[simp] theorem writeRecord_dem (b : LogBody) (s : State) : (writeRecord b s).dem = s.dem := by unfold writeRecord; first | with_reducible rfl | ((try dsimp only); (repeat' split) <;> simp)
@[simp] theorem writeRecord_per (b : LogBody) (s : State) : (writeRecord b s).per = s.per := by unfold writeRecord; first | with_reducible rfl | ((try dsimp only); (repeat' split) <;> simp)
@[simp] theorem writeRecord_lim (b : LogBody) (s : State) : (writeRecord b s).lim = s.lim := by unfold writeRecord; first | with_reducible rfl | ((try dsimp only); (repeat' split) <;> simp)
@[simp] theorem writeRecord_sup (b : LogBody) (s : State) : (writeRecord b s).sup = s.sup := by unfold writeRecord; first | with_reducible rfl | ((try dsimp only); (repeat' split) <;> simp)
@[simp] theorem writeRecord_pins (b : LogBody) (s : State) : (writeRecord b s).pins = s.pins := by unfold writeRecord; first | with_reducible rfl | ((try dsimp only); (repeat' split) <;> simp)
@[simp] theorem writeRecord_pending (b : LogBody) (s : State) : (writeRecord b s).pending = s.pending := by unfold writeRecord; first | with_reducible rfl | ((try dsimp only); (repeat' split) <;> simp)
@[simp] theorem writeRecord_free (b : LogBody) (s : State) : (writeRecord b s).free = s.free := by unfold writeRecord; first | with_reducible rfl | ((try dsimp only); (repeat' split) <;> simp)
@[simp] theorem writeRecord_log_clearBusy (b : LogBody) (s : State) : (writeRecord b s).log.clearBusy = s.log.clearBusy := by unfold writeRecord; first | with_reducible rfl | ((try dsimp only); (repeat' split) <;> simp)
@[simp] theorem writeRecord_log_slot (b : LogBody) (s : State) : (writeRecord b s).log.slot = s.log.slot := by unfold writeRecord; first | with_reducible rfl | ((try dsimp only); (repeat' split) <;> simp)
/-! ### slotRecord -/
@[simp] theorem slotRecord_store (b : LogBody) (s : State) : (slotRecord b s).store = s.store := by unfold slotRecord; first | with_reducible rfl | ((try dsimp only); (repeat' split) <;> simp)
@[simp] theorem slotRecord_clock (b : LogBody) (s : State) : (slotRecord b s).clock = s.clock := by unfold slotRecord; first | with_reducible rfl | ((try dsimp only); (repeat' split) <;> simp)
@[simp] theorem slotRecord_sub (b : LogBody) (s : State) : (slotRecord b s).sub = s.sub := by unfold slotRecord; first | with_reducible rfl | ((try dsimp only); (repeat' split) <;> simp)
@[simp] theorem slotRecord_due (b : LogBody) (s : State) : (slotRecord b s).due = s.due := by unfold slotRecord; first | with_reducible rfl | ((try dsimp only); (repeat' split) <;> simp)
@[simp] theorem slotRecord_chans (b : LogBody) (s : State) : (slotRecord b s).chans = s.chans := by unfold slotRecord; first | with_reducible rfl | ((try dsimp only); (repeat' split) <;> simp)
@[simp] theorem slotRecord_tot (b : LogBody) (s : State) : (slotRecord b s).tot = s.tot := by unfold slotRecord; first | with_reducible rfl | ((try dsimp only); (repeat' split) <;> simp)
@[simp] theorem slotRecord_dem (b : LogBody) (s : State) : (slotRecord b s).dem = s.dem := by unfold slotRecord; first | with_reducible rfl | ((try dsimp only); (repeat' split) <;> simp)
@[simp] theorem slotRecord_per (b : LogBody) (s : State) : (slotRecord b s).per = s.per := by unfold slotRecord; first | with_reducible rfl | ((try dsimp only); (repeat' split) <;> simp)
@[simp] theorem slotRecord_lim (b : LogBody) (s : State) : (slotRecord b s).lim = s.lim := by unfold slotRecord; first | with_reducible rfl | ((try dsimp only); (repeat' split) <;> simp)
@[simp] theorem slotRecord_util (b : LogBody) (s : State) : (slotRecord b s).util = s.util := by unfold slotRecord; first | with_reducible rfl | ((try dsimp only); (repeat' split) <;> simp)
@[simp] theorem slotRecord_cust (b : LogBody) (s : State) : (slotRecord b s).cust = s.cust := by unfold slotRecord; first | with_reducible rfl | ((try dsimp only); (repeat' split) <;> simp)
@[simp] theorem slotRecord_sup (b : LogBody) (s : State) : (slotRecord b s).sup = s.sup := by unfold slotRecord; first | with_reducible rfl | ((try dsimp only); (repeat' split) <;> simp)
@[simp] theorem slotRecord_pins (b : LogBody) (s : State) : (slotRecord b s).pins = s.pins := by unfold slotRecord; first | with_reducible rfl | ((try dsimp only); (repeat' split) <;> simp)
@[simp] theorem slotRecord_pending (b : LogBody) (s : State) : (slotRecord b s).pending = s.pending := by unfold slotRecord; first | with_reducible rfl | ((try dsimp only); (repeat' split) <;> simp)
@[simp] theorem slotRecord_free (b : LogBody) (s : State) : (slotRecord b s).free = s.free := by unfold slotRecord; first | with_reducible rfl | ((try dsimp only); (repeat' split) <;> simp)
@[simp] theorem slotRecord_log_records (b : LogBody) (s : State) : (slotRecord b s).log.records = s.log.records := by unfold slotRecord; first | with_reducible rfl | ((try dsimp only); (repeat' split) <;> simp)
@[simp] theorem slotRecord_log_nextSeq (b : LogBody) (s : State) : (slotRecord b s).log.nextSeq = s.log.nextSeq := by unfold slotRecord; first | with_reducible rfl | ((try dsimp only); (repeat' split) <;> simp)
@[simp] theorem slotRecord_log_clearBusy (b : LogBody) (s : State) : (slotRecord b s).log.clearBusy = s.log.clearBusy := by unfold slotRecord; first | with_reducible rfl | ((try dsimp only); (repeat' split) <;> simp)
/-! ### logRecord -/
@[simp] theorem logRecord_store (b : LogBody) (s : State) : (logRecord b s).store = s.store := by unfold logRecord; first | with_reducible rfl | ((try dsimp only); (repeat' split) <;> simp)
@[simp] theorem logRecord_clock (b : LogBody) (s : State) : (logRecord b s).clock = s.clock := by unfold logRecord; first | with_reducible rfl | ((try dsimp only); (repeat' split) <;> simp)
@[simp] theorem logRecord_sub (b : LogBody) (s : State) : (logRecord b s).sub = s.sub := by unfold logRecord; first | with_reducible rfl | ((try dsimp only); (repeat' split) <;> simp)
@[simp] theorem logRecord_due (b : LogBody) (s : State) : (logRecord b s).due = s.due := by unfold logRecord; first | with_reducible rfl | ((try dsimp only); (repeat' split) <;> simp)
@[simp] theorem logRecord_chans (b : LogBody) (s : State) : (logRecord b s).chans = s.chans := by unfold logRecord; first | with_reducible rfl | ((try dsimp only); (repeat' split) <;> simp)
@[simp] theorem logRecord_tot (b : LogBody) (s : State) : (logRecord b s).tot = s.tot := by unfold logRecord; first | with_reducible rfl | ((try dsimp only); (repeat' split) <;> simp)
@[simp] theorem logRecord_dem (b : LogBody) (s : State) : (logRecord b s).dem = s.dem := by unfold logRecord; first | with_reducible rfl | ((try dsimp only); (repeat' split) <;> simp)
@[simp] theorem logRecord_per (b : LogBody) (s : State) : (logRecord b s).per = s.per := by unfold logRecord; first | with_reducible rfl | ((try dsimp only); (repeat' split) <;> simp)
@[simp] theorem logRecord_lim (b : LogBody) (s : State) : (logRecord b s).lim = s.lim := by unfold logRecord; first | with_reducible rfl | ((try dsimp only); (repeat' split) <;> simp)
@[simp] theorem logRecord_sup (b : LogBody) (s : State) : (logRecord b s).sup = s.sup := by unfold logRecord; first | with_reducible rfl | ((try dsimp only); (repeat' split) <;> simp)
@[simp] theorem logRecord_pins (b : LogBody) (s : State) : (logRecord b s).pins = s.pins := by unfold logRecord; first | with_reducible rfl | ((try dsimp only); (repeat' split) <;> simp)
@[simp] theorem logRecord_pending (b : LogBody) (s : State) : (logRecord b s).pending = s.pending := by unfold logRecord; first | with_reducible rfl | ((try dsimp only); (repeat' split) <;> simp)
@[simp] theorem logRecord_free (b : LogBody) (s : State) : (logRecord b s).free = s.free := by unfold logRecord; first | with_reducible rfl | ((try dsimp only); (repeat' split) <;> simp)
@[simp] theorem logRecord_log_clearBusy (b : LogBody) (s : State) : (logRecord b s).log.clearBusy = s.log.clearBusy := by unfold logRecord; first | with_reducible rfl | ((try dsimp only); (repeat' split) <;> simp)
/-! ### logMarker -/
@[simp] theorem logMarker_store (kind : RecordKind) (payload : List Nat) (s : State) : (logMarker kind payload s).store = s.store := by unfold logMarker; first | with_reducible rfl | ((try dsimp only); (repeat' split) <;> simp)
@[simp] theorem logMarker_clock (kind : RecordKind) (payload : List Nat) (s : State) : (logMarker kind payload s).clock = s.clock := by unfold logMarker; first | with_reducible rfl | ((try dsimp only); (repeat' split) <;> simp)
@[simp] theorem logMarker_sub (kind : RecordKind) (payload : List Nat) (s : State) : (logMarker kind payload s).sub = s.sub := by unfold logMarker; first | with_reducible rfl | ((try dsimp only); (repeat' split) <;> simp)
@[simp] theorem logMarker_due (kind : RecordKind) (payload : List Nat) (s : State) : (logMarker kind payload s).due = s.due := by unfold logMarker; first | with_reducible rfl | ((try dsimp only); (repeat' split) <;> simp)
@[simp] theorem logMarker_chans (kind : RecordKind) (payload : List Nat) (s : State) : (logMarker kind payload s).chans = s.chans := by unfold logMarker; first | with_reducible rfl | ((try dsimp only); (repeat' split) <;> simp)
@[simp] theorem logMarker_tot (kind : RecordKind) (payload : List Nat) (s : State) : (logMarker kind payload s).tot = s.tot := by unfold logMarker; first | with_reducible rfl | ((try dsimp only); (repeat' split) <;> simp)
@[simp] theorem logMarker_dem (kind : RecordKind) (payload : List Nat) (s : State) : (logMarker kind payload s).dem = s.dem := by unfold logMarker; first | with_reducible rfl | ((try dsimp only); (repeat' split) <;> simp)
@[simp] theorem logMarker_per (kind : RecordKind) (payload : List Nat) (s : State) : (logMarker kind payload s).per = s.per := by unfold logMarker; first | with_reducible rfl | ((try dsimp only); (repeat' split) <;> simp)
@[simp] theorem logMarker_lim (kind : RecordKind) (payload : List Nat) (s : State) : (logMarker kind payload s).lim = s.lim := by unfold logMarker; first | with_reducible rfl | ((try dsimp only); (repeat' split) <;> simp)
@[simp] theorem logMarker_sup (kind : RecordKind) (payload : List Nat) (s : State) : (logMarker kind payload s).sup = s.sup := by unfold logMarker; first | with_reducible rfl | ((try dsimp only); (repeat' split) <;> simp)
@[simp] theorem logMarker_pins (kind : RecordKind) (payload : List Nat) (s : State) : (logMarker kind payload s).pins = s.pins := by unfold logMarker; first | with_reducible rfl | ((try dsimp only); (repeat' split) <;> simp)
@[simp] theorem logMarker_pending (kind : RecordKind) (payload : List Nat) (s : State) : (logMarker kind payload s).pending = s.pending := by unfold logMarker; first | with_reducible rfl | ((try dsimp only); (repeat' split) <;> simp)
@[simp] theorem logMarker_free (kind : RecordKind) (payload : List Nat) (s : State) : (logMarker kind payload s).free = s.free := by unfold logMarker; first | with_reducible rfl | ((try dsimp only); (repeat' split) <;> simp)
@[simp] theorem logMarker_log_clearBusy (kind : RecordKind) (payload : List Nat) (s : State) : (logMarker kind payload s).log.clearBusy = s.log.clearBusy := by unfold logMarker; first | with_reducible rfl | ((try dsimp only); (repeat' split) <;> simp)
/-! ### logData -/
@[simp] theorem logData_store (r : SubRecord) (s : State) : (logData r s).store = s.store := by unfold logData; first | with_reducible rfl | ((try dsimp only); (repeat' split) <;> simp)
@[simp] theorem logData_clock (r : SubRecord) (s : State) : (logData r s).clock = s.clock := by unfold logData; first | with_reducible rfl | ((try dsimp only); (repeat' split) <;> simp)
@[simp] theorem logData_sub (r : SubRecord) (s : State) : (logData r s).sub = s.sub := by unfold logData; first | with_reducible rfl | ((try dsimp only); (repeat' split) <;> simp)
@[simp] theorem logData_due (r : SubRecord) (s : State) : (logData r s).due = s.due := by unfold logData; first | with_reducible rfl | ((try dsimp only); (repeat' split) <;> simp)
@[simp] theorem logData_chans (r : SubRecord) (s : State) : (logData r s).chans = s.chans := by unfold logData; first | with_reducible rfl | ((try dsimp only); (repeat' split) <;> simp)
@[simp] theorem logData_tot (r : SubRecord) (s : State) : (logData r s).tot = s.tot := by unfold logData; first | with_reducible rfl | ((try dsimp only); (repeat' split) <;> simp)
@[simp] theorem logData_dem (r : SubRecord) (s : State) : (logData r s).dem = s.dem := by unfold logData; first | with_reducible rfl | ((try dsimp only); (repeat' split) <;> simp)
@[simp] theorem logData_per (r : SubRecord) (s : State) : (logData r s).per = s.per := by unfold logData; first | with_reducible rfl | ((try dsimp only); (repeat' split) <;> simp)
@[simp] theorem logData_lim (r : SubRecord) (s : State) : (logData r s).lim = s.lim := by unfold logData; first | with_reducible rfl | ((try dsimp only); (repeat' split) <;> simp)
@[simp] theorem logData_sup (r : SubRecord) (s : State) : (logData r s).sup = s.sup := by unfold logData; first | with_reducible rfl | ((try dsimp only); (repeat' split) <;> simp)
@[simp] theorem logData_pins (r : SubRecord) (s : State) : (logData r s).pins = s.pins := by unfold logData; first | with_reducible rfl | ((try dsimp only); (repeat' split) <;> simp)
@[simp] theorem logData_pending (r : SubRecord) (s : State) : (logData r s).pending = s.pending := by unfold logData; first | with_reducible rfl | ((try dsimp only); (repeat' split) <;> simp)
@[simp] theorem logData_free (r : SubRecord) (s : State) : (logData r s).free = s.free := by unfold logData; first | with_reducible rfl | ((try dsimp only); (repeat' split) <;> simp)
@[simp] theorem logData_log_clearBusy (r : SubRecord) (s : State) : (logData r s).log.clearBusy = s.log.clearBusy := by unfold logData; first | with_reducible rfl | ((try dsimp only); (repeat' split) <;> simp)
/-! ### placeChecked -/
@[simp] theorem placeChecked_store (p : Port) (c : Cursor) (s : State) : (placeChecked p c s).store = s.store := by unfold placeChecked; first | with_reducible rfl | ((try dsimp only); (repeat' split) <;> simp)
@[simp] theorem placeChecked_clock (p : Port) (c : Cursor) (s : State) : (placeChecked p c s).clock = s.clock := by unfold placeChecked; first | with_reducible rfl | ((try dsimp only); (repeat' split) <;> simp)
@[simp] theorem placeChecked_sub (p : Port) (c : Cursor) (s : State) : (placeChecked p c s).sub = s.sub := by unfold placeChecked; first | with_reducible rfl | ((try dsimp only); (repeat' split) <;> simp)
@[simp] theorem placeChecked_due (p : Port) (c : Cursor) (s : State) : (placeChecked p c s).due = s.due := by unfold placeChecked; first | with_reducible rfl | ((try dsimp only); (repeat' split) <;> simp)
@[simp] theorem placeChecked_chans (p : Port) (c : Cursor) (s : State) : (placeChecked p c s).chans = s.chans := by unfold placeChecked; first | with_reducible rfl | ((try dsimp only); (repeat' split) <;> simp)
@[simp] theorem placeChecked_tot (p : Port) (c : Cursor) (s : State) : (placeChecked p c s).tot = s.tot := by unfold placeChecked; first | with_reducible rfl | ((try dsimp only); (repeat' split) <;> simp)
@[simp] theorem placeChecked_dem (p : Port) (c : Cursor) (s : State) : (placeChecked p c s).dem = s.dem := by unfold placeChecked; first | with_reducible rfl | ((try dsimp only); (repeat' split) <;> simp)
@[simp] theorem placeChecked_per (p : Port) (c : Cursor) (s : State) : (placeChecked p c s).per = s.per := by unfold placeChecked; first | with_reducible rfl | ((try dsimp only); (repeat' split) <;> simp)
@[simp] theorem placeChecked_log (p : Port) (c : Cursor) (s : State) : (placeChecked p c s).log = s.log := by unfold placeChecked; first | with_reducible rfl | ((try dsimp only); (repeat' split) <;> simp)
@[simp] theorem placeChecked_lim (p : Port) (c : Cursor) (s : State) : (placeChecked p c s).lim = s.lim := by unfold placeChecked; first | with_reducible rfl | ((try dsimp only); (repeat' split) <;> simp)
@[simp] theorem placeChecked_sup (p : Port) (c : Cursor) (s : State) : (placeChecked p c s).sup = s.sup := by unfold placeChecked; first | with_reducible rfl | ((try dsimp only); (repeat' split) <;> simp)
@[simp] theorem placeChecked_pins (p : Port) (c : Cursor) (s : State) : (placeChecked p c s).pins = s.pins := by unfold placeChecked; first | with_reducible rfl | ((try dsimp only); (repeat' split) <;> simp)
@[simp] theorem placeChecked_pending (p : Port) (c : Cursor) (s : State) : (placeChecked p c s).pending = s.pending := by unfold placeChecked; first | with_reducible rfl | ((try dsimp only); (repeat' split) <;> simp)
@[simp] theorem placeChecked_free (p : Port) (c : Cursor) (s : State) : (placeChecked p c s).free = s.free := by unfold placeChecked; first | with_reducible rfl | ((try dsimp only); (repeat' split) <;> simp)
/-! ### startClear -/
@[simp] theorem startClear_store (s : State) : (startClear s).store = s.store := by unfold startClear; first | with_reducible rfl | ((try dsimp only); (repeat' split) <;> simp)
@[simp] theorem startClear_clock (s : State) : (startClear s).clock = s.clock := by unfold startClear; first | with_reducible rfl | ((try dsimp only); (repeat' split) <;> simp)
@[simp] theorem startClear_sub (s : State) : (startClear s).sub = s.sub := by unfold startClear; first | with_reducible rfl | ((try dsimp only); (repeat' split) <;> simp)
@[simp] theorem startClear_due (s : State) : (startClear s).due = s.due := by unfold startClear; first | with_reducible rfl | ((try dsimp only); (repeat' split) <;> simp)
@[simp] theorem startClear_chans (s : State) : (startClear s).chans = s.chans := by unfold startClear; first | with_reducible rfl | ((try dsimp only); (repeat' split) <;> simp)
@[simp] theorem startClear_tot (s : State) : (startClear s).tot = s.tot := by unfold startClear; first | with_reducible rfl | ((try dsimp only); (repeat' split) <;> simp)
@[simp] theorem startClear_dem (s : State) : (startClear s).dem = s.dem := by unfold startClear; first | with_reducible rfl | ((try dsimp only); (repeat' split) <;> simp)
@[simp] theorem startClear_per (s : State) : (startClear s).per = s.per := by unfold startClear; first | with_reducible rfl | ((try dsimp only); (repeat' split) <;> simp)
@[simp] theorem startClear_lim (s : State) : (startClear s).lim = s.lim := by unfold startClear; first | with_reducible rfl | ((try dsimp only); (repeat' split) <;> simp)
@[simp] theorem startClear_util (s : State) : (startClear s).util = s.util := by unfold startClear; first | with_reducible rfl | ((try dsimp only); (repeat' split) <;> simp)
@[simp] theorem startClear_cust (s : State) : (startClear s).cust = s.cust := by unfold startClear; first | with_reducible rfl | ((try dsimp only); (repeat' split) <;> simp)
@[simp] theorem startClear_sup (s : State) : (startClear s).sup = s.sup := by unfold startClear; first | with_reducible rfl | ((try dsimp only); (repeat' split) <;> simp)
@[simp] theorem startClear_pins (s : State) : (startClear s).pins = s.pins := by unfold startClear; first | with_reducible rfl | ((try dsimp only); (repeat' split) <;> simp)
@[simp] theorem startClear_pending (s : State) : (startClear s).pending = s.pending := by unfold startClear; first | with_reducible rfl | ((try dsimp only); (repeat' split) <;> simp)
@[simp] theorem startClear_free (s : State) : (startClear s).free = s.free := by unfold startClear; first | with_reducible rfl | ((try dsimp only); (repeat' split) <;> simp)
@[simp] theorem startClear_log_records (s : State) : (startClear s).log.records = s.log.records := by unfold startClear; first | with_reducible rfl | ((try dsimp only); (repeat' split) <;> simp)
@[simp] theorem startClear_log_nextSeq (s : State) : (startClear s).log.nextSeq = s.log.nextSeq := by unfold startClear; first | with_reducible rfl | ((try dsimp only); (repeat' split) <;> simp)
/-! ### writeHeld -/
@[simp] theorem writeHeld_store (held : Option LogBody) (s : State) : (writeHeld held s).store = s.store := by unfold writeHeld; first | with_reducible rfl | ((try dsimp only); (repeat' split) <;> simp)
@[simp] theorem writeHeld_clock (held : Option LogBody) (s : State) : (writeHeld held s).clock = s.clock := by unfold writeHeld; first | with_reducible rfl | ((try dsimp only); (repeat' split) <;> simp)
@[simp] theorem writeHeld_sub (held : Option LogBody) (s : State) : (writeHeld held s).sub = s.sub := by unfold writeHeld; first | with_reducible rfl | ((try dsimp only); (repeat' split) <;> simp)
@[simp] theorem writeHeld_due (held : Option LogBody) (s : State) : (writeHeld held s).due = s.due := by unfold writeHeld; first | with_reducible rfl | ((try dsimp only); (repeat' split) <;> simp)
@[simp] theorem writeHeld_chans (held : Option LogBody) (s : State) : (writeHeld held s).chans = s.chans := by unfold writeHeld; first | with_reducible rfl | ((try dsimp only); (repeat' split) <;> simp)
@[simp] theorem writeHeld_tot (held : Option LogBody) (s : State) : (writeHeld held s).tot = s.tot := by unfold writeHeld; first | with_reducible rfl | ((try dsimp only); (repeat' split) <;> simp)
@[simp] theorem writeHeld_dem (held : Option LogBody) (s : State) : (writeHeld held s).dem = s.dem := by unfold writeHeld; first | with_reducible rfl | ((try dsimp only); (repeat' split) <;> simp)
@[simp] theorem writeHeld_per (held : Option LogBody) (s : State) : (writeHeld held s).per = s.per := by unfold writeHeld; first | with_reducible rfl | ((try dsimp only); (repeat' split) <;> simp)
@[simp] theorem writeHeld_lim (held : Option LogBody) (s : State) : (writeHeld held s).lim = s.lim := by unfold writeHeld; first | with_reducible rfl | ((try dsimp only); (repeat' split) <;> simp)
@[simp] theorem writeHeld_sup (held : Option LogBody) (s : State) : (writeHeld held s).sup = s.sup := by unfold writeHeld; first | with_reducible rfl | ((try dsimp only); (repeat' split) <;> simp)
@[simp] theorem writeHeld_pins (held : Option LogBody) (s : State) : (writeHeld held s).pins = s.pins := by unfold writeHeld; first | with_reducible rfl | ((try dsimp only); (repeat' split) <;> simp)
@[simp] theorem writeHeld_pending (held : Option LogBody) (s : State) : (writeHeld held s).pending = s.pending := by unfold writeHeld; first | with_reducible rfl | ((try dsimp only); (repeat' split) <;> simp)
@[simp] theorem writeHeld_free (held : Option LogBody) (s : State) : (writeHeld held s).free = s.free := by unfold writeHeld; first | with_reducible rfl | ((try dsimp only); (repeat' split) <;> simp)
@[simp] theorem writeHeld_log_clearBusy (held : Option LogBody) (s : State) : (writeHeld held s).log.clearBusy = s.log.clearBusy := by unfold writeHeld; first | with_reducible rfl | ((try dsimp only); (repeat' split) <;> simp)
@[simp] theorem writeHeld_log_slot (held : Option LogBody) (s : State) : (writeHeld held s).log.slot = s.log.slot := by unfold writeHeld; first | with_reducible rfl | ((try dsimp only); (repeat' split) <;> simp)
/-! ### completeClear -/
@[simp] theorem completeClear_store (s : State) : (completeClear s).store = s.store := by unfold completeClear; first | with_reducible rfl | ((try dsimp only); (repeat' split) <;> simp)
@[simp] theorem completeClear_clock (s : State) : (completeClear s).clock = s.clock := by unfold completeClear; first | with_reducible rfl | ((try dsimp only); (repeat' split) <;> simp)
@[simp] theorem completeClear_sub (s : State) : (completeClear s).sub = s.sub := by unfold completeClear; first | with_reducible rfl | ((try dsimp only); (repeat' split) <;> simp)
@[simp] theorem completeClear_due (s : State) : (completeClear s).due = s.due := by unfold completeClear; first | with_reducible rfl | ((try dsimp only); (repeat' split) <;> simp)
@[simp] theorem completeClear_chans (s : State) : (completeClear s).chans = s.chans := by unfold completeClear; first | with_reducible rfl | ((try dsimp only); (repeat' split) <;> simp)
@[simp] theorem completeClear_tot (s : State) : (completeClear s).tot = s.tot := by unfold completeClear; first | with_reducible rfl | ((try dsimp only); (repeat' split) <;> simp)
@[simp] theorem completeClear_dem (s : State) : (completeClear s).dem = s.dem := by unfold completeClear; first | with_reducible rfl | ((try dsimp only); (repeat' split) <;> simp)
@[simp] theorem completeClear_per (s : State) : (completeClear s).per = s.per := by unfold completeClear; first | with_reducible rfl | ((try dsimp only); (repeat' split) <;> simp)
@[simp] theorem completeClear_lim (s : State) : (completeClear s).lim = s.lim := by unfold completeClear; first | with_reducible rfl | ((try dsimp only); (repeat' split) <;> simp)
@[simp] theorem completeClear_sup (s : State) : (completeClear s).sup = s.sup := by unfold completeClear; first | with_reducible rfl | ((try dsimp only); (repeat' split) <;> simp)
@[simp] theorem completeClear_pins (s : State) : (completeClear s).pins = s.pins := by unfold completeClear; first | with_reducible rfl | ((try dsimp only); (repeat' split) <;> simp)
@[simp] theorem completeClear_pending (s : State) : (completeClear s).pending = s.pending := by unfold completeClear; first | with_reducible rfl | ((try dsimp only); (repeat' split) <;> simp)
@[simp] theorem completeClear_free (s : State) : (completeClear s).free = s.free := by unfold completeClear; first | with_reducible rfl | ((try dsimp only); (repeat' split) <;> simp)
/-! ### finishClear -/
@[simp] theorem finishClear_store (s : State) : (finishClear s).store = s.store := by unfold finishClear; first | with_reducible rfl | ((try dsimp only); (repeat' split) <;> simp)
@[simp] theorem finishClear_clock (s : State) : (finishClear s).clock = s.clock := by unfold finishClear; first | with_reducible rfl | ((try dsimp only); (repeat' split) <;> simp)
@[simp] theorem finishClear_sub (s : State) : (finishClear s).sub = s.sub := by unfold finishClear; first | with_reducible rfl | ((try dsimp only); (repeat' split) <;> simp)
@[simp] theorem finishClear_due (s : State) : (finishClear s).due = s.due := by unfold finishClear; first | with_reducible rfl | ((try dsimp only); (repeat' split) <;> simp)
@[simp] theorem finishClear_chans (s : State) : (finishClear s).chans = s.chans := by unfold finishClear; first | with_reducible rfl | ((try dsimp only); (repeat' split) <;> simp)
@[simp] theorem finishClear_tot (s : State) : (finishClear s).tot = s.tot := by unfold finishClear; first | with_reducible rfl | ((try dsimp only); (repeat' split) <;> simp)
@[simp] theorem finishClear_dem (s : State) : (finishClear s).dem = s.dem := by unfold finishClear; first | with_reducible rfl | ((try dsimp only); (repeat' split) <;> simp)
@[simp] theorem finishClear_per (s : State) : (finishClear s).per = s.per := by unfold finishClear; first | with_reducible rfl | ((try dsimp only); (repeat' split) <;> simp)
@[simp] theorem finishClear_lim (s : State) : (finishClear s).lim = s.lim := by unfold finishClear; first | with_reducible rfl | ((try dsimp only); (repeat' split) <;> simp)
@[simp] theorem finishClear_sup (s : State) : (finishClear s).sup = s.sup := by unfold finishClear; first | with_reducible rfl | ((try dsimp only); (repeat' split) <;> simp)
@[simp] theorem finishClear_pins (s : State) : (finishClear s).pins = s.pins := by unfold finishClear; first | with_reducible rfl | ((try dsimp only); (repeat' split) <;> simp)
@[simp] theorem finishClear_pending (s : State) : (finishClear s).pending = s.pending := by unfold finishClear; first | with_reducible rfl | ((try dsimp only); (repeat' split) <;> simp)
@[simp] theorem finishClear_free (s : State) : (finishClear s).free = s.free := by unfold finishClear; first | with_reducible rfl | ((try dsimp only); (repeat' split) <;> simp)

/-! ### takeClose -/
@[simp] theorem takeClose_store (cause : StatusSet) (stop : Instant) (s : State) : (takeClose cause stop s).store = s.store := by unfold takeClose; first | with_reducible rfl | ((try dsimp only); (repeat' split) <;> simp)
@[simp] theorem takeClose_clock (cause : StatusSet) (stop : Instant) (s : State) : (takeClose cause stop s).clock = s.clock := by unfold takeClose; first | with_reducible rfl | ((try dsimp only); (repeat' split) <;> simp)
@[simp] theorem takeClose_sub (cause : StatusSet) (stop : Instant) (s : State) : (takeClose cause stop s).sub = s.sub := by unfold takeClose; first | with_reducible rfl | ((try dsimp only); (repeat' split) <;> simp)
@[simp] theorem takeClose_due (cause : StatusSet) (stop : Instant) (s : State) : (takeClose cause stop s).due = s.due := by unfold takeClose; first | with_reducible rfl | ((try dsimp only); (repeat' split) <;> simp)
@[simp] theorem takeClose_dem (cause : StatusSet) (stop : Instant) (s : State) : (takeClose cause stop s).dem = s.dem := by unfold takeClose; first | with_reducible rfl | ((try dsimp only); (repeat' split) <;> simp)
@[simp] theorem takeClose_per (cause : StatusSet) (stop : Instant) (s : State) : (takeClose cause stop s).per = s.per := by unfold takeClose; first | with_reducible rfl | ((try dsimp only); (repeat' split) <;> simp)
@[simp] theorem takeClose_log (cause : StatusSet) (stop : Instant) (s : State) : (takeClose cause stop s).log = s.log := by unfold takeClose; first | with_reducible rfl | ((try dsimp only); (repeat' split) <;> simp)
@[simp] theorem takeClose_lim (cause : StatusSet) (stop : Instant) (s : State) : (takeClose cause stop s).lim = s.lim := by unfold takeClose; first | with_reducible rfl | ((try dsimp only); (repeat' split) <;> simp)
@[simp] theorem takeClose_sup (cause : StatusSet) (stop : Instant) (s : State) : (takeClose cause stop s).sup = s.sup := by unfold takeClose; first | with_reducible rfl | ((try dsimp only); (repeat' split) <;> simp)
@[simp] theorem takeClose_pins (cause : StatusSet) (stop : Instant) (s : State) : (takeClose cause stop s).pins = s.pins := by unfold takeClose; first | with_reducible rfl | ((try dsimp only); (repeat' split) <;> simp)
@[simp] theorem takeClose_pending (cause : StatusSet) (stop : Instant) (s : State) : (takeClose cause stop s).pending = s.pending := by unfold takeClose; first | with_reducible rfl | ((try dsimp only); (repeat' split) <;> simp)
@[simp] theorem takeClose_free (cause : StatusSet) (stop : Instant) (s : State) : (takeClose cause stop s).free = s.free := by unfold takeClose; first | with_reducible rfl | ((try dsimp only); (repeat' split) <;> simp)

/-! ### State.raiseIf -/
@[simp] theorem State.raiseIf_store (s : State) (c : Bool) (f : AttnFlag) : (State.raiseIf s c f).store = s.store := by unfold State.raiseIf; first | with_reducible rfl | ((try dsimp only); (repeat' split) <;> simp)
@[simp] theorem State.raiseIf_clock (s : State) (c : Bool) (f : AttnFlag) : (State.raiseIf s c f).clock = s.clock := by unfold State.raiseIf; first | with_reducible rfl | ((try dsimp only); (repeat' split) <;> simp)
@[simp] theorem State.raiseIf_sub (s : State) (c : Bool) (f : AttnFlag) : (State.raiseIf s c f).sub = s.sub := by unfold State.raiseIf; first | with_reducible rfl | ((try dsimp only); (repeat' split) <;> simp)
@[simp] theorem State.raiseIf_due (s : State) (c : Bool) (f : AttnFlag) : (State.raiseIf s c f).due = s.due := by unfold State.raiseIf; first | with_reducible rfl | ((try dsimp only); (repeat' split) <;> simp)
@[simp] theorem State.raiseIf_chans (s : State) (c : Bool) (f : AttnFlag) : (State.raiseIf s c f).chans = s.chans := by unfold State.raiseIf; first | with_reducible rfl | ((try dsimp only); (repeat' split) <;> simp)
@[simp] theorem State.raiseIf_tot (s : State) (c : Bool) (f : AttnFlag) : (State.raiseIf s c f).tot = s.tot := by unfold State.raiseIf; first | with_reducible rfl | ((try dsimp only); (repeat' split) <;> simp)
@[simp] theorem State.raiseIf_dem (s : State) (c : Bool) (f : AttnFlag) : (State.raiseIf s c f).dem = s.dem := by unfold State.raiseIf; first | with_reducible rfl | ((try dsimp only); (repeat' split) <;> simp)
@[simp] theorem State.raiseIf_per (s : State) (c : Bool) (f : AttnFlag) : (State.raiseIf s c f).per = s.per := by unfold State.raiseIf; first | with_reducible rfl | ((try dsimp only); (repeat' split) <;> simp)
@[simp] theorem State.raiseIf_log (s : State) (c : Bool) (f : AttnFlag) : (State.raiseIf s c f).log = s.log := by unfold State.raiseIf; first | with_reducible rfl | ((try dsimp only); (repeat' split) <;> simp)
@[simp] theorem State.raiseIf_lim (s : State) (c : Bool) (f : AttnFlag) : (State.raiseIf s c f).lim = s.lim := by unfold State.raiseIf; first | with_reducible rfl | ((try dsimp only); (repeat' split) <;> simp)
@[simp] theorem State.raiseIf_sup (s : State) (c : Bool) (f : AttnFlag) : (State.raiseIf s c f).sup = s.sup := by unfold State.raiseIf; first | with_reducible rfl | ((try dsimp only); (repeat' split) <;> simp)
@[simp] theorem State.raiseIf_pins (s : State) (c : Bool) (f : AttnFlag) : (State.raiseIf s c f).pins = s.pins := by unfold State.raiseIf; first | with_reducible rfl | ((try dsimp only); (repeat' split) <;> simp)
@[simp] theorem State.raiseIf_pending (s : State) (c : Bool) (f : AttnFlag) : (State.raiseIf s c f).pending = s.pending := by unfold State.raiseIf; first | with_reducible rfl | ((try dsimp only); (repeat' split) <;> simp)
@[simp] theorem State.raiseIf_free (s : State) (c : Bool) (f : AttnFlag) : (State.raiseIf s c f).free = s.free := by unfold State.raiseIf; first | with_reducible rfl | ((try dsimp only); (repeat' split) <;> simp)
/-! ### demandArrival -/
@[simp] theorem demandArrival_store (r : SubRecord) (s : State) : (demandArrival r s).store = s.store := by unfold demandArrival; first | with_reducible rfl | ((try dsimp only); (repeat' split) <;> simp)
@[simp] theorem demandArrival_clock (r : SubRecord) (s : State) : (demandArrival r s).clock = s.clock := by unfold demandArrival; first | with_reducible rfl | ((try dsimp only); (repeat' split) <;> simp)
@[simp] theorem demandArrival_sub (r : SubRecord) (s : State) : (demandArrival r s).sub = s.sub := by unfold demandArrival; first | with_reducible rfl | ((try dsimp only); (repeat' split) <;> simp)
@[simp] theorem demandArrival_due (r : SubRecord) (s : State) : (demandArrival r s).due = s.due := by unfold demandArrival; first | with_reducible rfl | ((try dsimp only); (repeat' split) <;> simp)
@[simp] theorem demandArrival_chans (r : SubRecord) (s : State) : (demandArrival r s).chans = s.chans := by unfold demandArrival; first | with_reducible rfl | ((try dsimp only); (repeat' split) <;> simp)
@[simp] theorem demandArrival_tot (r : SubRecord) (s : State) : (demandArrival r s).tot = s.tot := by unfold demandArrival; first | with_reducible rfl | ((try dsimp only); (repeat' split) <;> simp)
@[simp] theorem demandArrival_per (r : SubRecord) (s : State) : (demandArrival r s).per = s.per := by unfold demandArrival; first | with_reducible rfl | ((try dsimp only); (repeat' split) <;> simp)
@[simp] theorem demandArrival_log (r : SubRecord) (s : State) : (demandArrival r s).log = s.log := by unfold demandArrival; first | with_reducible rfl | ((try dsimp only); (repeat' split) <;> simp)
@[simp] theorem demandArrival_lim (r : SubRecord) (s : State) : (demandArrival r s).lim = s.lim := by unfold demandArrival; first | with_reducible rfl | ((try dsimp only); (repeat' split) <;> simp)
@[simp] theorem demandArrival_sup (r : SubRecord) (s : State) : (demandArrival r s).sup = s.sup := by unfold demandArrival; first | with_reducible rfl | ((try dsimp only); (repeat' split) <;> simp)
@[simp] theorem demandArrival_pins (r : SubRecord) (s : State) : (demandArrival r s).pins = s.pins := by unfold demandArrival; first | with_reducible rfl | ((try dsimp only); (repeat' split) <;> simp)
@[simp] theorem demandArrival_pending (r : SubRecord) (s : State) : (demandArrival r s).pending = s.pending := by unfold demandArrival; first | with_reducible rfl | ((try dsimp only); (repeat' split) <;> simp)
@[simp] theorem demandArrival_free (r : SubRecord) (s : State) : (demandArrival r s).free = s.free := by unfold demandArrival; first | with_reducible rfl | ((try dsimp only); (repeat' split) <;> simp)
/-! ### emptyRing -/
@[simp] theorem emptyRing_store (s : State) : (emptyRing s).store = s.store := by unfold emptyRing; first | with_reducible rfl | ((try dsimp only); (repeat' split) <;> simp)
@[simp] theorem emptyRing_clock (s : State) : (emptyRing s).clock = s.clock := by unfold emptyRing; first | with_reducible rfl | ((try dsimp only); (repeat' split) <;> simp)
@[simp] theorem emptyRing_sub (s : State) : (emptyRing s).sub = s.sub := by unfold emptyRing; first | with_reducible rfl | ((try dsimp only); (repeat' split) <;> simp)
@[simp] theorem emptyRing_due (s : State) : (emptyRing s).due = s.due := by unfold emptyRing; first | with_reducible rfl | ((try dsimp only); (repeat' split) <;> simp)
@[simp] theorem emptyRing_chans (s : State) : (emptyRing s).chans = s.chans := by unfold emptyRing; first | with_reducible rfl | ((try dsimp only); (repeat' split) <;> simp)
@[simp] theorem emptyRing_tot (s : State) : (emptyRing s).tot = s.tot := by unfold emptyRing; first | with_reducible rfl | ((try dsimp only); (repeat' split) <;> simp)
@[simp] theorem emptyRing_per (s : State) : (emptyRing s).per = s.per := by unfold emptyRing; first | with_reducible rfl | ((try dsimp only); (repeat' split) <;> simp)
@[simp] theorem emptyRing_log (s : State) : (emptyRing s).log = s.log := by unfold emptyRing; first | with_reducible rfl | ((try dsimp only); (repeat' split) <;> simp)
@[simp] theorem emptyRing_lim (s : State) : (emptyRing s).lim = s.lim := by unfold emptyRing; first | with_reducible rfl | ((try dsimp only); (repeat' split) <;> simp)
@[simp] theorem emptyRing_util (s : State) : (emptyRing s).util = s.util := by unfold emptyRing; first | with_reducible rfl | ((try dsimp only); (repeat' split) <;> simp)
@[simp] theorem emptyRing_cust (s : State) : (emptyRing s).cust = s.cust := by unfold emptyRing; first | with_reducible rfl | ((try dsimp only); (repeat' split) <;> simp)
@[simp] theorem emptyRing_sup (s : State) : (emptyRing s).sup = s.sup := by unfold emptyRing; first | with_reducible rfl | ((try dsimp only); (repeat' split) <;> simp)
@[simp] theorem emptyRing_pins (s : State) : (emptyRing s).pins = s.pins := by unfold emptyRing; first | with_reducible rfl | ((try dsimp only); (repeat' split) <;> simp)
@[simp] theorem emptyRing_pending (s : State) : (emptyRing s).pending = s.pending := by unfold emptyRing; first | with_reducible rfl | ((try dsimp only); (repeat' split) <;> simp)
@[simp] theorem emptyRing_free (s : State) : (emptyRing s).free = s.free := by unfold emptyRing; first | with_reducible rfl | ((try dsimp only); (repeat' split) <;> simp)
@[simp] theorem emptyRing_dem_window (s : State) : (emptyRing s).dem.window = s.dem.window := by unfold emptyRing; first | with_reducible rfl | ((try dsimp only); (repeat' split) <;> simp)
@[simp] theorem emptyRing_dem_maxima (s : State) : (emptyRing s).dem.maxima = s.dem.maxima := by unfold emptyRing; first | with_reducible rfl | ((try dsimp only); (repeat' split) <;> simp)
@[simp] theorem emptyRing_dem_pickup (s : State) : (emptyRing s).dem.pickup = s.dem.pickup := by unfold emptyRing; first | with_reducible rfl | ((try dsimp only); (repeat' split) <;> simp)
/-! ### loadPickup -/
@[simp] theorem loadPickup_store (duration : Nat) (s : State) : (loadPickup duration s).store = s.store := by unfold loadPickup; first | with_reducible rfl | ((try dsimp only); (repeat' split) <;> simp)
@[simp] theorem loadPickup_clock (duration : Nat) (s : State) : (loadPickup duration s).clock = s.clock := by unfold loadPickup; first | with_reducible rfl | ((try dsimp only); (repeat' split) <;> simp)
@[simp] theorem loadPickup_sub (duration : Nat) (s : State) : (loadPickup duration s).sub = s.sub := by unfold loadPickup; first | with_reducible rfl | ((try dsimp only); (repeat' split) <;> simp)
@[simp] theorem loadPickup_due (duration : Nat) (s : State) : (loadPickup duration s).due = s.due := by unfold loadPickup; first | with_reducible rfl | ((try dsimp only); (repeat' split) <;> simp)
@[simp] theorem loadPickup_chans (duration : Nat) (s : State) : (loadPickup duration s).chans = s.chans := by unfold loadPickup; first | with_reducible rfl | ((try dsimp only); (repeat' split) <;> simp)
@[simp] theorem loadPickup_tot (duration : Nat) (s : State) : (loadPickup duration s).tot = s.tot := by unfold loadPickup; first | with_reducible rfl | ((try dsimp only); (repeat' split) <;> simp)
@[simp] theorem loadPickup_per (duration : Nat) (s : State) : (loadPickup duration s).per = s.per := by unfold loadPickup; first | with_reducible rfl | ((try dsimp only); (repeat' split) <;> simp)
@[simp] theorem loadPickup_log (duration : Nat) (s : State) : (loadPickup duration s).log = s.log := by unfold loadPickup; first | with_reducible rfl | ((try dsimp only); (repeat' split) <;> simp)
@[simp] theorem loadPickup_lim (duration : Nat) (s : State) : (loadPickup duration s).lim = s.lim := by unfold loadPickup; first | with_reducible rfl | ((try dsimp only); (repeat' split) <;> simp)
@[simp] theorem loadPickup_util (duration : Nat) (s : State) : (loadPickup duration s).util = s.util := by unfold loadPickup; first | with_reducible rfl | ((try dsimp only); (repeat' split) <;> simp)
@[simp] theorem loadPickup_cust (duration : Nat) (s : State) : (loadPickup duration s).cust = s.cust := by unfold loadPickup; first | with_reducible rfl | ((try dsimp only); (repeat' split) <;> simp)
@[simp] theorem loadPickup_sup (duration : Nat) (s : State) : (loadPickup duration s).sup = s.sup := by unfold loadPickup; first | with_reducible rfl | ((try dsimp only); (repeat' split) <;> simp)
@[simp] theorem loadPickup_pins (duration : Nat) (s : State) : (loadPickup duration s).pins = s.pins := by unfold loadPickup; first | with_reducible rfl | ((try dsimp only); (repeat' split) <;> simp)
@[simp] theorem loadPickup_pending (duration : Nat) (s : State) : (loadPickup duration s).pending = s.pending := by unfold loadPickup; first | with_reducible rfl | ((try dsimp only); (repeat' split) <;> simp)
@[simp] theorem loadPickup_free (duration : Nat) (s : State) : (loadPickup duration s).free = s.free := by unfold loadPickup; first | with_reducible rfl | ((try dsimp only); (repeat' split) <;> simp)
@[simp] theorem loadPickup_dem_ring (duration : Nat) (s : State) : (loadPickup duration s).dem.ring = s.dem.ring := by unfold loadPickup; first | with_reducible rfl | ((try dsimp only); (repeat' split) <;> simp)
@[simp] theorem loadPickup_dem_window (duration : Nat) (s : State) : (loadPickup duration s).dem.window = s.dem.window := by unfold loadPickup; first | with_reducible rfl | ((try dsimp only); (repeat' split) <;> simp)
@[simp] theorem loadPickup_dem_maxima (duration : Nat) (s : State) : (loadPickup duration s).dem.maxima = s.dem.maxima := by unfold loadPickup; first | with_reducible rfl | ((try dsimp only); (repeat' split) <;> simp)

/-! ### setProjection -/
@[simp] theorem setProjection_store (p : Projection) (s : State) : (setProjection p s).store = s.store := by unfold setProjection; first | with_reducible rfl | ((try dsimp only); (repeat' split) <;> simp)
@[simp] theorem setProjection_clock (p : Projection) (s : State) : (setProjection p s).clock = s.clock := by unfold setProjection; first | with_reducible rfl | ((try dsimp only); (repeat' split) <;> simp)
@[simp] theorem setProjection_sub (p : Projection) (s : State) : (setProjection p s).sub = s.sub := by unfold setProjection; first | with_reducible rfl | ((try dsimp only); (repeat' split) <;> simp)
@[simp] theorem setProjection_due (p : Projection) (s : State) : (setProjection p s).due = s.due := by unfold setProjection; first | with_reducible rfl | ((try dsimp only); (repeat' split) <;> simp)
@[simp] theorem setProjection_chans (p : Projection) (s : State) : (setProjection p s).chans = s.chans := by unfold setProjection; first | with_reducible rfl | ((try dsimp only); (repeat' split) <;> simp)
@[simp] theorem setProjection_tot (p : Projection) (s : State) : (setProjection p s).tot = s.tot := by unfold setProjection; first | with_reducible rfl | ((try dsimp only); (repeat' split) <;> simp)
@[simp] theorem setProjection_dem (p : Projection) (s : State) : (setProjection p s).dem = s.dem := by unfold setProjection; first | with_reducible rfl | ((try dsimp only); (repeat' split) <;> simp)
@[simp] theorem setProjection_per (p : Projection) (s : State) : (setProjection p s).per = s.per := by unfold setProjection; first | with_reducible rfl | ((try dsimp only); (repeat' split) <;> simp)
@[simp] theorem setProjection_log (p : Projection) (s : State) : (setProjection p s).log = s.log := by unfold setProjection; first | with_reducible rfl | ((try dsimp only); (repeat' split) <;> simp)
@[simp] theorem setProjection_util (p : Projection) (s : State) : (setProjection p s).util = s.util := by unfold setProjection; first | with_reducible rfl | ((try dsimp only); (repeat' split) <;> simp)
@[simp] theorem setProjection_cust (p : Projection) (s : State) : (setProjection p s).cust = s.cust := by unfold setProjection; first | with_reducible rfl | ((try dsimp only); (repeat' split) <;> simp)
@[simp] theorem setProjection_sup (p : Projection) (s : State) : (setProjection p s).sup = s.sup := by unfold setProjection; first | with_reducible rfl | ((try dsimp only); (repeat' split) <;> simp)
@[simp] theorem setProjection_pins (p : Projection) (s : State) : (setProjection p s).pins = s.pins := by unfold setProjection; first | with_reducible rfl | ((try dsimp only); (repeat' split) <;> simp)
@[simp] theorem setProjection_pending (p : Projection) (s : State) : (setProjection p s).pending = s.pending := by unfold setProjection; first | with_reducible rfl | ((try dsimp only); (repeat' split) <;> simp)
@[simp] theorem setProjection_free (p : Projection) (s : State) : (setProjection p s).free = s.free := by unfold setProjection; first | with_reducible rfl | ((try dsimp only); (repeat' split) <;> simp)
/-! ### resetProjection -/
@[simp] theorem resetProjection_store (s : State) : (resetProjection s).store = s.store := by unfold resetProjection; first | with_reducible rfl | ((try dsimp only); (repeat' split) <;> simp)
@[simp] theorem resetProjection_clock (s : State) : (resetProjection s).clock = s.clock := by unfold resetProjection; first | with_reducible rfl | ((try dsimp only); (repeat' split) <;> simp)
@[simp] theorem resetProjection_sub (s : State) : (resetProjection s).sub = s.sub := by unfold resetProjection; first | with_reducible rfl | ((try dsimp only); (repeat' split) <;> simp)
@[simp] theorem resetProjection_due (s : State) : (resetProjection s).due = s.due := by unfold resetProjection; first | with_reducible rfl | ((try dsimp only); (repeat' split) <;> simp)
@[simp] theorem resetProjection_chans (s : State) : (resetProjection s).chans = s.chans := by unfold resetProjection; first | with_reducible rfl | ((try dsimp only); (repeat' split) <;> simp)
@[simp] theorem resetProjection_tot (s : State) : (resetProjection s).tot = s.tot := by unfold resetProjection; first | with_reducible rfl | ((try dsimp only); (repeat' split) <;> simp)
@[simp] theorem resetProjection_dem (s : State) : (resetProjection s).dem = s.dem := by unfold resetProjection; first | with_reducible rfl | ((try dsimp only); (repeat' split) <;> simp)
@[simp] theorem resetProjection_per (s : State) : (resetProjection s).per = s.per := by unfold resetProjection; first | with_reducible rfl | ((try dsimp only); (repeat' split) <;> simp)
@[simp] theorem resetProjection_log (s : State) : (resetProjection s).log = s.log := by unfold resetProjection; first | with_reducible rfl | ((try dsimp only); (repeat' split) <;> simp)
@[simp] theorem resetProjection_util (s : State) : (resetProjection s).util = s.util := by unfold resetProjection; first | with_reducible rfl | ((try dsimp only); (repeat' split) <;> simp)
@[simp] theorem resetProjection_cust (s : State) : (resetProjection s).cust = s.cust := by unfold resetProjection; first | with_reducible rfl | ((try dsimp only); (repeat' split) <;> simp)
@[simp] theorem resetProjection_sup (s : State) : (resetProjection s).sup = s.sup := by unfold resetProjection; first | with_reducible rfl | ((try dsimp only); (repeat' split) <;> simp)
@[simp] theorem resetProjection_pins (s : State) : (resetProjection s).pins = s.pins := by unfold resetProjection; first | with_reducible rfl | ((try dsimp only); (repeat' split) <;> simp)
@[simp] theorem resetProjection_pending (s : State) : (resetProjection s).pending = s.pending := by unfold resetProjection; first | with_reducible rfl | ((try dsimp only); (repeat' split) <;> simp)
@[simp] theorem resetProjection_free (s : State) : (resetProjection s).free = s.free := by unfold resetProjection; first | with_reducible rfl | ((try dsimp only); (repeat' split) <;> simp)
/-! ### refreshShed -/
@[simp] theorem refreshShed_store (s : State) : (refreshShed s).store = s.store := by unfold refreshShed; first | with_reducible rfl | ((try dsimp only); (repeat' split) <;> simp)
@[simp] theorem refreshShed_clock (s : State) : (refreshShed s).clock = s.clock := by unfold refreshShed; first | with_reducible rfl | ((try dsimp only); (repeat' split) <;> simp)
@[simp] theorem refreshShed_sub (s : State) : (refreshShed s).sub = s.sub := by unfold refreshShed; first | with_reducible rfl | ((try dsimp only); (repeat' split) <;> simp)
@[simp] theorem refreshShed_due (s : State) : (refreshShed s).due = s.due := by unfold refreshShed; first | with_reducible rfl | ((try dsimp only); (repeat' split) <;> simp)
@[simp] theorem refreshShed_chans (s : State) : (refreshShed s).chans = s.chans := by unfold refreshShed; first | with_reducible rfl | ((try dsimp only); (repeat' split) <;> simp)
@[simp] theorem refreshShed_tot (s : State) : (refreshShed s).tot = s.tot := by unfold refreshShed; first | with_reducible rfl | ((try dsimp only); (repeat' split) <;> simp)
@[simp] theorem refreshShed_dem (s : State) : (refreshShed s).dem = s.dem := by unfold refreshShed; first | with_reducible rfl | ((try dsimp only); (repeat' split) <;> simp)
@[simp] theorem refreshShed_per (s : State) : (refreshShed s).per = s.per := by unfold refreshShed; first | with_reducible rfl | ((try dsimp only); (repeat' split) <;> simp)
@[simp] theorem refreshShed_log (s : State) : (refreshShed s).log = s.log := by unfold refreshShed; first | with_reducible rfl | ((try dsimp only); (repeat' split) <;> simp)
@[simp] theorem refreshShed_util (s : State) : (refreshShed s).util = s.util := by unfold refreshShed; first | with_reducible rfl | ((try dsimp only); (repeat' split) <;> simp)
@[simp] theorem refreshShed_cust (s : State) : (refreshShed s).cust = s.cust := by unfold refreshShed; first | with_reducible rfl | ((try dsimp only); (repeat' split) <;> simp)
@[simp] theorem refreshShed_sup (s : State) : (refreshShed s).sup = s.sup := by unfold refreshShed; first | with_reducible rfl | ((try dsimp only); (repeat' split) <;> simp)
@[simp] theorem refreshShed_pins (s : State) : (refreshShed s).pins = s.pins := by unfold refreshShed; first | with_reducible rfl | ((try dsimp only); (repeat' split) <;> simp)
@[simp] theorem refreshShed_pending (s : State) : (refreshShed s).pending = s.pending := by unfold refreshShed; first | with_reducible rfl | ((try dsimp only); (repeat' split) <;> simp)
@[simp] theorem refreshShed_free (s : State) : (refreshShed s).free = s.free := by unfold refreshShed; first | with_reducible rfl | ((try dsimp only); (repeat' split) <;> simp)
/-! ### evaluateComparators -/
@[simp] theorem evaluateComparators_store (s : State) : (evaluateComparators s).store = s.store := by unfold evaluateComparators; first | with_reducible rfl | ((try dsimp only); (repeat' split) <;> simp)
@[simp] theorem evaluateComparators_clock (s : State) : (evaluateComparators s).clock = s.clock := by unfold evaluateComparators; first | with_reducible rfl | ((try dsimp only); (repeat' split) <;> simp)
@[simp] theorem evaluateComparators_sub (s : State) : (evaluateComparators s).sub = s.sub := by unfold evaluateComparators; first | with_reducible rfl | ((try dsimp only); (repeat' split) <;> simp)
@[simp] theorem evaluateComparators_due (s : State) : (evaluateComparators s).due = s.due := by unfold evaluateComparators; first | with_reducible rfl | ((try dsimp only); (repeat' split) <;> simp)
@[simp] theorem evaluateComparators_chans (s : State) : (evaluateComparators s).chans = s.chans := by unfold evaluateComparators; first | with_reducible rfl | ((try dsimp only); (repeat' split) <;> simp)
@[simp] theorem evaluateComparators_tot (s : State) : (evaluateComparators s).tot = s.tot := by unfold evaluateComparators; first | with_reducible rfl | ((try dsimp only); (repeat' split) <;> simp)
@[simp] theorem evaluateComparators_dem (s : State) : (evaluateComparators s).dem = s.dem := by unfold evaluateComparators; first | with_reducible rfl | ((try dsimp only); (repeat' split) <;> simp)
@[simp] theorem evaluateComparators_per (s : State) : (evaluateComparators s).per = s.per := by unfold evaluateComparators; first | with_reducible rfl | ((try dsimp only); (repeat' split) <;> simp)
@[simp] theorem evaluateComparators_log (s : State) : (evaluateComparators s).log = s.log := by unfold evaluateComparators; first | with_reducible rfl | ((try dsimp only); (repeat' split) <;> simp)
@[simp] theorem evaluateComparators_sup (s : State) : (evaluateComparators s).sup = s.sup := by unfold evaluateComparators; first | with_reducible rfl | ((try dsimp only); (repeat' split) <;> simp)
@[simp] theorem evaluateComparators_pins (s : State) : (evaluateComparators s).pins = s.pins := by unfold evaluateComparators; first | with_reducible rfl | ((try dsimp only); (repeat' split) <;> simp)
@[simp] theorem evaluateComparators_pending (s : State) : (evaluateComparators s).pending = s.pending := by unfold evaluateComparators; first | with_reducible rfl | ((try dsimp only); (repeat' split) <;> simp)
@[simp] theorem evaluateComparators_free (s : State) : (evaluateComparators s).free = s.free := by unfold evaluateComparators; first | with_reducible rfl | ((try dsimp only); (repeat' split) <;> simp)
/-! ### monitorSecond -/
@[simp] theorem monitorSecond_store (s : State) : (monitorSecond s).store = s.store := by unfold monitorSecond; first | with_reducible rfl | ((try dsimp only); (repeat' split) <;> simp)
@[simp] theorem monitorSecond_clock (s : State) : (monitorSecond s).clock = s.clock := by unfold monitorSecond; first | with_reducible rfl | ((try dsimp only); (repeat' split) <;> simp)
@[simp] theorem monitorSecond_sub (s : State) : (monitorSecond s).sub = s.sub := by unfold monitorSecond; first | with_reducible rfl | ((try dsimp only); (repeat' split) <;> simp)
@[simp] theorem monitorSecond_due (s : State) : (monitorSecond s).due = s.due := by unfold monitorSecond; first | with_reducible rfl | ((try dsimp only); (repeat' split) <;> simp)
@[simp] theorem monitorSecond_chans (s : State) : (monitorSecond s).chans = s.chans := by unfold monitorSecond; first | with_reducible rfl | ((try dsimp only); (repeat' split) <;> simp)
@[simp] theorem monitorSecond_tot (s : State) : (monitorSecond s).tot = s.tot := by unfold monitorSecond; first | with_reducible rfl | ((try dsimp only); (repeat' split) <;> simp)
@[simp] theorem monitorSecond_dem (s : State) : (monitorSecond s).dem = s.dem := by unfold monitorSecond; first | with_reducible rfl | ((try dsimp only); (repeat' split) <;> simp)
@[simp] theorem monitorSecond_per (s : State) : (monitorSecond s).per = s.per := by unfold monitorSecond; first | with_reducible rfl | ((try dsimp only); (repeat' split) <;> simp)
@[simp] theorem monitorSecond_log (s : State) : (monitorSecond s).log = s.log := by unfold monitorSecond; first | with_reducible rfl | ((try dsimp only); (repeat' split) <;> simp)
@[simp] theorem monitorSecond_sup (s : State) : (monitorSecond s).sup = s.sup := by unfold monitorSecond; first | with_reducible rfl | ((try dsimp only); (repeat' split) <;> simp)
@[simp] theorem monitorSecond_pins (s : State) : (monitorSecond s).pins = s.pins := by unfold monitorSecond; first | with_reducible rfl | ((try dsimp only); (repeat' split) <;> simp)
@[simp] theorem monitorSecond_pending (s : State) : (monitorSecond s).pending = s.pending := by unfold monitorSecond; first | with_reducible rfl | ((try dsimp only); (repeat' split) <;> simp)
@[simp] theorem monitorSecond_free (s : State) : (monitorSecond s).free = s.free := by unfold monitorSecond; first | with_reducible rfl | ((try dsimp only); (repeat' split) <;> simp)
/-! ### monitorStarted -/
@[simp] theorem monitorStarted_store (s : State) : (monitorStarted s).store = s.store := by unfold monitorStarted; first | with_reducible rfl | ((try dsimp only); (repeat' split) <;> simp)
@[simp] theorem monitorStarted_clock (s : State) : (monitorStarted s).clock = s.clock := by unfold monitorStarted; first | with_reducible rfl | ((try dsimp only); (repeat' split) <;> simp)
@[simp] theorem monitorStarted_sub (s : State) : (monitorStarted s).sub = s.sub := by unfold monitorStarted; first | with_reducible rfl | ((try dsimp only); (repeat' split) <;> simp)
@[simp] theorem monitorStarted_due (s : State) : (monitorStarted s).due = s.due := by unfold monitorStarted; first | with_reducible rfl | ((try dsimp only); (repeat' split) <;> simp)
@[simp] theorem monitorStarted_chans (s : State) : (monitorStarted s).chans = s.chans := by unfold monitorStarted; first | with_reducible rfl | ((try dsimp only); (repeat' split) <;> simp)
@[simp] theorem monitorStarted_tot (s : State) : (monitorStarted s).tot = s.tot := by unfold monitorStarted; first | with_reducible rfl | ((try dsimp only); (repeat' split) <;> simp)
@[simp] theorem monitorStarted_dem (s : State) : (monitorStarted s).dem = s.dem := by unfold monitorStarted; first | with_reducible rfl | ((try dsimp only); (repeat' split) <;> simp)
@[simp] theorem monitorStarted_per (s : State) : (monitorStarted s).per = s.per := by unfold monitorStarted; first | with_reducible rfl | ((try dsimp only); (repeat' split) <;> simp)
@[simp] theorem monitorStarted_log (s : State) : (monitorStarted s).log = s.log := by unfold monitorStarted; first | with_reducible rfl | ((try dsimp only); (repeat' split) <;> simp)
@[simp] theorem monitorStarted_util (s : State) : (monitorStarted s).util = s.util := by unfold monitorStarted; first | with_reducible rfl | ((try dsimp only); (repeat' split) <;> simp)
@[simp] theorem monitorStarted_cust (s : State) : (monitorStarted s).cust = s.cust := by unfold monitorStarted; first | with_reducible rfl | ((try dsimp only); (repeat' split) <;> simp)
@[simp] theorem monitorStarted_sup (s : State) : (monitorStarted s).sup = s.sup := by unfold monitorStarted; first | with_reducible rfl | ((try dsimp only); (repeat' split) <;> simp)
@[simp] theorem monitorStarted_pins (s : State) : (monitorStarted s).pins = s.pins := by unfold monitorStarted; first | with_reducible rfl | ((try dsimp only); (repeat' split) <;> simp)
@[simp] theorem monitorStarted_pending (s : State) : (monitorStarted s).pending = s.pending := by unfold monitorStarted; first | with_reducible rfl | ((try dsimp only); (repeat' split) <;> simp)
@[simp] theorem monitorStarted_free (s : State) : (monitorStarted s).free = s.free := by unfold monitorStarted; first | with_reducible rfl | ((try dsimp only); (repeat' split) <;> simp)
/-! ### applyLimit -/
@[simp] theorem applyLimit_clock (k : Fin 4) (l : LimitConfig) (s : State) : (applyLimit k l s).clock = s.clock := by unfold applyLimit; first | with_reducible rfl | ((try dsimp only); (repeat' split) <;> simp)
@[simp] theorem applyLimit_sub (k : Fin 4) (l : LimitConfig) (s : State) : (applyLimit k l s).sub = s.sub := by unfold applyLimit; first | with_reducible rfl | ((try dsimp only); (repeat' split) <;> simp)
@[simp] theorem applyLimit_due (k : Fin 4) (l : LimitConfig) (s : State) : (applyLimit k l s).due = s.due := by unfold applyLimit; first | with_reducible rfl | ((try dsimp only); (repeat' split) <;> simp)
@[simp] theorem applyLimit_chans (k : Fin 4) (l : LimitConfig) (s : State) : (applyLimit k l s).chans = s.chans := by unfold applyLimit; first | with_reducible rfl | ((try dsimp only); (repeat' split) <;> simp)
@[simp] theorem applyLimit_tot (k : Fin 4) (l : LimitConfig) (s : State) : (applyLimit k l s).tot = s.tot := by unfold applyLimit; first | with_reducible rfl | ((try dsimp only); (repeat' split) <;> simp)
@[simp] theorem applyLimit_dem (k : Fin 4) (l : LimitConfig) (s : State) : (applyLimit k l s).dem = s.dem := by unfold applyLimit; first | with_reducible rfl | ((try dsimp only); (repeat' split) <;> simp)
@[simp] theorem applyLimit_per (k : Fin 4) (l : LimitConfig) (s : State) : (applyLimit k l s).per = s.per := by unfold applyLimit; first | with_reducible rfl | ((try dsimp only); (repeat' split) <;> simp)
@[simp] theorem applyLimit_log (k : Fin 4) (l : LimitConfig) (s : State) : (applyLimit k l s).log = s.log := by unfold applyLimit; first | with_reducible rfl | ((try dsimp only); (repeat' split) <;> simp)
@[simp] theorem applyLimit_util (k : Fin 4) (l : LimitConfig) (s : State) : (applyLimit k l s).util = s.util := by unfold applyLimit; first | with_reducible rfl | ((try dsimp only); (repeat' split) <;> simp)
@[simp] theorem applyLimit_cust (k : Fin 4) (l : LimitConfig) (s : State) : (applyLimit k l s).cust = s.cust := by unfold applyLimit; first | with_reducible rfl | ((try dsimp only); (repeat' split) <;> simp)
@[simp] theorem applyLimit_sup (k : Fin 4) (l : LimitConfig) (s : State) : (applyLimit k l s).sup = s.sup := by unfold applyLimit; first | with_reducible rfl | ((try dsimp only); (repeat' split) <;> simp)
@[simp] theorem applyLimit_pins (k : Fin 4) (l : LimitConfig) (s : State) : (applyLimit k l s).pins = s.pins := by unfold applyLimit; first | with_reducible rfl | ((try dsimp only); (repeat' split) <;> simp)
@[simp] theorem applyLimit_pending (k : Fin 4) (l : LimitConfig) (s : State) : (applyLimit k l s).pending = s.pending := by unfold applyLimit; first | with_reducible rfl | ((try dsimp only); (repeat' split) <;> simp)
@[simp] theorem applyLimit_free (k : Fin 4) (l : LimitConfig) (s : State) : (applyLimit k l s).free = s.free := by unfold applyLimit; first | with_reducible rfl | ((try dsimp only); (repeat' split) <;> simp)
@[simp] theorem applyLimit_store_writing (k : Fin 4) (l : LimitConfig) (s : State) : (applyLimit k l s).store.writing = s.store.writing := by unfold applyLimit; first | with_reducible rfl | ((try dsimp only); (repeat' split) <;> simp)
@[simp] theorem applyLimit_store_closeDates (k : Fin 4) (l : LimitConfig) (s : State) : (applyLimit k l s).store.closeDates = s.store.closeDates := by unfold applyLimit; first | with_reducible rfl | ((try dsimp only); (repeat' split) <;> simp)
@[simp] theorem applyLimit_store_active (k : Fin 4) (l : LimitConfig) (s : State) : (applyLimit k l s).store.active = s.store.active := by unfold applyLimit; first | with_reducible rfl | ((try dsimp only); (repeat' split) <;> simp)
@[simp] theorem applyLimit_store_pendSched (k : Fin 4) (l : LimitConfig) (s : State) : (applyLimit k l s).store.pendSched = s.store.pendSched := by unfold applyLimit; first | with_reducible rfl | ((try dsimp only); (repeat' split) <;> simp)

end Sys2Proof.Machine
end

