-- ==== Sys2Proof/Laws/FramesCloses.lean ====
section
/-! SUPPORT. Frames: for each operation of the closes, the store completion and the starts, one lemma for each part of the state that it leaves as it was. -/

set_option linter.all false

namespace Sys2Proof.Machine

/-! ### activateAtStart -/
@[simp] theorem activateAtStart_sub (s : State) : (activateAtStart s).sub = s.sub := by unfold activateAtStart; first | with_reducible rfl | ((try dsimp only); (repeat' split) <;> simp)
@[simp] theorem activateAtStart_due (s : State) : (activateAtStart s).due = s.due := by unfold activateAtStart; first | with_reducible rfl | ((try dsimp only); (repeat' split) <;> simp)
@[simp] theorem activateAtStart_chans (s : State) : (activateAtStart s).chans = s.chans := by unfold activateAtStart; first | with_reducible rfl | ((try dsimp only); (repeat' split) <;> simp)
@[simp] theorem activateAtStart_tot (s : State) : (activateAtStart s).tot = s.tot := by unfold activateAtStart; first | with_reducible rfl | ((try dsimp only); (repeat' split) <;> simp)
@[simp] theorem activateAtStart_dem (s : State) : (activateAtStart s).dem = s.dem := by unfold activateAtStart; first | with_reducible rfl | ((try dsimp only); (repeat' split) <;> simp)
@[simp] theorem activateAtStart_per (s : State) : (activateAtStart s).per = s.per := by unfold activateAtStart; first | with_reducible rfl | ((try dsimp only); (repeat' split) <;> simp)
@[simp] theorem activateAtStart_log (s : State) : (activateAtStart s).log = s.log := by unfold activateAtStart; first | with_reducible rfl | ((try dsimp only); (repeat' split) <;> simp)
@[simp] theorem activateAtStart_lim (s : State) : (activateAtStart s).lim = s.lim := by unfold activateAtStart; first | with_reducible rfl | ((try dsimp only); (repeat' split) <;> simp)
@[simp] theorem activateAtStart_sup (s : State) : (activateAtStart s).sup = s.sup := by unfold activateAtStart; first | with_reducible rfl | ((try dsimp only); (repeat' split) <;> simp)
@[simp] theorem activateAtStart_pins (s : State) : (activateAtStart s).pins = s.pins := by unfold activateAtStart; first | with_reducible rfl | ((try dsimp only); (repeat' split) <;> simp)
@[simp] theorem activateAtStart_pending (s : State) : (activateAtStart s).pending = s.pending := by unfold activateAtStart; first | with_reducible rfl | ((try dsimp only); (repeat' split) <;> simp)
@[simp] theorem activateAtStart_free (s : State) : (activateAtStart s).free = s.free := by unfold activateAtStart; first | with_reducible rfl | ((try dsimp only); (repeat' split) <;> simp)
@[simp] theorem activateAtStart_store_config (s : State) : (activateAtStart s).store.config = s.store.config := by unfold activateAtStart; first | with_reducible rfl | ((try dsimp only); (repeat' split) <;> simp)
@[simp] theorem activateAtStart_store_writing (s : State) : (activateAtStart s).store.writing = s.store.writing := by unfold activateAtStart; first | with_reducible rfl | ((try dsimp only); (repeat' split) <;> simp)
@[simp] theorem activateAtStart_store_closeDates (s : State) : (activateAtStart s).store.closeDates = s.store.closeDates := by unfold activateAtStart; first | with_reducible rfl | ((try dsimp only); (repeat' split) <;> simp)
@[simp] theorem activateAtStart_clock_now (s : State) : (activateAtStart s).clock.now = s.clock.now := by unfold activateAtStart; first | with_reducible rfl | ((try dsimp only); (repeat' split) <;> simp)
@[simp] theorem activateAtStart_clock_timeValid (s : State) : (activateAtStart s).clock.timeValid = s.clock.timeValid := by unfold activateAtStart; first | with_reducible rfl | ((try dsimp only); (repeat' split) <;> simp)
/-! ### placeSub -/
@[simp] theorem placeSub_store (start : Instant) (s : State) : (placeSub start s).store = s.store := by unfold placeSub; first | with_reducible rfl | ((try dsimp only); (repeat' split) <;> simp)
@[simp] theorem placeSub_clock (start : Instant) (s : State) : (placeSub start s).clock = s.clock := by unfold placeSub; first | with_reducible rfl | ((try dsimp only); (repeat' split) <;> simp)
@[simp] theorem placeSub_due (start : Instant) (s : State) : (placeSub start s).due = s.due := by unfold placeSub; first | with_reducible rfl | ((try dsimp only); (repeat' split) <;> simp)
@[simp] theorem placeSub_chans (start : Instant) (s : State) : (placeSub start s).chans = s.chans := by unfold placeSub; first | with_reducible rfl | ((try dsimp only); (repeat' split) <;> simp)
@[simp] theorem placeSub_tot (start : Instant) (s : State) : (placeSub start s).tot = s.tot := by unfold placeSub; first | with_reducible rfl | ((try dsimp only); (repeat' split) <;> simp)
@[simp] theorem placeSub_dem (start : Instant) (s : State) : (placeSub start s).dem = s.dem := by unfold placeSub; first | with_reducible rfl | ((try dsimp only); (repeat' split) <;> simp)
@[simp] theorem placeSub_per (start : Instant) (s : State) : (placeSub start s).per = s.per := by unfold placeSub; first | with_reducible rfl | ((try dsimp only); (repeat' split) <;> simp)
@[simp] theorem placeSub_log (start : Instant) (s : State) : (placeSub start s).log = s.log := by unfold placeSub; first | with_reducible rfl | ((try dsimp only); (repeat' split) <;> simp)
@[simp] theorem placeSub_lim (start : Instant) (s : State) : (placeSub start s).lim = s.lim := by unfold placeSub; first | with_reducible rfl | ((try dsimp only); (repeat' split) <;> simp)
@[simp] theorem placeSub_util (start : Instant) (s : State) : (placeSub start s).util = s.util := by unfold placeSub; first | with_reducible rfl | ((try dsimp only); (repeat' split) <;> simp)
@[simp] theorem placeSub_cust (start : Instant) (s : State) : (placeSub start s).cust = s.cust := by unfold placeSub; first | with_reducible rfl | ((try dsimp only); (repeat' split) <;> simp)
@[simp] theorem placeSub_sup (start : Instant) (s : State) : (placeSub start s).sup = s.sup := by unfold placeSub; first | with_reducible rfl | ((try dsimp only); (repeat' split) <;> simp)
@[simp] theorem placeSub_pins (start : Instant) (s : State) : (placeSub start s).pins = s.pins := by unfold placeSub; first | with_reducible rfl | ((try dsimp only); (repeat' split) <;> simp)
@[simp] theorem placeSub_pending (start : Instant) (s : State) : (placeSub start s).pending = s.pending := by unfold placeSub; first | with_reducible rfl | ((try dsimp only); (repeat' split) <;> simp)
@[simp] theorem placeSub_free (start : Instant) (s : State) : (placeSub start s).free = s.free := by unfold placeSub; first | with_reducible rfl | ((try dsimp only); (repeat' split) <;> simp)
/-! ### openNext -/
@[simp] theorem openNext_due (start : Instant) (s : State) : (openNext start s).due = s.due := by unfold openNext; first | with_reducible rfl | ((try dsimp only); (repeat' split) <;> simp)
@[simp] theorem openNext_chans (start : Instant) (s : State) : (openNext start s).chans = s.chans := by unfold openNext; first | with_reducible rfl | ((try dsimp only); (repeat' split) <;> simp)
@[simp] theorem openNext_tot (start : Instant) (s : State) : (openNext start s).tot = s.tot := by unfold openNext; first | with_reducible rfl | ((try dsimp only); (repeat' split) <;> simp)
@[simp] theorem openNext_dem (start : Instant) (s : State) : (openNext start s).dem = s.dem := by unfold openNext; first | with_reducible rfl | ((try dsimp only); (repeat' split) <;> simp)
@[simp] theorem openNext_per (start : Instant) (s : State) : (openNext start s).per = s.per := by unfold openNext; first | with_reducible rfl | ((try dsimp only); (repeat' split) <;> simp)
@[simp] theorem openNext_log (start : Instant) (s : State) : (openNext start s).log = s.log := by unfold openNext; first | with_reducible rfl | ((try dsimp only); (repeat' split) <;> simp)
@[simp] theorem openNext_lim (start : Instant) (s : State) : (openNext start s).lim = s.lim := by unfold openNext; first | with_reducible rfl | ((try dsimp only); (repeat' split) <;> simp)
@[simp] theorem openNext_sup (start : Instant) (s : State) : (openNext start s).sup = s.sup := by unfold openNext; first | with_reducible rfl | ((try dsimp only); (repeat' split) <;> simp)
@[simp] theorem openNext_pins (start : Instant) (s : State) : (openNext start s).pins = s.pins := by unfold openNext; first | with_reducible rfl | ((try dsimp only); (repeat' split) <;> simp)
@[simp] theorem openNext_pending (start : Instant) (s : State) : (openNext start s).pending = s.pending := by unfold openNext; first | with_reducible rfl | ((try dsimp only); (repeat' split) <;> simp)
@[simp] theorem openNext_free (start : Instant) (s : State) : (openNext start s).free = s.free := by unfold openNext; first | with_reducible rfl | ((try dsimp only); (repeat' split) <;> simp)
@[simp] theorem openNext_store_config (start : Instant) (s : State) : (openNext start s).store.config = s.store.config := by unfold openNext; first | with_reducible rfl | ((try dsimp only); (repeat' split) <;> simp)
@[simp] theorem openNext_store_writing (start : Instant) (s : State) : (openNext start s).store.writing = s.store.writing := by unfold openNext; first | with_reducible rfl | ((try dsimp only); (repeat' split) <;> simp)
@[simp] theorem openNext_store_closeDates (start : Instant) (s : State) : (openNext start s).store.closeDates = s.store.closeDates := by unfold openNext; first | with_reducible rfl | ((try dsimp only); (repeat' split) <;> simp)
@[simp] theorem openNext_clock_now (start : Instant) (s : State) : (openNext start s).clock.now = s.clock.now := by unfold openNext; first | with_reducible rfl | ((try dsimp only); (repeat' split) <;> simp)
@[simp] theorem openNext_clock_timeValid (start : Instant) (s : State) : (openNext start s).clock.timeValid = s.clock.timeValid := by unfold openNext; first | with_reducible rfl | ((try dsimp only); (repeat' split) <;> simp)
/-! ### scheduleMarker -/
@[simp] theorem scheduleMarker_store (effective : Option Nat) (s : State) : (scheduleMarker effective s).store = s.store := by unfold scheduleMarker; first | with_reducible rfl | ((try dsimp only); (repeat' split) <;> simp)
@[simp] theorem scheduleMarker_clock (effective : Option Nat) (s : State) : (scheduleMarker effective s).clock = s.clock := by unfold scheduleMarker; first | with_reducible rfl | ((try dsimp only); (repeat' split) <;> simp)
@[simp] theorem scheduleMarker_sub (effective : Option Nat) (s : State) : (scheduleMarker effective s).sub = s.sub := by unfold scheduleMarker; first | with_reducible rfl | ((try dsimp only); (repeat' split) <;> simp)
@[simp] theorem scheduleMarker_due (effective : Option Nat) (s : State) : (scheduleMarker effective s).due = s.due := by unfold scheduleMarker; first | with_reducible rfl | ((try dsimp only); (repeat' split) <;> simp)
@[simp] theorem scheduleMarker_chans (effective : Option Nat) (s : State) : (scheduleMarker effective s).chans = s.chans := by unfold scheduleMarker; first | with_reducible rfl | ((try dsimp only); (repeat' split) <;> simp)
@[simp] theorem scheduleMarker_tot (effective : Option Nat) (s : State) : (scheduleMarker effective s).tot = s.tot := by unfold scheduleMarker; first | with_reducible rfl | ((try dsimp only); (repeat' split) <;> simp)
@[simp] theorem scheduleMarker_dem (effective : Option Nat) (s : State) : (scheduleMarker effective s).dem = s.dem := by unfold scheduleMarker; first | with_reducible rfl | ((try dsimp only); (repeat' split) <;> simp)
@[simp] theorem scheduleMarker_per (effective : Option Nat) (s : State) : (scheduleMarker effective s).per = s.per := by unfold scheduleMarker; first | with_reducible rfl | ((try dsimp only); (repeat' split) <;> simp)
@[simp] theorem scheduleMarker_lim (effective : Option Nat) (s : State) : (scheduleMarker effective s).lim = s.lim := by unfold scheduleMarker; first | with_reducible rfl | ((try dsimp only); (repeat' split) <;> simp)
@[simp] theorem scheduleMarker_sup (effective : Option Nat) (s : State) : (scheduleMarker effective s).sup = s.sup := by unfold scheduleMarker; first | with_reducible rfl | ((try dsimp only); (repeat' split) <;> simp)
@[simp] theorem scheduleMarker_pins (effective : Option Nat) (s : State) : (scheduleMarker effective s).pins = s.pins := by unfold scheduleMarker; first | with_reducible rfl | ((try dsimp only); (repeat' split) <;> simp)
@[simp] theorem scheduleMarker_pending (effective : Option Nat) (s : State) : (scheduleMarker effective s).pending = s.pending := by unfold scheduleMarker; first | with_reducible rfl | ((try dsimp only); (repeat' split) <;> simp)
@[simp] theorem scheduleMarker_free (effective : Option Nat) (s : State) : (scheduleMarker effective s).free = s.free := by unfold scheduleMarker; first | with_reducible rfl | ((try dsimp only); (repeat' split) <;> simp)
@[simp] theorem scheduleMarker_log_clearBusy (effective : Option Nat) (s : State) : (scheduleMarker effective s).log.clearBusy = s.log.clearBusy := by unfold scheduleMarker; first | with_reducible rfl | ((try dsimp only); (repeat' split) <;> simp)
/-! ### handOn -/
@[simp] theorem handOn_store (r : SubRecord) (effective : Option Nat) (s : State) : (handOn r effective s).store = s.store := by unfold handOn; first | with_reducible rfl | ((try dsimp only); (repeat' split) <;> simp)
@[simp] theorem handOn_clock (r : SubRecord) (effective : Option Nat) (s : State) : (handOn r effective s).clock = s.clock := by unfold handOn; first | with_reducible rfl | ((try dsimp only); (repeat' split) <;> simp)
@[simp] theorem handOn_sub (r : SubRecord) (effective : Option Nat) (s : State) : (handOn r effective s).sub = s.sub := by unfold handOn; first | with_reducible rfl | ((try dsimp only); (repeat' split) <;> simp)
@[simp] theorem handOn_due (r : SubRecord) (effective : Option Nat) (s : State) : (handOn r effective s).due = s.due := by unfold handOn; first | with_reducible rfl | ((try dsimp only); (repeat' split) <;> simp)
@[simp] theorem handOn_chans (r : SubRecord) (effective : Option Nat) (s : State) : (handOn r effective s).chans = s.chans := by unfold handOn; first | with_reducible rfl | ((try dsimp only); (repeat' split) <;> simp)
@[simp] theorem handOn_tot (r : SubRecord) (effective : Option Nat) (s : State) : (handOn r effective s).tot = s.tot := by unfold handOn; first | with_reducible rfl | ((try dsimp only); (repeat' split) <;> simp)
@[simp] theorem handOn_per (r : SubRecord) (effective : Option Nat) (s : State) : (handOn r effective s).per = s.per := by unfold handOn; first | with_reducible rfl | ((try dsimp only); (repeat' split) <;> simp)
@[simp] theorem handOn_sup (r : SubRecord) (effective : Option Nat) (s : State) : (handOn r effective s).sup = s.sup := by unfold handOn; first | with_reducible rfl | ((try dsimp only); (repeat' split) <;> simp)
@[simp] theorem handOn_pins (r : SubRecord) (effective : Option Nat) (s : State) : (handOn r effective s).pins = s.pins := by unfold handOn; first | with_reducible rfl | ((try dsimp only); (repeat' split) <;> simp)
@[simp] theorem handOn_pending (r : SubRecord) (effective : Option Nat) (s : State) : (handOn r effective s).pending = s.pending := by unfold handOn; first | with_reducible rfl | ((try dsimp only); (repeat' split) <;> simp)
@[simp] theorem handOn_free (r : SubRecord) (effective : Option Nat) (s : State) : (handOn r effective s).free = s.free := by unfold handOn; first | with_reducible rfl | ((try dsimp only); (repeat' split) <;> simp)
@[simp] theorem handOn_log_clearBusy (r : SubRecord) (effective : Option Nat) (s : State) : (handOn r effective s).log.clearBusy = s.log.clearBusy := by unfold handOn; first | with_reducible rfl | ((try dsimp only); (repeat' split) <;> simp)
/-! ### closeWith -/
@[simp] theorem closeWith_due (cause : StatusSet) (stop : Instant) (between : State → State) (start : Instant) (s : State) (h : ∀ t, (between t).due = t.due) : (closeWith cause stop between start s).due = s.due := by unfold closeWith; simp [h]
@[simp] theorem closeWith_per (cause : StatusSet) (stop : Instant) (between : State → State) (start : Instant) (s : State) (h : ∀ t, (between t).per = t.per) : (closeWith cause stop between start s).per = s.per := by unfold closeWith; simp [h]
@[simp] theorem closeWith_sup (cause : StatusSet) (stop : Instant) (between : State → State) (start : Instant) (s : State) (h : ∀ t, (between t).sup = t.sup) : (closeWith cause stop between start s).sup = s.sup := by unfold closeWith; simp [h]
@[simp] theorem closeWith_pins (cause : StatusSet) (stop : Instant) (between : State → State) (start : Instant) (s : State) (h : ∀ t, (between t).pins = t.pins) : (closeWith cause stop between start s).pins = s.pins := by unfold closeWith; simp [h]
@[simp] theorem closeWith_pending (cause : StatusSet) (stop : Instant) (between : State → State) (start : Instant) (s : State) (h : ∀ t, (between t).pending = t.pending) : (closeWith cause stop between start s).pending = s.pending := by unfold closeWith; simp [h]
@[simp] theorem closeWith_free (cause : StatusSet) (stop : Instant) (between : State → State) (start : Instant) (s : State) (h : ∀ t, (between t).free = t.free) : (closeWith cause stop between start s).free = s.free := by unfold closeWith; simp [h]
@[simp] theorem closeWith_store_config (cause : StatusSet) (stop : Instant) (between : State → State) (start : Instant) (s : State) (h : ∀ t, (between t).store.config = t.store.config) : (closeWith cause stop between start s).store.config = s.store.config := by unfold closeWith; simp [h]
@[simp] theorem closeWith_store_writing (cause : StatusSet) (stop : Instant) (between : State → State) (start : Instant) (s : State) (h : ∀ t, (between t).store.writing = t.store.writing) : (closeWith cause stop between start s).store.writing = s.store.writing := by unfold closeWith; simp [h]
@[simp] theorem closeWith_store_closeDates (cause : StatusSet) (stop : Instant) (between : State → State) (start : Instant) (s : State) (h : ∀ t, (between t).store.closeDates = t.store.closeDates) : (closeWith cause stop between start s).store.closeDates = s.store.closeDates := by unfold closeWith; simp [h]
@[simp] theorem closeWith_clock_now (cause : StatusSet) (stop : Instant) (between : State → State) (start : Instant) (s : State) (h : ∀ t, (between t).clock.now = t.clock.now) : (closeWith cause stop between start s).clock.now = s.clock.now := by unfold closeWith; simp [h]
@[simp] theorem closeWith_clock_timeValid (cause : StatusSet) (stop : Instant) (between : State → State) (start : Instant) (s : State) (h : ∀ t, (between t).clock.timeValid = t.clock.timeValid) : (closeWith cause stop between start s).clock.timeValid = s.clock.timeValid := by unfold closeWith; simp [h]
@[simp] theorem closeWith_log_clearBusy (cause : StatusSet) (stop : Instant) (between : State → State) (start : Instant) (s : State) (h : ∀ t, (between t).log.clearBusy = t.log.clearBusy) : (closeWith cause stop between start s).log.clearBusy = s.log.clearBusy := by unfold closeWith; simp [h]
/-! ### closeNow -/
@[simp] theorem closeNow_due (cause : StatusSet) (s : State) : (closeNow cause s).due = s.due := by unfold closeNow; first | with_reducible rfl | ((try dsimp only); (repeat' split) <;> simp)
@[simp] theorem closeNow_per (cause : StatusSet) (s : State) : (closeNow cause s).per = s.per := by unfold closeNow; first | with_reducible rfl | ((try dsimp only); (repeat' split) <;> simp)
@[simp] theorem closeNow_sup (cause : StatusSet) (s : State) : (closeNow cause s).sup = s.sup := by unfold closeNow; first | with_reducible rfl | ((try dsimp only); (repeat' split) <;> simp)
@[simp] theorem closeNow_pins (cause : StatusSet) (s : State) : (closeNow cause s).pins = s.pins := by unfold closeNow; first | with_reducible rfl | ((try dsimp only); (repeat' split) <;> simp)
@[simp] theorem closeNow_pending (cause : StatusSet) (s : State) : (closeNow cause s).pending = s.pending := by unfold closeNow; first | with_reducible rfl | ((try dsimp only); (repeat' split) <;> simp)
@[simp] theorem closeNow_free (cause : StatusSet) (s : State) : (closeNow cause s).free = s.free := by unfold closeNow; first | with_reducible rfl | ((try dsimp only); (repeat' split) <;> simp)
@[simp] theorem closeNow_store_config (cause : StatusSet) (s : State) : (closeNow cause s).store.config = s.store.config := by unfold closeNow; first | with_reducible rfl | ((try dsimp only); (repeat' split) <;> simp)
@[simp] theorem closeNow_store_writing (cause : StatusSet) (s : State) : (closeNow cause s).store.writing = s.store.writing := by unfold closeNow; first | with_reducible rfl | ((try dsimp only); (repeat' split) <;> simp)
@[simp] theorem closeNow_store_closeDates (cause : StatusSet) (s : State) : (closeNow cause s).store.closeDates = s.store.closeDates := by unfold closeNow; first | with_reducible rfl | ((try dsimp only); (repeat' split) <;> simp)
@[simp] theorem closeNow_clock_now (cause : StatusSet) (s : State) : (closeNow cause s).clock.now = s.clock.now := by unfold closeNow; first | with_reducible rfl | ((try dsimp only); (repeat' split) <;> simp)
@[simp] theorem closeNow_clock_timeValid (cause : StatusSet) (s : State) : (closeNow cause s).clock.timeValid = s.clock.timeValid := by unfold closeNow; first | with_reducible rfl | ((try dsimp only); (repeat' split) <;> simp)
@[simp] theorem closeNow_log_clearBusy (cause : StatusSet) (s : State) : (closeNow cause s).log.clearBusy = s.log.clearBusy := by unfold closeNow; first | with_reducible rfl | ((try dsimp only); (repeat' split) <;> simp)
/-! ### forceClose -/
@[simp] theorem forceClose_due (f : StatusFlag) (s : State) : (forceClose f s).due = s.due := by unfold forceClose; first | with_reducible rfl | ((try dsimp only); (repeat' split) <;> simp)
@[simp] theorem forceClose_per (f : StatusFlag) (s : State) : (forceClose f s).per = s.per := by unfold forceClose; first | with_reducible rfl | ((try dsimp only); (repeat' split) <;> simp)
@[simp] theorem forceClose_sup (f : StatusFlag) (s : State) : (forceClose f s).sup = s.sup := by unfold forceClose; first | with_reducible rfl | ((try dsimp only); (repeat' split) <;> simp)
@[simp] theorem forceClose_pins (f : StatusFlag) (s : State) : (forceClose f s).pins = s.pins := by unfold forceClose; first | with_reducible rfl | ((try dsimp only); (repeat' split) <;> simp)
@[simp] theorem forceClose_pending (f : StatusFlag) (s : State) : (forceClose f s).pending = s.pending := by unfold forceClose; first | with_reducible rfl | ((try dsimp only); (repeat' split) <;> simp)
@[simp] theorem forceClose_free (f : StatusFlag) (s : State) : (forceClose f s).free = s.free := by unfold forceClose; first | with_reducible rfl | ((try dsimp only); (repeat' split) <;> simp)
@[simp] theorem forceClose_store_config (f : StatusFlag) (s : State) : (forceClose f s).store.config = s.store.config := by unfold forceClose; first | with_reducible rfl | ((try dsimp only); (repeat' split) <;> simp)
@[simp] theorem forceClose_store_writing (f : StatusFlag) (s : State) : (forceClose f s).store.writing = s.store.writing := by unfold forceClose; first | with_reducible rfl | ((try dsimp only); (repeat' split) <;> simp)
@[simp] theorem forceClose_store_closeDates (f : StatusFlag) (s : State) : (forceClose f s).store.closeDates = s.store.closeDates := by unfold forceClose; first | with_reducible rfl | ((try dsimp only); (repeat' split) <;> simp)
@[simp] theorem forceClose_clock_now (f : StatusFlag) (s : State) : (forceClose f s).clock.now = s.clock.now := by unfold forceClose; first | with_reducible rfl | ((try dsimp only); (repeat' split) <;> simp)
@[simp] theorem forceClose_clock_timeValid (f : StatusFlag) (s : State) : (forceClose f s).clock.timeValid = s.clock.timeValid := by unfold forceClose; first | with_reducible rfl | ((try dsimp only); (repeat' split) <;> simp)
@[simp] theorem forceClose_log_clearBusy (f : StatusFlag) (s : State) : (forceClose f s).log.clearBusy = s.log.clearBusy := by unfold forceClose; first | with_reducible rfl | ((try dsimp only); (repeat' split) <;> simp)
/-! ### closeExpired -/
@[simp] theorem closeExpired_due (s : State) : (closeExpired s).due = s.due := by unfold closeExpired; first | with_reducible rfl | ((try dsimp only); (repeat' split) <;> simp)
@[simp] theorem closeExpired_per (s : State) : (closeExpired s).per = s.per := by unfold closeExpired; first | with_reducible rfl | ((try dsimp only); (repeat' split) <;> simp)
@[simp] theorem closeExpired_sup (s : State) : (closeExpired s).sup = s.sup := by unfold closeExpired; first | with_reducible rfl | ((try dsimp only); (repeat' split) <;> simp)
@[simp] theorem closeExpired_pins (s : State) : (closeExpired s).pins = s.pins := by unfold closeExpired; first | with_reducible rfl | ((try dsimp only); (repeat' split) <;> simp)
@[simp] theorem closeExpired_pending (s : State) : (closeExpired s).pending = s.pending := by unfold closeExpired; first | with_reducible rfl | ((try dsimp only); (repeat' split) <;> simp)
@[simp] theorem closeExpired_free (s : State) : (closeExpired s).free = s.free := by unfold closeExpired; first | with_reducible rfl | ((try dsimp only); (repeat' split) <;> simp)
@[simp] theorem closeExpired_store_config (s : State) : (closeExpired s).store.config = s.store.config := by unfold closeExpired; first | with_reducible rfl | ((try dsimp only); (repeat' split) <;> simp)
@[simp] theorem closeExpired_store_writing (s : State) : (closeExpired s).store.writing = s.store.writing := by unfold closeExpired; first | with_reducible rfl | ((try dsimp only); (repeat' split) <;> simp)
@[simp] theorem closeExpired_store_closeDates (s : State) : (closeExpired s).store.closeDates = s.store.closeDates := by unfold closeExpired; first | with_reducible rfl | ((try dsimp only); (repeat' split) <;> simp)
@[simp] theorem closeExpired_clock_now (s : State) : (closeExpired s).clock.now = s.clock.now := by unfold closeExpired; first | with_reducible rfl | ((try dsimp only); (repeat' split) <;> simp)
@[simp] theorem closeExpired_clock_timeValid (s : State) : (closeExpired s).clock.timeValid = s.clock.timeValid := by unfold closeExpired; first | with_reducible rfl | ((try dsimp only); (repeat' split) <;> simp)
@[simp] theorem closeExpired_log_clearBusy (s : State) : (closeExpired s).log.clearBusy = s.log.clearBusy := by unfold closeExpired; first | with_reducible rfl | ((try dsimp only); (repeat' split) <;> simp)
/-! ### takeBoundary -/
@[simp] theorem takeBoundary_due (s : State) : (takeBoundary s).due = s.due := by unfold takeBoundary; first | with_reducible rfl | ((try dsimp only); (repeat' split) <;> simp)
@[simp] theorem takeBoundary_per (s : State) : (takeBoundary s).per = s.per := by unfold takeBoundary; first | with_reducible rfl | ((try dsimp only); (repeat' split) <;> simp)
@[simp] theorem takeBoundary_sup (s : State) : (takeBoundary s).sup = s.sup := by unfold takeBoundary; first | with_reducible rfl | ((try dsimp only); (repeat' split) <;> simp)
@[simp] theorem takeBoundary_pins (s : State) : (takeBoundary s).pins = s.pins := by unfold takeBoundary; first | with_reducible rfl | ((try dsimp only); (repeat' split) <;> simp)
@[simp] theorem takeBoundary_pending (s : State) : (takeBoundary s).pending = s.pending := by unfold takeBoundary; first | with_reducible rfl | ((try dsimp only); (repeat' split) <;> simp)
@[simp] theorem takeBoundary_free (s : State) : (takeBoundary s).free = s.free := by unfold takeBoundary; first | with_reducible rfl | ((try dsimp only); (repeat' split) <;> simp)
@[simp] theorem takeBoundary_store_config (s : State) : (takeBoundary s).store.config = s.store.config := by unfold takeBoundary; first | with_reducible rfl | ((try dsimp only); (repeat' split) <;> simp)
@[simp] theorem takeBoundary_store_writing (s : State) : (takeBoundary s).store.writing = s.store.writing := by unfold takeBoundary; first | with_reducible rfl | ((try dsimp only); (repeat' split) <;> simp)
@[simp] theorem takeBoundary_store_closeDates (s : State) : (takeBoundary s).store.closeDates = s.store.closeDates := by unfold takeBoundary; first | with_reducible rfl | ((try dsimp only); (repeat' split) <;> simp)
@[simp] theorem takeBoundary_clock_now (s : State) : (takeBoundary s).clock.now = s.clock.now := by unfold takeBoundary; first | with_reducible rfl | ((try dsimp only); (repeat' split) <;> simp)
@[simp] theorem takeBoundary_clock_timeValid (s : State) : (takeBoundary s).clock.timeValid = s.clock.timeValid := by unfold takeBoundary; first | with_reducible rfl | ((try dsimp only); (repeat' split) <;> simp)
@[simp] theorem takeBoundary_log_clearBusy (s : State) : (takeBoundary s).log.clearBusy = s.log.clearBusy := by unfold takeBoundary; first | with_reducible rfl | ((try dsimp only); (repeat' split) <;> simp)
/-! ### takeExpiry -/
@[simp] theorem takeExpiry_due (s : State) : (takeExpiry s).due = s.due := by unfold takeExpiry; first | with_reducible rfl | ((try dsimp only); (repeat' split) <;> simp)
@[simp] theorem takeExpiry_per (s : State) : (takeExpiry s).per = s.per := by unfold takeExpiry; first | with_reducible rfl | ((try dsimp only); (repeat' split) <;> simp)
@[simp] theorem takeExpiry_sup (s : State) : (takeExpiry s).sup = s.sup := by unfold takeExpiry; first | with_reducible rfl | ((try dsimp only); (repeat' split) <;> simp)
@[simp] theorem takeExpiry_pins (s : State) : (takeExpiry s).pins = s.pins := by unfold takeExpiry; first | with_reducible rfl | ((try dsimp only); (repeat' split) <;> simp)
@[simp] theorem takeExpiry_pending (s : State) : (takeExpiry s).pending = s.pending := by unfold takeExpiry; first | with_reducible rfl | ((try dsimp only); (repeat' split) <;> simp)
@[simp] theorem takeExpiry_free (s : State) : (takeExpiry s).free = s.free := by unfold takeExpiry; first | with_reducible rfl | ((try dsimp only); (repeat' split) <;> simp)
@[simp] theorem takeExpiry_store_config (s : State) : (takeExpiry s).store.config = s.store.config := by unfold takeExpiry; first | with_reducible rfl | ((try dsimp only); (repeat' split) <;> simp)
@[simp] theorem takeExpiry_store_writing (s : State) : (takeExpiry s).store.writing = s.store.writing := by unfold takeExpiry; first | with_reducible rfl | ((try dsimp only); (repeat' split) <;> simp)
@[simp] theorem takeExpiry_store_closeDates (s : State) : (takeExpiry s).store.closeDates = s.store.closeDates := by unfold takeExpiry; first | with_reducible rfl | ((try dsimp only); (repeat' split) <;> simp)
@[simp] theorem takeExpiry_clock_now (s : State) : (takeExpiry s).clock.now = s.clock.now := by unfold takeExpiry; first | with_reducible rfl | ((try dsimp only); (repeat' split) <;> simp)
@[simp] theorem takeExpiry_clock_timeValid (s : State) : (takeExpiry s).clock.timeValid = s.clock.timeValid := by unfold takeExpiry; first | with_reducible rfl | ((try dsimp only); (repeat' split) <;> simp)
@[simp] theorem takeExpiry_log_clearBusy (s : State) : (takeExpiry s).log.clearBusy = s.log.clearBusy := by unfold takeExpiry; first | with_reducible rfl | ((try dsimp only); (repeat' split) <;> simp)
/-! ### takeMidnight -/
@[simp] theorem takeMidnight_sub (s : State) : (takeMidnight s).sub = s.sub := by unfold takeMidnight; first | with_reducible rfl | ((try dsimp only); (repeat' split) <;> simp)
@[simp] theorem takeMidnight_chans (s : State) : (takeMidnight s).chans = s.chans := by unfold takeMidnight; first | with_reducible rfl | ((try dsimp only); (repeat' split) <;> simp)
@[simp] theorem takeMidnight_tot (s : State) : (takeMidnight s).tot = s.tot := by unfold takeMidnight; first | with_reducible rfl | ((try dsimp only); (repeat' split) <;> simp)
@[simp] theorem takeMidnight_dem (s : State) : (takeMidnight s).dem = s.dem := by unfold takeMidnight; first | with_reducible rfl | ((try dsimp only); (repeat' split) <;> simp)
@[simp] theorem takeMidnight_per (s : State) : (takeMidnight s).per = s.per := by unfold takeMidnight; first | with_reducible rfl | ((try dsimp only); (repeat' split) <;> simp)
@[simp] theorem takeMidnight_lim (s : State) : (takeMidnight s).lim = s.lim := by unfold takeMidnight; first | with_reducible rfl | ((try dsimp only); (repeat' split) <;> simp)
@[simp] theorem takeMidnight_sup (s : State) : (takeMidnight s).sup = s.sup := by unfold takeMidnight; first | with_reducible rfl | ((try dsimp only); (repeat' split) <;> simp)
@[simp] theorem takeMidnight_pins (s : State) : (takeMidnight s).pins = s.pins := by unfold takeMidnight; first | with_reducible rfl | ((try dsimp only); (repeat' split) <;> simp)
@[simp] theorem takeMidnight_pending (s : State) : (takeMidnight s).pending = s.pending := by unfold takeMidnight; first | with_reducible rfl | ((try dsimp only); (repeat' split) <;> simp)
@[simp] theorem takeMidnight_free (s : State) : (takeMidnight s).free = s.free := by unfold takeMidnight; first | with_reducible rfl | ((try dsimp only); (repeat' split) <;> simp)
@[simp] theorem takeMidnight_store_config (s : State) : (takeMidnight s).store.config = s.store.config := by unfold takeMidnight; first | with_reducible rfl | ((try dsimp only); (repeat' split) <;> simp)
@[simp] theorem takeMidnight_store_writing (s : State) : (takeMidnight s).store.writing = s.store.writing := by unfold takeMidnight; first | with_reducible rfl | ((try dsimp only); (repeat' split) <;> simp)
@[simp] theorem takeMidnight_store_closeDates (s : State) : (takeMidnight s).store.closeDates = s.store.closeDates := by unfold takeMidnight; first | with_reducible rfl | ((try dsimp only); (repeat' split) <;> simp)
@[simp] theorem takeMidnight_clock_now (s : State) : (takeMidnight s).clock.now = s.clock.now := by unfold takeMidnight; first | with_reducible rfl | ((try dsimp only); (repeat' split) <;> simp)
@[simp] theorem takeMidnight_clock_timeValid (s : State) : (takeMidnight s).clock.timeValid = s.clock.timeValid := by unfold takeMidnight; first | with_reducible rfl | ((try dsimp only); (repeat' split) <;> simp)
@[simp] theorem takeMidnight_log_clearBusy (s : State) : (takeMidnight s).log.clearBusy = s.log.clearBusy := by unfold takeMidnight; first | with_reducible rfl | ((try dsimp only); (repeat' split) <;> simp)
/-! ### freezePeriod -/
@[simp] theorem freezePeriod_store (cause : Cause) (clearDeferred : Bool) (s : State) : (freezePeriod cause clearDeferred s).store = s.store := by unfold freezePeriod; first | with_reducible rfl | ((try dsimp only); (repeat' split) <;> simp)
@[simp] theorem freezePeriod_clock (cause : Cause) (clearDeferred : Bool) (s : State) : (freezePeriod cause clearDeferred s).clock = s.clock := by unfold freezePeriod; first | with_reducible rfl | ((try dsimp only); (repeat' split) <;> simp)
@[simp] theorem freezePeriod_sub (cause : Cause) (clearDeferred : Bool) (s : State) : (freezePeriod cause clearDeferred s).sub = s.sub := by unfold freezePeriod; first | with_reducible rfl | ((try dsimp only); (repeat' split) <;> simp)
@[simp] theorem freezePeriod_due (cause : Cause) (clearDeferred : Bool) (s : State) : (freezePeriod cause clearDeferred s).due = s.due := by unfold freezePeriod; first | with_reducible rfl | ((try dsimp only); (repeat' split) <;> simp)
@[simp] theorem freezePeriod_chans (cause : Cause) (clearDeferred : Bool) (s : State) : (freezePeriod cause clearDeferred s).chans = s.chans := by unfold freezePeriod; first | with_reducible rfl | ((try dsimp only); (repeat' split) <;> simp)
@[simp] theorem freezePeriod_log (cause : Cause) (clearDeferred : Bool) (s : State) : (freezePeriod cause clearDeferred s).log = s.log := by unfold freezePeriod; first | with_reducible rfl | ((try dsimp only); (repeat' split) <;> simp)
@[simp] theorem freezePeriod_lim (cause : Cause) (clearDeferred : Bool) (s : State) : (freezePeriod cause clearDeferred s).lim = s.lim := by unfold freezePeriod; first | with_reducible rfl | ((try dsimp only); (repeat' split) <;> simp)
@[simp] theorem freezePeriod_util (cause : Cause) (clearDeferred : Bool) (s : State) : (freezePeriod cause clearDeferred s).util = s.util := by unfold freezePeriod; first | with_reducible rfl | ((try dsimp only); (repeat' split) <;> simp)
@[simp] theorem freezePeriod_cust (cause : Cause) (clearDeferred : Bool) (s : State) : (freezePeriod cause clearDeferred s).cust = s.cust := by unfold freezePeriod; first | with_reducible rfl | ((try dsimp only); (repeat' split) <;> simp)
@[simp] theorem freezePeriod_sup (cause : Cause) (clearDeferred : Bool) (s : State) : (freezePeriod cause clearDeferred s).sup = s.sup := by unfold freezePeriod; first | with_reducible rfl | ((try dsimp only); (repeat' split) <;> simp)
@[simp] theorem freezePeriod_pins (cause : Cause) (clearDeferred : Bool) (s : State) : (freezePeriod cause clearDeferred s).pins = s.pins := by unfold freezePeriod; first | with_reducible rfl | ((try dsimp only); (repeat' split) <;> simp)
@[simp] theorem freezePeriod_pending (cause : Cause) (clearDeferred : Bool) (s : State) : (freezePeriod cause clearDeferred s).pending = s.pending := by unfold freezePeriod; first | with_reducible rfl | ((try dsimp only); (repeat' split) <;> simp)
@[simp] theorem freezePeriod_free (cause : Cause) (clearDeferred : Bool) (s : State) : (freezePeriod cause clearDeferred s).free = s.free := by unfold freezePeriod; first | with_reducible rfl | ((try dsimp only); (repeat' split) <;> simp)
@[simp] theorem freezePeriod_tot_lastSeq (cause : Cause) (clearDeferred : Bool) (s : State) : (freezePeriod cause clearDeferred s).tot.lastSeq = s.tot.lastSeq := by unfold freezePeriod; first | with_reducible rfl | ((try dsimp only); (repeat' split) <;> simp)
@[simp] theorem freezePeriod_tot_acc (cause : Cause) (clearDeferred : Bool) (s : State) : (freezePeriod cause clearDeferred s).tot.acc = s.tot.acc := by unfold freezePeriod; first | with_reducible rfl | ((try dsimp only); (repeat' split) <;> simp)
@[simp] theorem freezePeriod_dem_ring (cause : Cause) (clearDeferred : Bool) (s : State) : (freezePeriod cause clearDeferred s).dem.ring = s.dem.ring := by unfold freezePeriod; first | with_reducible rfl | ((try dsimp only); (repeat' split) <;> simp)
@[simp] theorem freezePeriod_dem_window (cause : Cause) (clearDeferred : Bool) (s : State) : (freezePeriod cause clearDeferred s).dem.window = s.dem.window := by unfold freezePeriod; first | with_reducible rfl | ((try dsimp only); (repeat' split) <;> simp)
@[simp] theorem freezePeriod_dem_pickup (cause : Cause) (clearDeferred : Bool) (s : State) : (freezePeriod cause clearDeferred s).dem.pickup = s.dem.pickup := by unfold freezePeriod; first | with_reducible rfl | ((try dsimp only); (repeat' split) <;> simp)
@[simp] theorem freezePeriod_per_history (cause : Cause) (clearDeferred : Bool) (s : State) : (freezePeriod cause clearDeferred s).per.history = s.per.history := by unfold freezePeriod; first | with_reducible rfl | ((try dsimp only); (repeat' split) <;> simp)
/-! ### freeze -/
@[simp] theorem freeze_store (cause : Cause) (clearDeferred : Bool) (s : State) : (freeze cause clearDeferred s).store = s.store := by unfold freeze; first | with_reducible rfl | ((try dsimp only); (repeat' split) <;> simp)
@[simp] theorem freeze_clock (cause : Cause) (clearDeferred : Bool) (s : State) : (freeze cause clearDeferred s).clock = s.clock := by unfold freeze; first | with_reducible rfl | ((try dsimp only); (repeat' split) <;> simp)
@[simp] theorem freeze_sub (cause : Cause) (clearDeferred : Bool) (s : State) : (freeze cause clearDeferred s).sub = s.sub := by unfold freeze; first | with_reducible rfl | ((try dsimp only); (repeat' split) <;> simp)
@[simp] theorem freeze_due (cause : Cause) (clearDeferred : Bool) (s : State) : (freeze cause clearDeferred s).due = s.due := by unfold freeze; first | with_reducible rfl | ((try dsimp only); (repeat' split) <;> simp)
@[simp] theorem freeze_chans (cause : Cause) (clearDeferred : Bool) (s : State) : (freeze cause clearDeferred s).chans = s.chans := by unfold freeze; first | with_reducible rfl | ((try dsimp only); (repeat' split) <;> simp)
@[simp] theorem freeze_lim (cause : Cause) (clearDeferred : Bool) (s : State) : (freeze cause clearDeferred s).lim = s.lim := by unfold freeze; first | with_reducible rfl | ((try dsimp only); (repeat' split) <;> simp)
@[simp] theorem freeze_sup (cause : Cause) (clearDeferred : Bool) (s : State) : (freeze cause clearDeferred s).sup = s.sup := by unfold freeze; first | with_reducible rfl | ((try dsimp only); (repeat' split) <;> simp)
@[simp] theorem freeze_pins (cause : Cause) (clearDeferred : Bool) (s : State) : (freeze cause clearDeferred s).pins = s.pins := by unfold freeze; first | with_reducible rfl | ((try dsimp only); (repeat' split) <;> simp)
@[simp] theorem freeze_pending (cause : Cause) (clearDeferred : Bool) (s : State) : (freeze cause clearDeferred s).pending = s.pending := by unfold freeze; first | with_reducible rfl | ((try dsimp only); (repeat' split) <;> simp)
@[simp] theorem freeze_free (cause : Cause) (clearDeferred : Bool) (s : State) : (freeze cause clearDeferred s).free = s.free := by unfold freeze; first | with_reducible rfl | ((try dsimp only); (repeat' split) <;> simp)
@[simp] theorem freeze_tot_lastSeq (cause : Cause) (clearDeferred : Bool) (s : State) : (freeze cause clearDeferred s).tot.lastSeq = s.tot.lastSeq := by unfold freeze; first | with_reducible rfl | ((try dsimp only); (repeat' split) <;> simp)
@[simp] theorem freeze_tot_acc (cause : Cause) (clearDeferred : Bool) (s : State) : (freeze cause clearDeferred s).tot.acc = s.tot.acc := by unfold freeze; first | with_reducible rfl | ((try dsimp only); (repeat' split) <;> simp)
@[simp] theorem freeze_dem_ring (cause : Cause) (clearDeferred : Bool) (s : State) : (freeze cause clearDeferred s).dem.ring = s.dem.ring := by unfold freeze; first | with_reducible rfl | ((try dsimp only); (repeat' split) <;> simp)
@[simp] theorem freeze_dem_window (cause : Cause) (clearDeferred : Bool) (s : State) : (freeze cause clearDeferred s).dem.window = s.dem.window := by unfold freeze; first | with_reducible rfl | ((try dsimp only); (repeat' split) <;> simp)
@[simp] theorem freeze_dem_pickup (cause : Cause) (clearDeferred : Bool) (s : State) : (freeze cause clearDeferred s).dem.pickup = s.dem.pickup := by unfold freeze; first | with_reducible rfl | ((try dsimp only); (repeat' split) <;> simp)
@[simp] theorem freeze_per_history (cause : Cause) (clearDeferred : Bool) (s : State) : (freeze cause clearDeferred s).per.history = s.per.history := by unfold freeze; first | with_reducible rfl | ((try dsimp only); (repeat' split) <;> simp)
@[simp] theorem freeze_log_clearBusy (cause : Cause) (clearDeferred : Bool) (s : State) : (freeze cause clearDeferred s).log.clearBusy = s.log.clearBusy := by unfold freeze; first | with_reducible rfl | ((try dsimp only); (repeat' split) <;> simp)
/-! ### deferClose -/
@[simp] theorem deferClose_store (cause : Cause) (s : State) : (deferClose cause s).store = s.store := by unfold deferClose; first | with_reducible rfl | ((try dsimp only); (repeat' split) <;> simp)
@[simp] theorem deferClose_clock (cause : Cause) (s : State) : (deferClose cause s).clock = s.clock := by unfold deferClose; first | with_reducible rfl | ((try dsimp only); (repeat' split) <;> simp)
@[simp] theorem deferClose_sub (cause : Cause) (s : State) : (deferClose cause s).sub = s.sub := by unfold deferClose; first | with_reducible rfl | ((try dsimp only); (repeat' split) <;> simp)
@[simp] theorem deferClose_due (cause : Cause) (s : State) : (deferClose cause s).due = s.due := by unfold deferClose; first | with_reducible rfl | ((try dsimp only); (repeat' split) <;> simp)
@[simp] theorem deferClose_chans (cause : Cause) (s : State) : (deferClose cause s).chans = s.chans := by unfold deferClose; first | with_reducible rfl | ((try dsimp only); (repeat' split) <;> simp)
@[simp] theorem deferClose_tot (cause : Cause) (s : State) : (deferClose cause s).tot = s.tot := by unfold deferClose; first | with_reducible rfl | ((try dsimp only); (repeat' split) <;> simp)
@[simp] theorem deferClose_dem (cause : Cause) (s : State) : (deferClose cause s).dem = s.dem := by unfold deferClose; first | with_reducible rfl | ((try dsimp only); (repeat' split) <;> simp)
@[simp] theorem deferClose_log (cause : Cause) (s : State) : (deferClose cause s).log = s.log := by unfold deferClose; first | with_reducible rfl | ((try dsimp only); (repeat' split) <;> simp)
@[simp] theorem deferClose_lim (cause : Cause) (s : State) : (deferClose cause s).lim = s.lim := by unfold deferClose; first | with_reducible rfl | ((try dsimp only); (repeat' split) <;> simp)
@[simp] theorem deferClose_sup (cause : Cause) (s : State) : (deferClose cause s).sup = s.sup := by unfold deferClose; first | with_reducible rfl | ((try dsimp only); (repeat' split) <;> simp)
@[simp] theorem deferClose_pins (cause : Cause) (s : State) : (deferClose cause s).pins = s.pins := by unfold deferClose; first | with_reducible rfl | ((try dsimp only); (repeat' split) <;> simp)
@[simp] theorem deferClose_pending (cause : Cause) (s : State) : (deferClose cause s).pending = s.pending := by unfold deferClose; first | with_reducible rfl | ((try dsimp only); (repeat' split) <;> simp)
@[simp] theorem deferClose_free (cause : Cause) (s : State) : (deferClose cause s).free = s.free := by unfold deferClose; first | with_reducible rfl | ((try dsimp only); (repeat' split) <;> simp)
@[simp] theorem deferClose_per_number (cause : Cause) (s : State) : (deferClose cause s).per.number = s.per.number := by unfold deferClose; first | with_reducible rfl | ((try dsimp only); (repeat' split) <;> simp)
@[simp] theorem deferClose_per_history (cause : Cause) (s : State) : (deferClose cause s).per.history = s.per.history := by unfold deferClose; first | with_reducible rfl | ((try dsimp only); (repeat' split) <;> simp)
@[simp] theorem deferClose_per_close (cause : Cause) (s : State) : (deferClose cause s).per.close = s.per.close := by unfold deferClose; first | with_reducible rfl | ((try dsimp only); (repeat' split) <;> simp)
@[simp] theorem deferClose_per_lockout (cause : Cause) (s : State) : (deferClose cause s).per.lockout = s.per.lockout := by unfold deferClose; first | with_reducible rfl | ((try dsimp only); (repeat' split) <;> simp)
/-! ### dateRequest -/
@[simp] theorem dateRequest_store (cause : Cause) (s : State) : (dateRequest cause s).store = s.store := by unfold dateRequest; first | with_reducible rfl | ((try dsimp only); (repeat' split) <;> simp)
@[simp] theorem dateRequest_clock (cause : Cause) (s : State) : (dateRequest cause s).clock = s.clock := by unfold dateRequest; first | with_reducible rfl | ((try dsimp only); (repeat' split) <;> simp)
@[simp] theorem dateRequest_sub (cause : Cause) (s : State) : (dateRequest cause s).sub = s.sub := by unfold dateRequest; first | with_reducible rfl | ((try dsimp only); (repeat' split) <;> simp)
@[simp] theorem dateRequest_due (cause : Cause) (s : State) : (dateRequest cause s).due = s.due := by unfold dateRequest; first | with_reducible rfl | ((try dsimp only); (repeat' split) <;> simp)
@[simp] theorem dateRequest_chans (cause : Cause) (s : State) : (dateRequest cause s).chans = s.chans := by unfold dateRequest; first | with_reducible rfl | ((try dsimp only); (repeat' split) <;> simp)
@[simp] theorem dateRequest_lim (cause : Cause) (s : State) : (dateRequest cause s).lim = s.lim := by unfold dateRequest; first | with_reducible rfl | ((try dsimp only); (repeat' split) <;> simp)
@[simp] theorem dateRequest_sup (cause : Cause) (s : State) : (dateRequest cause s).sup = s.sup := by unfold dateRequest; first | with_reducible rfl | ((try dsimp only); (repeat' split) <;> simp)
@[simp] theorem dateRequest_pins (cause : Cause) (s : State) : (dateRequest cause s).pins = s.pins := by unfold dateRequest; first | with_reducible rfl | ((try dsimp only); (repeat' split) <;> simp)
@[simp] theorem dateRequest_pending (cause : Cause) (s : State) : (dateRequest cause s).pending = s.pending := by unfold dateRequest; first | with_reducible rfl | ((try dsimp only); (repeat' split) <;> simp)
@[simp] theorem dateRequest_free (cause : Cause) (s : State) : (dateRequest cause s).free = s.free := by unfold dateRequest; first | with_reducible rfl | ((try dsimp only); (repeat' split) <;> simp)
@[simp] theorem dateRequest_tot_lastSeq (cause : Cause) (s : State) : (dateRequest cause s).tot.lastSeq = s.tot.lastSeq := by unfold dateRequest; first | with_reducible rfl | ((try dsimp only); (repeat' split) <;> simp)
@[simp] theorem dateRequest_tot_acc (cause : Cause) (s : State) : (dateRequest cause s).tot.acc = s.tot.acc := by unfold dateRequest; first | with_reducible rfl | ((try dsimp only); (repeat' split) <;> simp)
@[simp] theorem dateRequest_dem_ring (cause : Cause) (s : State) : (dateRequest cause s).dem.ring = s.dem.ring := by unfold dateRequest; first | with_reducible rfl | ((try dsimp only); (repeat' split) <;> simp)
@[simp] theorem dateRequest_dem_window (cause : Cause) (s : State) : (dateRequest cause s).dem.window = s.dem.window := by unfold dateRequest; first | with_reducible rfl | ((try dsimp only); (repeat' split) <;> simp)
@[simp] theorem dateRequest_dem_pickup (cause : Cause) (s : State) : (dateRequest cause s).dem.pickup = s.dem.pickup := by unfold dateRequest; first | with_reducible rfl | ((try dsimp only); (repeat' split) <;> simp)
@[simp] theorem dateRequest_per_history (cause : Cause) (s : State) : (dateRequest cause s).per.history = s.per.history := by unfold dateRequest; first | with_reducible rfl | ((try dsimp only); (repeat' split) <;> simp)
@[simp] theorem dateRequest_log_clearBusy (cause : Cause) (s : State) : (dateRequest cause s).log.clearBusy = s.log.clearBusy := by unfold dateRequest; first | with_reducible rfl | ((try dsimp only); (repeat' split) <;> simp)
/-! ### carryOutDeferred -/
@[simp] theorem carryOutDeferred_store (s : State) : (carryOutDeferred s).store = s.store := by unfold carryOutDeferred; first | with_reducible rfl | ((try dsimp only); (repeat' split) <;> simp)
@[simp] theorem carryOutDeferred_clock (s : State) : (carryOutDeferred s).clock = s.clock := by unfold carryOutDeferred; first | with_reducible rfl | ((try dsimp only); (repeat' split) <;> simp)
@[simp] theorem carryOutDeferred_sub (s : State) : (carryOutDeferred s).sub = s.sub := by unfold carryOutDeferred; first | with_reducible rfl | ((try dsimp only); (repeat' split) <;> simp)
@[simp] theorem carryOutDeferred_due (s : State) : (carryOutDeferred s).due = s.due := by unfold carryOutDeferred; first | with_reducible rfl | ((try dsimp only); (repeat' split) <;> simp)
@[simp] theorem carryOutDeferred_chans (s : State) : (carryOutDeferred s).chans = s.chans := by unfold carryOutDeferred; first | with_reducible rfl | ((try dsimp only); (repeat' split) <;> simp)
@[simp] theorem carryOutDeferred_lim (s : State) : (carryOutDeferred s).lim = s.lim := by unfold carryOutDeferred; first | with_reducible rfl | ((try dsimp only); (repeat' split) <;> simp)
@[simp] theorem carryOutDeferred_sup (s : State) : (carryOutDeferred s).sup = s.sup := by unfold carryOutDeferred; first | with_reducible rfl | ((try dsimp only); (repeat' split) <;> simp)
@[simp] theorem carryOutDeferred_pins (s : State) : (carryOutDeferred s).pins = s.pins := by unfold carryOutDeferred; first | with_reducible rfl | ((try dsimp only); (repeat' split) <;> simp)
@[simp] theorem carryOutDeferred_pending (s : State) : (carryOutDeferred s).pending = s.pending := by unfold carryOutDeferred; first | with_reducible rfl | ((try dsimp only); (repeat' split) <;> simp)
@[simp] theorem carryOutDeferred_free (s : State) : (carryOutDeferred s).free = s.free := by unfold carryOutDeferred; first | with_reducible rfl | ((try dsimp only); (repeat' split) <;> simp)
@[simp] theorem carryOutDeferred_tot_lastSeq (s : State) : (carryOutDeferred s).tot.lastSeq = s.tot.lastSeq := by unfold carryOutDeferred; first | with_reducible rfl | ((try dsimp only); (repeat' split) <;> simp)
@[simp] theorem carryOutDeferred_tot_acc (s : State) : (carryOutDeferred s).tot.acc = s.tot.acc := by unfold carryOutDeferred; first | with_reducible rfl | ((try dsimp only); (repeat' split) <;> simp)
@[simp] theorem carryOutDeferred_dem_ring (s : State) : (carryOutDeferred s).dem.ring = s.dem.ring := by unfold carryOutDeferred; first | with_reducible rfl | ((try dsimp only); (repeat' split) <;> simp)
@[simp] theorem carryOutDeferred_dem_window (s : State) : (carryOutDeferred s).dem.window = s.dem.window := by unfold carryOutDeferred; first | with_reducible rfl | ((try dsimp only); (repeat' split) <;> simp)
@[simp] theorem carryOutDeferred_dem_pickup (s : State) : (carryOutDeferred s).dem.pickup = s.dem.pickup := by unfold carryOutDeferred; first | with_reducible rfl | ((try dsimp only); (repeat' split) <;> simp)
@[simp] theorem carryOutDeferred_per_history (s : State) : (carryOutDeferred s).per.history = s.per.history := by unfold carryOutDeferred; first | with_reducible rfl | ((try dsimp only); (repeat' split) <;> simp)
@[simp] theorem carryOutDeferred_log_clearBusy (s : State) : (carryOutDeferred s).log.clearBusy = s.log.clearBusy := by unfold carryOutDeferred; first | with_reducible rfl | ((try dsimp only); (repeat' split) <;> simp)
/-! ### countLockout -/
@[simp] theorem countLockout_store (s : State) : (countLockout s).store = s.store := by unfold countLockout; first | with_reducible rfl | ((try dsimp only); (repeat' split) <;> simp)
@[simp] theorem countLockout_clock (s : State) : (countLockout s).clock = s.clock := by unfold countLockout; first | with_reducible rfl | ((try dsimp only); (repeat' split) <;> simp)
@[simp] theorem countLockout_sub (s : State) : (countLockout s).sub = s.sub := by unfold countLockout; first | with_reducible rfl | ((try dsimp only); (repeat' split) <;> simp)
@[simp] theorem countLockout_chans (s : State) : (countLockout s).chans = s.chans := by unfold countLockout; first | with_reducible rfl | ((try dsimp only); (repeat' split) <;> simp)
@[simp] theorem countLockout_tot (s : State) : (countLockout s).tot = s.tot := by unfold countLockout; first | with_reducible rfl | ((try dsimp only); (repeat' split) <;> simp)
@[simp] theorem countLockout_dem (s : State) : (countLockout s).dem = s.dem := by unfold countLockout; first | with_reducible rfl | ((try dsimp only); (repeat' split) <;> simp)
@[simp] theorem countLockout_log (s : State) : (countLockout s).log = s.log := by unfold countLockout; first | with_reducible rfl | ((try dsimp only); (repeat' split) <;> simp)
@[simp] theorem countLockout_lim (s : State) : (countLockout s).lim = s.lim := by unfold countLockout; first | with_reducible rfl | ((try dsimp only); (repeat' split) <;> simp)
@[simp] theorem countLockout_util (s : State) : (countLockout s).util = s.util := by unfold countLockout; first | with_reducible rfl | ((try dsimp only); (repeat' split) <;> simp)
@[simp] theorem countLockout_cust (s : State) : (countLockout s).cust = s.cust := by unfold countLockout; first | with_reducible rfl | ((try dsimp only); (repeat' split) <;> simp)
@[simp] theorem countLockout_sup (s : State) : (countLockout s).sup = s.sup := by unfold countLockout; first | with_reducible rfl | ((try dsimp only); (repeat' split) <;> simp)
@[simp] theorem countLockout_pins (s : State) : (countLockout s).pins = s.pins := by unfold countLockout; first | with_reducible rfl | ((try dsimp only); (repeat' split) <;> simp)
@[simp] theorem countLockout_pending (s : State) : (countLockout s).pending = s.pending := by unfold countLockout; first | with_reducible rfl | ((try dsimp only); (repeat' split) <;> simp)
@[simp] theorem countLockout_free (s : State) : (countLockout s).free = s.free := by unfold countLockout; first | with_reducible rfl | ((try dsimp only); (repeat' split) <;> simp)
@[simp] theorem countLockout_per_number (s : State) : (countLockout s).per.number = s.per.number := by unfold countLockout; first | with_reducible rfl | ((try dsimp only); (repeat' split) <;> simp)
@[simp] theorem countLockout_per_history (s : State) : (countLockout s).per.history = s.per.history := by unfold countLockout; first | with_reducible rfl | ((try dsimp only); (repeat' split) <;> simp)
@[simp] theorem countLockout_per_close (s : State) : (countLockout s).per.close = s.per.close := by unfold countLockout; first | with_reducible rfl | ((try dsimp only); (repeat' split) <;> simp)
/-! ### takeLockout -/
@[simp] theorem takeLockout_store (s : State) : (takeLockout s).store = s.store := by unfold takeLockout; first | with_reducible rfl | ((try dsimp only); (repeat' split) <;> simp)
@[simp] theorem takeLockout_clock (s : State) : (takeLockout s).clock = s.clock := by unfold takeLockout; first | with_reducible rfl | ((try dsimp only); (repeat' split) <;> simp)
@[simp] theorem takeLockout_sub (s : State) : (takeLockout s).sub = s.sub := by unfold takeLockout; first | with_reducible rfl | ((try dsimp only); (repeat' split) <;> simp)
@[simp] theorem takeLockout_chans (s : State) : (takeLockout s).chans = s.chans := by unfold takeLockout; first | with_reducible rfl | ((try dsimp only); (repeat' split) <;> simp)
@[simp] theorem takeLockout_lim (s : State) : (takeLockout s).lim = s.lim := by unfold takeLockout; first | with_reducible rfl | ((try dsimp only); (repeat' split) <;> simp)
@[simp] theorem takeLockout_sup (s : State) : (takeLockout s).sup = s.sup := by unfold takeLockout; first | with_reducible rfl | ((try dsimp only); (repeat' split) <;> simp)
@[simp] theorem takeLockout_pins (s : State) : (takeLockout s).pins = s.pins := by unfold takeLockout; first | with_reducible rfl | ((try dsimp only); (repeat' split) <;> simp)
@[simp] theorem takeLockout_pending (s : State) : (takeLockout s).pending = s.pending := by unfold takeLockout; first | with_reducible rfl | ((try dsimp only); (repeat' split) <;> simp)
@[simp] theorem takeLockout_free (s : State) : (takeLockout s).free = s.free := by unfold takeLockout; first | with_reducible rfl | ((try dsimp only); (repeat' split) <;> simp)
@[simp] theorem takeLockout_tot_lastSeq (s : State) : (takeLockout s).tot.lastSeq = s.tot.lastSeq := by unfold takeLockout; first | with_reducible rfl | ((try dsimp only); (repeat' split) <;> simp)
@[simp] theorem takeLockout_tot_acc (s : State) : (takeLockout s).tot.acc = s.tot.acc := by unfold takeLockout; first | with_reducible rfl | ((try dsimp only); (repeat' split) <;> simp)
@[simp] theorem takeLockout_dem_ring (s : State) : (takeLockout s).dem.ring = s.dem.ring := by unfold takeLockout; first | with_reducible rfl | ((try dsimp only); (repeat' split) <;> simp)
@[simp] theorem takeLockout_dem_window (s : State) : (takeLockout s).dem.window = s.dem.window := by unfold takeLockout; first | with_reducible rfl | ((try dsimp only); (repeat' split) <;> simp)
@[simp] theorem takeLockout_dem_pickup (s : State) : (takeLockout s).dem.pickup = s.dem.pickup := by unfold takeLockout; first | with_reducible rfl | ((try dsimp only); (repeat' split) <;> simp)
@[simp] theorem takeLockout_per_history (s : State) : (takeLockout s).per.history = s.per.history := by unfold takeLockout; first | with_reducible rfl | ((try dsimp only); (repeat' split) <;> simp)
@[simp] theorem takeLockout_log_clearBusy (s : State) : (takeLockout s).log.clearBusy = s.log.clearBusy := by unfold takeLockout; first | with_reducible rfl | ((try dsimp only); (repeat' split) <;> simp)
/-! ### takeDate -/
@[simp] theorem takeDate_store (s : State) : (takeDate s).store = s.store := by unfold takeDate; first | with_reducible rfl | ((try dsimp only); (repeat' split) <;> simp)
@[simp] theorem takeDate_clock (s : State) : (takeDate s).clock = s.clock := by unfold takeDate; first | with_reducible rfl | ((try dsimp only); (repeat' split) <;> simp)
@[simp] theorem takeDate_sub (s : State) : (takeDate s).sub = s.sub := by unfold takeDate; first | with_reducible rfl | ((try dsimp only); (repeat' split) <;> simp)
@[simp] theorem takeDate_chans (s : State) : (takeDate s).chans = s.chans := by unfold takeDate; first | with_reducible rfl | ((try dsimp only); (repeat' split) <;> simp)
@[simp] theorem takeDate_lim (s : State) : (takeDate s).lim = s.lim := by unfold takeDate; first | with_reducible rfl | ((try dsimp only); (repeat' split) <;> simp)
@[simp] theorem takeDate_sup (s : State) : (takeDate s).sup = s.sup := by unfold takeDate; first | with_reducible rfl | ((try dsimp only); (repeat' split) <;> simp)
@[simp] theorem takeDate_pins (s : State) : (takeDate s).pins = s.pins := by unfold takeDate; first | with_reducible rfl | ((try dsimp only); (repeat' split) <;> simp)
@[simp] theorem takeDate_pending (s : State) : (takeDate s).pending = s.pending := by unfold takeDate; first | with_reducible rfl | ((try dsimp only); (repeat' split) <;> simp)
@[simp] theorem takeDate_free (s : State) : (takeDate s).free = s.free := by unfold takeDate; first | with_reducible rfl | ((try dsimp only); (repeat' split) <;> simp)
@[simp] theorem takeDate_tot_lastSeq (s : State) : (takeDate s).tot.lastSeq = s.tot.lastSeq := by unfold takeDate; first | with_reducible rfl | ((try dsimp only); (repeat' split) <;> simp)
@[simp] theorem takeDate_tot_acc (s : State) : (takeDate s).tot.acc = s.tot.acc := by unfold takeDate; first | with_reducible rfl | ((try dsimp only); (repeat' split) <;> simp)
@[simp] theorem takeDate_dem_ring (s : State) : (takeDate s).dem.ring = s.dem.ring := by unfold takeDate; first | with_reducible rfl | ((try dsimp only); (repeat' split) <;> simp)
@[simp] theorem takeDate_dem_window (s : State) : (takeDate s).dem.window = s.dem.window := by unfold takeDate; first | with_reducible rfl | ((try dsimp only); (repeat' split) <;> simp)
@[simp] theorem takeDate_dem_pickup (s : State) : (takeDate s).dem.pickup = s.dem.pickup := by unfold takeDate; first | with_reducible rfl | ((try dsimp only); (repeat' split) <;> simp)
@[simp] theorem takeDate_per_history (s : State) : (takeDate s).per.history = s.per.history := by unfold takeDate; first | with_reducible rfl | ((try dsimp only); (repeat' split) <;> simp)
@[simp] theorem takeDate_log_clearBusy (s : State) : (takeDate s).log.clearBusy = s.log.clearBusy := by unfold takeDate; first | with_reducible rfl | ((try dsimp only); (repeat' split) <;> simp)
/-! ### completeClose -/
@[simp] theorem completeClose_store (x : Snapshot) (s : State) : (completeClose x s).store = s.store := by unfold completeClose; first | with_reducible rfl | ((try dsimp only); (repeat' split) <;> simp)
@[simp] theorem completeClose_clock (x : Snapshot) (s : State) : (completeClose x s).clock = s.clock := by unfold completeClose; first | with_reducible rfl | ((try dsimp only); (repeat' split) <;> simp)
@[simp] theorem completeClose_sub (x : Snapshot) (s : State) : (completeClose x s).sub = s.sub := by unfold completeClose; first | with_reducible rfl | ((try dsimp only); (repeat' split) <;> simp)
@[simp] theorem completeClose_due (x : Snapshot) (s : State) : (completeClose x s).due = s.due := by unfold completeClose; first | with_reducible rfl | ((try dsimp only); (repeat' split) <;> simp)
@[simp] theorem completeClose_chans (x : Snapshot) (s : State) : (completeClose x s).chans = s.chans := by unfold completeClose; first | with_reducible rfl | ((try dsimp only); (repeat' split) <;> simp)
@[simp] theorem completeClose_lim (x : Snapshot) (s : State) : (completeClose x s).lim = s.lim := by unfold completeClose; first | with_reducible rfl | ((try dsimp only); (repeat' split) <;> simp)
@[simp] theorem completeClose_sup (x : Snapshot) (s : State) : (completeClose x s).sup = s.sup := by unfold completeClose; first | with_reducible rfl | ((try dsimp only); (repeat' split) <;> simp)
@[simp] theorem completeClose_pins (x : Snapshot) (s : State) : (completeClose x s).pins = s.pins := by unfold completeClose; first | with_reducible rfl | ((try dsimp only); (repeat' split) <;> simp)
@[simp] theorem completeClose_pending (x : Snapshot) (s : State) : (completeClose x s).pending = s.pending := by unfold completeClose; first | with_reducible rfl | ((try dsimp only); (repeat' split) <;> simp)
@[simp] theorem completeClose_free (x : Snapshot) (s : State) : (completeClose x s).free = s.free := by unfold completeClose; first | with_reducible rfl | ((try dsimp only); (repeat' split) <;> simp)
@[simp] theorem completeClose_tot_lastSeq (x : Snapshot) (s : State) : (completeClose x s).tot.lastSeq = s.tot.lastSeq := by unfold completeClose; first | with_reducible rfl | ((try dsimp only); (repeat' split) <;> simp)
@[simp] theorem completeClose_tot_acc (x : Snapshot) (s : State) : (completeClose x s).tot.acc = s.tot.acc := by unfold completeClose; first | with_reducible rfl | ((try dsimp only); (repeat' split) <;> simp)
@[simp] theorem completeClose_dem_ring (x : Snapshot) (s : State) : (completeClose x s).dem.ring = s.dem.ring := by unfold completeClose; first | with_reducible rfl | ((try dsimp only); (repeat' split) <;> simp)
@[simp] theorem completeClose_dem_window (x : Snapshot) (s : State) : (completeClose x s).dem.window = s.dem.window := by unfold completeClose; first | with_reducible rfl | ((try dsimp only); (repeat' split) <;> simp)
@[simp] theorem completeClose_dem_pickup (x : Snapshot) (s : State) : (completeClose x s).dem.pickup = s.dem.pickup := by unfold completeClose; first | with_reducible rfl | ((try dsimp only); (repeat' split) <;> simp)
@[simp] theorem completeClose_log_clearBusy (x : Snapshot) (s : State) : (completeClose x s).log.clearBusy = s.log.clearBusy := by unfold completeClose; first | with_reducible rfl | ((try dsimp only); (repeat' split) <;> simp)
/-! ### completePreview -/
@[simp] theorem completePreview_store (p : Port) (x : Snapshot) (s : State) : (completePreview p x s).store = s.store := by unfold completePreview; first | with_reducible rfl | ((try dsimp only); (repeat' split) <;> simp)
@[simp] theorem completePreview_clock (p : Port) (x : Snapshot) (s : State) : (completePreview p x s).clock = s.clock := by unfold completePreview; first | with_reducible rfl | ((try dsimp only); (repeat' split) <;> simp)
@[simp] theorem completePreview_sub (p : Port) (x : Snapshot) (s : State) : (completePreview p x s).sub = s.sub := by unfold completePreview; first | with_reducible rfl | ((try dsimp only); (repeat' split) <;> simp)
@[simp] theorem completePreview_due (p : Port) (x : Snapshot) (s : State) : (completePreview p x s).due = s.due := by unfold completePreview; first | with_reducible rfl | ((try dsimp only); (repeat' split) <;> simp)
@[simp] theorem completePreview_chans (p : Port) (x : Snapshot) (s : State) : (completePreview p x s).chans = s.chans := by unfold completePreview; first | with_reducible rfl | ((try dsimp only); (repeat' split) <;> simp)
@[simp] theorem completePreview_tot (p : Port) (x : Snapshot) (s : State) : (completePreview p x s).tot = s.tot := by unfold completePreview; first | with_reducible rfl | ((try dsimp only); (repeat' split) <;> simp)
@[simp] theorem completePreview_dem (p : Port) (x : Snapshot) (s : State) : (completePreview p x s).dem = s.dem := by unfold completePreview; first | with_reducible rfl | ((try dsimp only); (repeat' split) <;> simp)
@[simp] theorem completePreview_per (p : Port) (x : Snapshot) (s : State) : (completePreview p x s).per = s.per := by unfold completePreview; first | with_reducible rfl | ((try dsimp only); (repeat' split) <;> simp)
@[simp] theorem completePreview_log (p : Port) (x : Snapshot) (s : State) : (completePreview p x s).log = s.log := by unfold completePreview; first | with_reducible rfl | ((try dsimp only); (repeat' split) <;> simp)
@[simp] theorem completePreview_lim (p : Port) (x : Snapshot) (s : State) : (completePreview p x s).lim = s.lim := by unfold completePreview; first | with_reducible rfl | ((try dsimp only); (repeat' split) <;> simp)
@[simp] theorem completePreview_sup (p : Port) (x : Snapshot) (s : State) : (completePreview p x s).sup = s.sup := by unfold completePreview; first | with_reducible rfl | ((try dsimp only); (repeat' split) <;> simp)
@[simp] theorem completePreview_pins (p : Port) (x : Snapshot) (s : State) : (completePreview p x s).pins = s.pins := by unfold completePreview; first | with_reducible rfl | ((try dsimp only); (repeat' split) <;> simp)
@[simp] theorem completePreview_pending (p : Port) (x : Snapshot) (s : State) : (completePreview p x s).pending = s.pending := by unfold completePreview; first | with_reducible rfl | ((try dsimp only); (repeat' split) <;> simp)
@[simp] theorem completePreview_free (p : Port) (x : Snapshot) (s : State) : (completePreview p x s).free = s.free := by unfold completePreview; first | with_reducible rfl | ((try dsimp only); (repeat' split) <;> simp)
/-! ### takeDates -/
@[simp] theorem takeDates_store (n : Nat) (s : State) : (takeDates n s).store = s.store := by induction n generalizing s with | zero => rfl | succ n ih => unfold takeDates; simp [ih]
@[simp] theorem takeDates_clock (n : Nat) (s : State) : (takeDates n s).clock = s.clock := by induction n generalizing s with | zero => rfl | succ n ih => unfold takeDates; simp [ih]
@[simp] theorem takeDates_sub (n : Nat) (s : State) : (takeDates n s).sub = s.sub := by induction n generalizing s with | zero => rfl | succ n ih => unfold takeDates; simp [ih]
@[simp] theorem takeDates_chans (n : Nat) (s : State) : (takeDates n s).chans = s.chans := by induction n generalizing s with | zero => rfl | succ n ih => unfold takeDates; simp [ih]
@[simp] theorem takeDates_lim (n : Nat) (s : State) : (takeDates n s).lim = s.lim := by induction n generalizing s with | zero => rfl | succ n ih => unfold takeDates; simp [ih]
@[simp] theorem takeDates_sup (n : Nat) (s : State) : (takeDates n s).sup = s.sup := by induction n generalizing s with | zero => rfl | succ n ih => unfold takeDates; simp [ih]
@[simp] theorem takeDates_pins (n : Nat) (s : State) : (takeDates n s).pins = s.pins := by induction n generalizing s with | zero => rfl | succ n ih => unfold takeDates; simp [ih]
@[simp] theorem takeDates_pending (n : Nat) (s : State) : (takeDates n s).pending = s.pending := by induction n generalizing s with | zero => rfl | succ n ih => unfold takeDates; simp [ih]
@[simp] theorem takeDates_free (n : Nat) (s : State) : (takeDates n s).free = s.free := by induction n generalizing s with | zero => rfl | succ n ih => unfold takeDates; simp [ih]
@[simp] theorem takeDates_tot_lastSeq (n : Nat) (s : State) : (takeDates n s).tot.lastSeq = s.tot.lastSeq := by induction n generalizing s with | zero => rfl | succ n ih => unfold takeDates; simp [ih]
@[simp] theorem takeDates_tot_acc (n : Nat) (s : State) : (takeDates n s).tot.acc = s.tot.acc := by induction n generalizing s with | zero => rfl | succ n ih => unfold takeDates; simp [ih]
@[simp] theorem takeDates_dem_ring (n : Nat) (s : State) : (takeDates n s).dem.ring = s.dem.ring := by induction n generalizing s with | zero => rfl | succ n ih => unfold takeDates; simp [ih]
@[simp] theorem takeDates_dem_window (n : Nat) (s : State) : (takeDates n s).dem.window = s.dem.window := by induction n generalizing s with | zero => rfl | succ n ih => unfold takeDates; simp [ih]
@[simp] theorem takeDates_dem_pickup (n : Nat) (s : State) : (takeDates n s).dem.pickup = s.dem.pickup := by induction n generalizing s with | zero => rfl | succ n ih => unfold takeDates; simp [ih]
@[simp] theorem takeDates_per_history (n : Nat) (s : State) : (takeDates n s).per.history = s.per.history := by induction n generalizing s with | zero => rfl | succ n ih => unfold takeDates; simp [ih]
@[simp] theorem takeDates_log_clearBusy (n : Nat) (s : State) : (takeDates n s).log.clearBusy = s.log.clearBusy := by induction n generalizing s with | zero => rfl | succ n ih => unfold takeDates; simp [ih]
/-! ### settleDue -/
@[simp] theorem settleDue_sup (s : State) : (settleDue s).sup = s.sup := by unfold settleDue; first | with_reducible rfl | ((try dsimp only); (repeat' split) <;> simp)
@[simp] theorem settleDue_pins (s : State) : (settleDue s).pins = s.pins := by unfold settleDue; first | with_reducible rfl | ((try dsimp only); (repeat' split) <;> simp)
@[simp] theorem settleDue_pending (s : State) : (settleDue s).pending = s.pending := by unfold settleDue; first | with_reducible rfl | ((try dsimp only); (repeat' split) <;> simp)
@[simp] theorem settleDue_store_config (s : State) : (settleDue s).store.config = s.store.config := by unfold settleDue; first | with_reducible rfl | ((try dsimp only); (repeat' split) <;> simp)
@[simp] theorem settleDue_store_writing (s : State) : (settleDue s).store.writing = s.store.writing := by unfold settleDue; first | with_reducible rfl | ((try dsimp only); (repeat' split) <;> simp)
@[simp] theorem settleDue_store_closeDates (s : State) : (settleDue s).store.closeDates = s.store.closeDates := by unfold settleDue; first | with_reducible rfl | ((try dsimp only); (repeat' split) <;> simp)
@[simp] theorem settleDue_clock_now (s : State) : (settleDue s).clock.now = s.clock.now := by unfold settleDue; first | with_reducible rfl | ((try dsimp only); (repeat' split) <;> simp)
@[simp] theorem settleDue_clock_timeValid (s : State) : (settleDue s).clock.timeValid = s.clock.timeValid := by unfold settleDue; first | with_reducible rfl | ((try dsimp only); (repeat' split) <;> simp)
@[simp] theorem settleDue_per_history (s : State) : (settleDue s).per.history = s.per.history := by unfold settleDue; first | with_reducible rfl | ((try dsimp only); (repeat' split) <;> simp)
@[simp] theorem settleDue_log_clearBusy (s : State) : (settleDue s).log.clearBusy = s.log.clearBusy := by unfold settleDue; first | with_reducible rfl | ((try dsimp only); (repeat' split) <;> simp)

/-! ### clearResidues -/
@[simp] theorem clearResidues_store (c : Fin 4) (s : State) : (clearResidues c s).store = s.store := by unfold clearResidues; first | with_reducible rfl | ((try dsimp only); (repeat' split) <;> simp)
@[simp] theorem clearResidues_clock (c : Fin 4) (s : State) : (clearResidues c s).clock = s.clock := by unfold clearResidues; first | with_reducible rfl | ((try dsimp only); (repeat' split) <;> simp)
@[simp] theorem clearResidues_sub (c : Fin 4) (s : State) : (clearResidues c s).sub = s.sub := by unfold clearResidues; first | with_reducible rfl | ((try dsimp only); (repeat' split) <;> simp)
@[simp] theorem clearResidues_due (c : Fin 4) (s : State) : (clearResidues c s).due = s.due := by unfold clearResidues; first | with_reducible rfl | ((try dsimp only); (repeat' split) <;> simp)
@[simp] theorem clearResidues_tot (c : Fin 4) (s : State) : (clearResidues c s).tot = s.tot := by unfold clearResidues; first | with_reducible rfl | ((try dsimp only); (repeat' split) <;> simp)
@[simp] theorem clearResidues_dem (c : Fin 4) (s : State) : (clearResidues c s).dem = s.dem := by unfold clearResidues; first | with_reducible rfl | ((try dsimp only); (repeat' split) <;> simp)
@[simp] theorem clearResidues_per (c : Fin 4) (s : State) : (clearResidues c s).per = s.per := by unfold clearResidues; first | with_reducible rfl | ((try dsimp only); (repeat' split) <;> simp)
@[simp] theorem clearResidues_log (c : Fin 4) (s : State) : (clearResidues c s).log = s.log := by unfold clearResidues; first | with_reducible rfl | ((try dsimp only); (repeat' split) <;> simp)
@[simp] theorem clearResidues_lim (c : Fin 4) (s : State) : (clearResidues c s).lim = s.lim := by unfold clearResidues; first | with_reducible rfl | ((try dsimp only); (repeat' split) <;> simp)
@[simp] theorem clearResidues_util (c : Fin 4) (s : State) : (clearResidues c s).util = s.util := by unfold clearResidues; first | with_reducible rfl | ((try dsimp only); (repeat' split) <;> simp)
@[simp] theorem clearResidues_cust (c : Fin 4) (s : State) : (clearResidues c s).cust = s.cust := by unfold clearResidues; first | with_reducible rfl | ((try dsimp only); (repeat' split) <;> simp)
@[simp] theorem clearResidues_sup (c : Fin 4) (s : State) : (clearResidues c s).sup = s.sup := by unfold clearResidues; first | with_reducible rfl | ((try dsimp only); (repeat' split) <;> simp)
@[simp] theorem clearResidues_pins (c : Fin 4) (s : State) : (clearResidues c s).pins = s.pins := by unfold clearResidues; first | with_reducible rfl | ((try dsimp only); (repeat' split) <;> simp)
@[simp] theorem clearResidues_pending (c : Fin 4) (s : State) : (clearResidues c s).pending = s.pending := by unfold clearResidues; first | with_reducible rfl | ((try dsimp only); (repeat' split) <;> simp)
@[simp] theorem clearResidues_free (c : Fin 4) (s : State) : (clearResidues c s).free = s.free := by unfold clearResidues; first | with_reducible rfl | ((try dsimp only); (repeat' split) <;> simp)
/-! ### onChange -/
@[simp] theorem onChange_store (v : Setting) (f : State → State) (s : State) (h : ∀ t, (f t).store = t.store) : (onChange v f s).store = s.store := by unfold onChange; split <;> simp [h]
@[simp] theorem onChange_clock (v : Setting) (f : State → State) (s : State) (h : ∀ t, (f t).clock = t.clock) : (onChange v f s).clock = s.clock := by unfold onChange; split <;> simp [h]
@[simp] theorem onChange_sub (v : Setting) (f : State → State) (s : State) (h : ∀ t, (f t).sub = t.sub) : (onChange v f s).sub = s.sub := by unfold onChange; split <;> simp [h]
@[simp] theorem onChange_due (v : Setting) (f : State → State) (s : State) (h : ∀ t, (f t).due = t.due) : (onChange v f s).due = s.due := by unfold onChange; split <;> simp [h]
@[simp] theorem onChange_chans (v : Setting) (f : State → State) (s : State) (h : ∀ t, (f t).chans = t.chans) : (onChange v f s).chans = s.chans := by unfold onChange; split <;> simp [h]
@[simp] theorem onChange_tot (v : Setting) (f : State → State) (s : State) (h : ∀ t, (f t).tot = t.tot) : (onChange v f s).tot = s.tot := by unfold onChange; split <;> simp [h]
@[simp] theorem onChange_dem (v : Setting) (f : State → State) (s : State) (h : ∀ t, (f t).dem = t.dem) : (onChange v f s).dem = s.dem := by unfold onChange; split <;> simp [h]
@[simp] theorem onChange_per (v : Setting) (f : State → State) (s : State) (h : ∀ t, (f t).per = t.per) : (onChange v f s).per = s.per := by unfold onChange; split <;> simp [h]
@[simp] theorem onChange_log (v : Setting) (f : State → State) (s : State) (h : ∀ t, (f t).log = t.log) : (onChange v f s).log = s.log := by unfold onChange; split <;> simp [h]
@[simp] theorem onChange_lim (v : Setting) (f : State → State) (s : State) (h : ∀ t, (f t).lim = t.lim) : (onChange v f s).lim = s.lim := by unfold onChange; split <;> simp [h]
@[simp] theorem onChange_util (v : Setting) (f : State → State) (s : State) (h : ∀ t, (f t).util = t.util) : (onChange v f s).util = s.util := by unfold onChange; split <;> simp [h]
@[simp] theorem onChange_cust (v : Setting) (f : State → State) (s : State) (h : ∀ t, (f t).cust = t.cust) : (onChange v f s).cust = s.cust := by unfold onChange; split <;> simp [h]
@[simp] theorem onChange_sup (v : Setting) (f : State → State) (s : State) (h : ∀ t, (f t).sup = t.sup) : (onChange v f s).sup = s.sup := by unfold onChange; split <;> simp [h]
@[simp] theorem onChange_pins (v : Setting) (f : State → State) (s : State) (h : ∀ t, (f t).pins = t.pins) : (onChange v f s).pins = s.pins := by unfold onChange; split <;> simp [h]
@[simp] theorem onChange_pending (v : Setting) (f : State → State) (s : State) (h : ∀ t, (f t).pending = t.pending) : (onChange v f s).pending = s.pending := by unfold onChange; split <;> simp [h]
@[simp] theorem onChange_free (v : Setting) (f : State → State) (s : State) (h : ∀ t, (f t).free = t.free) : (onChange v f s).free = s.free := by unfold onChange; split <;> simp [h]
/-! ### writeSetting -/
@[simp] theorem writeSetting_clock (v : Setting) (s : State) : (writeSetting v s).clock = s.clock := by unfold writeSetting; first | with_reducible rfl | ((try dsimp only); (repeat' split) <;> simp)
@[simp] theorem writeSetting_sub (v : Setting) (s : State) : (writeSetting v s).sub = s.sub := by unfold writeSetting; first | with_reducible rfl | ((try dsimp only); (repeat' split) <;> simp)
@[simp] theorem writeSetting_due (v : Setting) (s : State) : (writeSetting v s).due = s.due := by unfold writeSetting; first | with_reducible rfl | ((try dsimp only); (repeat' split) <;> simp)
@[simp] theorem writeSetting_chans (v : Setting) (s : State) : (writeSetting v s).chans = s.chans := by unfold writeSetting; first | with_reducible rfl | ((try dsimp only); (repeat' split) <;> simp)
@[simp] theorem writeSetting_tot (v : Setting) (s : State) : (writeSetting v s).tot = s.tot := by unfold writeSetting; first | with_reducible rfl | ((try dsimp only); (repeat' split) <;> simp)
@[simp] theorem writeSetting_dem (v : Setting) (s : State) : (writeSetting v s).dem = s.dem := by unfold writeSetting; first | with_reducible rfl | ((try dsimp only); (repeat' split) <;> simp)
@[simp] theorem writeSetting_per (v : Setting) (s : State) : (writeSetting v s).per = s.per := by unfold writeSetting; first | with_reducible rfl | ((try dsimp only); (repeat' split) <;> simp)
@[simp] theorem writeSetting_log (v : Setting) (s : State) : (writeSetting v s).log = s.log := by unfold writeSetting; first | with_reducible rfl | ((try dsimp only); (repeat' split) <;> simp)
@[simp] theorem writeSetting_lim (v : Setting) (s : State) : (writeSetting v s).lim = s.lim := by unfold writeSetting; first | with_reducible rfl | ((try dsimp only); (repeat' split) <;> simp)
@[simp] theorem writeSetting_util (v : Setting) (s : State) : (writeSetting v s).util = s.util := by unfold writeSetting; first | with_reducible rfl | ((try dsimp only); (repeat' split) <;> simp)
@[simp] theorem writeSetting_cust (v : Setting) (s : State) : (writeSetting v s).cust = s.cust := by unfold writeSetting; first | with_reducible rfl | ((try dsimp only); (repeat' split) <;> simp)
@[simp] theorem writeSetting_sup (v : Setting) (s : State) : (writeSetting v s).sup = s.sup := by unfold writeSetting; first | with_reducible rfl | ((try dsimp only); (repeat' split) <;> simp)
@[simp] theorem writeSetting_pins (v : Setting) (s : State) : (writeSetting v s).pins = s.pins := by unfold writeSetting; first | with_reducible rfl | ((try dsimp only); (repeat' split) <;> simp)
@[simp] theorem writeSetting_pending (v : Setting) (s : State) : (writeSetting v s).pending = s.pending := by unfold writeSetting; first | with_reducible rfl | ((try dsimp only); (repeat' split) <;> simp)
@[simp] theorem writeSetting_free (v : Setting) (s : State) : (writeSetting v s).free = s.free := by unfold writeSetting; first | with_reducible rfl | ((try dsimp only); (repeat' split) <;> simp)
@[simp] theorem writeSetting_store_writing (v : Setting) (s : State) : (writeSetting v s).store.writing = s.store.writing := by unfold writeSetting; first | with_reducible rfl | ((try dsimp only); (repeat' split) <;> simp)
@[simp] theorem writeSetting_store_closeDates (v : Setting) (s : State) : (writeSetting v s).store.closeDates = s.store.closeDates := by unfold writeSetting; first | with_reducible rfl | ((try dsimp only); (repeat' split) <;> simp)
@[simp] theorem writeSetting_store_active (v : Setting) (s : State) : (writeSetting v s).store.active = s.store.active := by unfold writeSetting; first | with_reducible rfl | ((try dsimp only); (repeat' split) <;> simp)
@[simp] theorem writeSetting_store_pendSched (v : Setting) (s : State) : (writeSetting v s).store.pendSched = s.store.pendSched := by unfold writeSetting; first | with_reducible rfl | ((try dsimp only); (repeat' split) <;> simp)
/-! ### changeSubLen -/
@[simp] theorem changeSubLen_due (v : Setting) (s : State) : (changeSubLen v s).due = s.due := by unfold changeSubLen; first | with_reducible rfl | ((try dsimp only); (repeat' split) <;> simp)
@[simp] theorem changeSubLen_per (v : Setting) (s : State) : (changeSubLen v s).per = s.per := by unfold changeSubLen; first | with_reducible rfl | ((try dsimp only); (repeat' split) <;> simp)
@[simp] theorem changeSubLen_sup (v : Setting) (s : State) : (changeSubLen v s).sup = s.sup := by unfold changeSubLen; first | with_reducible rfl | ((try dsimp only); (repeat' split) <;> simp)
@[simp] theorem changeSubLen_pins (v : Setting) (s : State) : (changeSubLen v s).pins = s.pins := by unfold changeSubLen; first | with_reducible rfl | ((try dsimp only); (repeat' split) <;> simp)
@[simp] theorem changeSubLen_pending (v : Setting) (s : State) : (changeSubLen v s).pending = s.pending := by unfold changeSubLen; first | with_reducible rfl | ((try dsimp only); (repeat' split) <;> simp)
@[simp] theorem changeSubLen_free (v : Setting) (s : State) : (changeSubLen v s).free = s.free := by unfold changeSubLen; first | with_reducible rfl | ((try dsimp only); (repeat' split) <;> simp)
@[simp] theorem changeSubLen_store_writing (v : Setting) (s : State) : (changeSubLen v s).store.writing = s.store.writing := by unfold changeSubLen; first | with_reducible rfl | ((try dsimp only); (repeat' split) <;> simp)
@[simp] theorem changeSubLen_store_closeDates (v : Setting) (s : State) : (changeSubLen v s).store.closeDates = s.store.closeDates := by unfold changeSubLen; first | with_reducible rfl | ((try dsimp only); (repeat' split) <;> simp)
@[simp] theorem changeSubLen_clock_now (v : Setting) (s : State) : (changeSubLen v s).clock.now = s.clock.now := by unfold changeSubLen; first | with_reducible rfl | ((try dsimp only); (repeat' split) <;> simp)
@[simp] theorem changeSubLen_clock_timeValid (v : Setting) (s : State) : (changeSubLen v s).clock.timeValid = s.clock.timeValid := by unfold changeSubLen; first | with_reducible rfl | ((try dsimp only); (repeat' split) <;> simp)
@[simp] theorem changeSubLen_log_clearBusy (v : Setting) (s : State) : (changeSubLen v s).log.clearBusy = s.log.clearBusy := by unfold changeSubLen; first | with_reducible rfl | ((try dsimp only); (repeat' split) <;> simp)
/-! ### changeWindowLen -/
@[simp] theorem changeWindowLen_due (v : Setting) (s : State) : (changeWindowLen v s).due = s.due := by unfold changeWindowLen; first | with_reducible rfl | ((try dsimp only); (repeat' split) <;> simp)
@[simp] theorem changeWindowLen_per (v : Setting) (s : State) : (changeWindowLen v s).per = s.per := by unfold changeWindowLen; first | with_reducible rfl | ((try dsimp only); (repeat' split) <;> simp)
@[simp] theorem changeWindowLen_sup (v : Setting) (s : State) : (changeWindowLen v s).sup = s.sup := by unfold changeWindowLen; first | with_reducible rfl | ((try dsimp only); (repeat' split) <;> simp)
@[simp] theorem changeWindowLen_pins (v : Setting) (s : State) : (changeWindowLen v s).pins = s.pins := by unfold changeWindowLen; first | with_reducible rfl | ((try dsimp only); (repeat' split) <;> simp)
@[simp] theorem changeWindowLen_pending (v : Setting) (s : State) : (changeWindowLen v s).pending = s.pending := by unfold changeWindowLen; first | with_reducible rfl | ((try dsimp only); (repeat' split) <;> simp)
@[simp] theorem changeWindowLen_free (v : Setting) (s : State) : (changeWindowLen v s).free = s.free := by unfold changeWindowLen; first | with_reducible rfl | ((try dsimp only); (repeat' split) <;> simp)
@[simp] theorem changeWindowLen_store_writing (v : Setting) (s : State) : (changeWindowLen v s).store.writing = s.store.writing := by unfold changeWindowLen; first | with_reducible rfl | ((try dsimp only); (repeat' split) <;> simp)
@[simp] theorem changeWindowLen_store_closeDates (v : Setting) (s : State) : (changeWindowLen v s).store.closeDates = s.store.closeDates := by unfold changeWindowLen; first | with_reducible rfl | ((try dsimp only); (repeat' split) <;> simp)
@[simp] theorem changeWindowLen_clock_now (v : Setting) (s : State) : (changeWindowLen v s).clock.now = s.clock.now := by unfold changeWindowLen; first | with_reducible rfl | ((try dsimp only); (repeat' split) <;> simp)
@[simp] theorem changeWindowLen_clock_timeValid (v : Setting) (s : State) : (changeWindowLen v s).clock.timeValid = s.clock.timeValid := by unfold changeWindowLen; first | with_reducible rfl | ((try dsimp only); (repeat' split) <;> simp)
@[simp] theorem changeWindowLen_log_clearBusy (v : Setting) (s : State) : (changeWindowLen v s).log.clearBusy = s.log.clearBusy := by unfold changeWindowLen; first | with_reducible rfl | ((try dsimp only); (repeat' split) <;> simp)
/-! ### changeSyncMode -/
@[simp] theorem changeSyncMode_due (v : Setting) (m : SyncMode) (s : State) : (changeSyncMode v m s).due = s.due := by unfold changeSyncMode; first | with_reducible rfl | ((try dsimp only); (repeat' split) <;> simp)
@[simp] theorem changeSyncMode_per (v : Setting) (m : SyncMode) (s : State) : (changeSyncMode v m s).per = s.per := by unfold changeSyncMode; first | with_reducible rfl | ((try dsimp only); (repeat' split) <;> simp)
@[simp] theorem changeSyncMode_sup (v : Setting) (m : SyncMode) (s : State) : (changeSyncMode v m s).sup = s.sup := by unfold changeSyncMode; first | with_reducible rfl | ((try dsimp only); (repeat' split) <;> simp)
@[simp] theorem changeSyncMode_pins (v : Setting) (m : SyncMode) (s : State) : (changeSyncMode v m s).pins = s.pins := by unfold changeSyncMode; first | with_reducible rfl | ((try dsimp only); (repeat' split) <;> simp)
@[simp] theorem changeSyncMode_pending (v : Setting) (m : SyncMode) (s : State) : (changeSyncMode v m s).pending = s.pending := by unfold changeSyncMode; first | with_reducible rfl | ((try dsimp only); (repeat' split) <;> simp)
@[simp] theorem changeSyncMode_free (v : Setting) (m : SyncMode) (s : State) : (changeSyncMode v m s).free = s.free := by unfold changeSyncMode; first | with_reducible rfl | ((try dsimp only); (repeat' split) <;> simp)
@[simp] theorem changeSyncMode_store_writing (v : Setting) (m : SyncMode) (s : State) : (changeSyncMode v m s).store.writing = s.store.writing := by unfold changeSyncMode; first | with_reducible rfl | ((try dsimp only); (repeat' split) <;> simp)
@[simp] theorem changeSyncMode_store_closeDates (v : Setting) (m : SyncMode) (s : State) : (changeSyncMode v m s).store.closeDates = s.store.closeDates := by unfold changeSyncMode; first | with_reducible rfl | ((try dsimp only); (repeat' split) <;> simp)
@[simp] theorem changeSyncMode_clock_now (v : Setting) (m : SyncMode) (s : State) : (changeSyncMode v m s).clock.now = s.clock.now := by unfold changeSyncMode; first | with_reducible rfl | ((try dsimp only); (repeat' split) <;> simp)
@[simp] theorem changeSyncMode_clock_timeValid (v : Setting) (m : SyncMode) (s : State) : (changeSyncMode v m s).clock.timeValid = s.clock.timeValid := by unfold changeSyncMode; first | with_reducible rfl | ((try dsimp only); (repeat' split) <;> simp)
@[simp] theorem changeSyncMode_log_clearBusy (v : Setting) (m : SyncMode) (s : State) : (changeSyncMode v m s).log.clearBusy = s.log.clearBusy := by unfold changeSyncMode; first | with_reducible rfl | ((try dsimp only); (repeat' split) <;> simp)
/-! ### changeEnable -/
@[simp] theorem changeEnable_clock (v : Setting) (c : Fin 4) (on : Bool) (s : State) : (changeEnable v c on s).clock = s.clock := by unfold changeEnable; first | with_reducible rfl | ((try dsimp only); (repeat' split) <;> simp)
@[simp] theorem changeEnable_due (v : Setting) (c : Fin 4) (on : Bool) (s : State) : (changeEnable v c on s).due = s.due := by unfold changeEnable; first | with_reducible rfl | ((try dsimp only); (repeat' split) <;> simp)
@[simp] theorem changeEnable_tot (v : Setting) (c : Fin 4) (on : Bool) (s : State) : (changeEnable v c on s).tot = s.tot := by unfold changeEnable; first | with_reducible rfl | ((try dsimp only); (repeat' split) <;> simp)
@[simp] theorem changeEnable_dem (v : Setting) (c : Fin 4) (on : Bool) (s : State) : (changeEnable v c on s).dem = s.dem := by unfold changeEnable; first | with_reducible rfl | ((try dsimp only); (repeat' split) <;> simp)
@[simp] theorem changeEnable_per (v : Setting) (c : Fin 4) (on : Bool) (s : State) : (changeEnable v c on s).per = s.per := by unfold changeEnable; first | with_reducible rfl | ((try dsimp only); (repeat' split) <;> simp)
@[simp] theorem changeEnable_log (v : Setting) (c : Fin 4) (on : Bool) (s : State) : (changeEnable v c on s).log = s.log := by unfold changeEnable; first | with_reducible rfl | ((try dsimp only); (repeat' split) <;> simp)
@[simp] theorem changeEnable_lim (v : Setting) (c : Fin 4) (on : Bool) (s : State) : (changeEnable v c on s).lim = s.lim := by unfold changeEnable; first | with_reducible rfl | ((try dsimp only); (repeat' split) <;> simp)
@[simp] theorem changeEnable_util (v : Setting) (c : Fin 4) (on : Bool) (s : State) : (changeEnable v c on s).util = s.util := by unfold changeEnable; first | with_reducible rfl | ((try dsimp only); (repeat' split) <;> simp)
@[simp] theorem changeEnable_cust (v : Setting) (c : Fin 4) (on : Bool) (s : State) : (changeEnable v c on s).cust = s.cust := by unfold changeEnable; first | with_reducible rfl | ((try dsimp only); (repeat' split) <;> simp)
@[simp] theorem changeEnable_sup (v : Setting) (c : Fin 4) (on : Bool) (s : State) : (changeEnable v c on s).sup = s.sup := by unfold changeEnable; first | with_reducible rfl | ((try dsimp only); (repeat' split) <;> simp)
@[simp] theorem changeEnable_pins (v : Setting) (c : Fin 4) (on : Bool) (s : State) : (changeEnable v c on s).pins = s.pins := by unfold changeEnable; first | with_reducible rfl | ((try dsimp only); (repeat' split) <;> simp)
@[simp] theorem changeEnable_pending (v : Setting) (c : Fin 4) (on : Bool) (s : State) : (changeEnable v c on s).pending = s.pending := by unfold changeEnable; first | with_reducible rfl | ((try dsimp only); (repeat' split) <;> simp)
@[simp] theorem changeEnable_free (v : Setting) (c : Fin 4) (on : Bool) (s : State) : (changeEnable v c on s).free = s.free := by unfold changeEnable; first | with_reducible rfl | ((try dsimp only); (repeat' split) <;> simp)
@[simp] theorem changeEnable_store_writing (v : Setting) (c : Fin 4) (on : Bool) (s : State) : (changeEnable v c on s).store.writing = s.store.writing := by unfold changeEnable; first | with_reducible rfl | ((try dsimp only); (repeat' split) <;> simp)
@[simp] theorem changeEnable_store_closeDates (v : Setting) (c : Fin 4) (on : Bool) (s : State) : (changeEnable v c on s).store.closeDates = s.store.closeDates := by unfold changeEnable; first | with_reducible rfl | ((try dsimp only); (repeat' split) <;> simp)
@[simp] theorem changeEnable_store_active (v : Setting) (c : Fin 4) (on : Bool) (s : State) : (changeEnable v c on s).store.active = s.store.active := by unfold changeEnable; first | with_reducible rfl | ((try dsimp only); (repeat' split) <;> simp)
@[simp] theorem changeEnable_store_pendSched (v : Setting) (c : Fin 4) (on : Bool) (s : State) : (changeEnable v c on s).store.pendSched = s.store.pendSched := by unfold changeEnable; first | with_reducible rfl | ((try dsimp only); (repeat' split) <;> simp)
@[simp] theorem changeEnable_sub_start (v : Setting) (c : Fin 4) (on : Bool) (s : State) : (changeEnable v c on s).sub.start = s.sub.start := by unfold changeEnable; first | with_reducible rfl | ((try dsimp only); (repeat' split) <;> simp)
@[simp] theorem changeEnable_sub_nominalEnd (v : Setting) (c : Fin 4) (on : Bool) (s : State) : (changeEnable v c on s).sub.nominalEnd = s.sub.nominalEnd := by unfold changeEnable; first | with_reducible rfl | ((try dsimp only); (repeat' split) <;> simp)
@[simp] theorem changeEnable_sub_elapsed (v : Setting) (c : Fin 4) (on : Bool) (s : State) : (changeEnable v c on s).sub.elapsed = s.sub.elapsed := by unfold changeEnable; first | with_reducible rfl | ((try dsimp only); (repeat' split) <;> simp)
@[simp] theorem changeEnable_sub_rate (v : Setting) (c : Fin 4) (on : Bool) (s : State) : (changeEnable v c on s).sub.rate = s.sub.rate := by unfold changeEnable; first | with_reducible rfl | ((try dsimp only); (repeat' split) <;> simp)
/-! ### commitSetting -/
@[simp] theorem commitSetting_due (v : Setting) (s : State) : (commitSetting v s).due = s.due := by unfold commitSetting; first | with_reducible rfl | ((try dsimp only); (repeat' split) <;> simp)
@[simp] theorem commitSetting_per (v : Setting) (s : State) : (commitSetting v s).per = s.per := by unfold commitSetting; first | with_reducible rfl | ((try dsimp only); (repeat' split) <;> simp)
@[simp] theorem commitSetting_sup (v : Setting) (s : State) : (commitSetting v s).sup = s.sup := by unfold commitSetting; first | with_reducible rfl | ((try dsimp only); (repeat' split) <;> simp)
@[simp] theorem commitSetting_pins (v : Setting) (s : State) : (commitSetting v s).pins = s.pins := by unfold commitSetting; first | with_reducible rfl | ((try dsimp only); (repeat' split) <;> simp)
@[simp] theorem commitSetting_pending (v : Setting) (s : State) : (commitSetting v s).pending = s.pending := by unfold commitSetting; first | with_reducible rfl | ((try dsimp only); (repeat' split) <;> simp)
@[simp] theorem commitSetting_free (v : Setting) (s : State) : (commitSetting v s).free = s.free := by unfold commitSetting; first | with_reducible rfl | ((try dsimp only); (repeat' split) <;> simp)
/-! ### commitLockMode -/
@[simp] theorem commitLockMode_clock (m : LockMode) (s : State) : (commitLockMode m s).clock = s.clock := by unfold commitLockMode; first | with_reducible rfl | ((try dsimp only); (repeat' split) <;> simp)
@[simp] theorem commitLockMode_sub (m : LockMode) (s : State) : (commitLockMode m s).sub = s.sub := by unfold commitLockMode; first | with_reducible rfl | ((try dsimp only); (repeat' split) <;> simp)
@[simp] theorem commitLockMode_due (m : LockMode) (s : State) : (commitLockMode m s).due = s.due := by unfold commitLockMode; first | with_reducible rfl | ((try dsimp only); (repeat' split) <;> simp)
@[simp] theorem commitLockMode_chans (m : LockMode) (s : State) : (commitLockMode m s).chans = s.chans := by unfold commitLockMode; first | with_reducible rfl | ((try dsimp only); (repeat' split) <;> simp)
@[simp] theorem commitLockMode_tot (m : LockMode) (s : State) : (commitLockMode m s).tot = s.tot := by unfold commitLockMode; first | with_reducible rfl | ((try dsimp only); (repeat' split) <;> simp)
@[simp] theorem commitLockMode_dem (m : LockMode) (s : State) : (commitLockMode m s).dem = s.dem := by unfold commitLockMode; first | with_reducible rfl | ((try dsimp only); (repeat' split) <;> simp)
@[simp] theorem commitLockMode_per (m : LockMode) (s : State) : (commitLockMode m s).per = s.per := by unfold commitLockMode; first | with_reducible rfl | ((try dsimp only); (repeat' split) <;> simp)
@[simp] theorem commitLockMode_log (m : LockMode) (s : State) : (commitLockMode m s).log = s.log := by unfold commitLockMode; first | with_reducible rfl | ((try dsimp only); (repeat' split) <;> simp)
@[simp] theorem commitLockMode_lim (m : LockMode) (s : State) : (commitLockMode m s).lim = s.lim := by unfold commitLockMode; first | with_reducible rfl | ((try dsimp only); (repeat' split) <;> simp)
@[simp] theorem commitLockMode_util (m : LockMode) (s : State) : (commitLockMode m s).util = s.util := by unfold commitLockMode; first | with_reducible rfl | ((try dsimp only); (repeat' split) <;> simp)
@[simp] theorem commitLockMode_cust (m : LockMode) (s : State) : (commitLockMode m s).cust = s.cust := by unfold commitLockMode; first | with_reducible rfl | ((try dsimp only); (repeat' split) <;> simp)
@[simp] theorem commitLockMode_sup (m : LockMode) (s : State) : (commitLockMode m s).sup = s.sup := by unfold commitLockMode; first | with_reducible rfl | ((try dsimp only); (repeat' split) <;> simp)
@[simp] theorem commitLockMode_pins (m : LockMode) (s : State) : (commitLockMode m s).pins = s.pins := by unfold commitLockMode; first | with_reducible rfl | ((try dsimp only); (repeat' split) <;> simp)
@[simp] theorem commitLockMode_pending (m : LockMode) (s : State) : (commitLockMode m s).pending = s.pending := by unfold commitLockMode; first | with_reducible rfl | ((try dsimp only); (repeat' split) <;> simp)
@[simp] theorem commitLockMode_free (m : LockMode) (s : State) : (commitLockMode m s).free = s.free := by unfold commitLockMode; first | with_reducible rfl | ((try dsimp only); (repeat' split) <;> simp)
@[simp] theorem commitLockMode_store_writing (m : LockMode) (s : State) : (commitLockMode m s).store.writing = s.store.writing := by unfold commitLockMode; first | with_reducible rfl | ((try dsimp only); (repeat' split) <;> simp)
@[simp] theorem commitLockMode_store_closeDates (m : LockMode) (s : State) : (commitLockMode m s).store.closeDates = s.store.closeDates := by unfold commitLockMode; first | with_reducible rfl | ((try dsimp only); (repeat' split) <;> simp)
@[simp] theorem commitLockMode_store_active (m : LockMode) (s : State) : (commitLockMode m s).store.active = s.store.active := by unfold commitLockMode; first | with_reducible rfl | ((try dsimp only); (repeat' split) <;> simp)
@[simp] theorem commitLockMode_store_pendSched (m : LockMode) (s : State) : (commitLockMode m s).store.pendSched = s.store.pendSched := by unfold commitLockMode; first | with_reducible rfl | ((try dsimp only); (repeat' split) <;> simp)
/-! ### commitCalibrationLock -/
@[simp] theorem commitCalibrationLock_clock (c : Fin 4) (s : State) : (commitCalibrationLock c s).clock = s.clock := by unfold commitCalibrationLock; first | with_reducible rfl | ((try dsimp only); (repeat' split) <;> simp)
@[simp] theorem commitCalibrationLock_sub (c : Fin 4) (s : State) : (commitCalibrationLock c s).sub = s.sub := by unfold commitCalibrationLock; first | with_reducible rfl | ((try dsimp only); (repeat' split) <;> simp)
@[simp] theorem commitCalibrationLock_due (c : Fin 4) (s : State) : (commitCalibrationLock c s).due = s.due := by unfold commitCalibrationLock; first | with_reducible rfl | ((try dsimp only); (repeat' split) <;> simp)
@[simp] theorem commitCalibrationLock_chans (c : Fin 4) (s : State) : (commitCalibrationLock c s).chans = s.chans := by unfold commitCalibrationLock; first | with_reducible rfl | ((try dsimp only); (repeat' split) <;> simp)
@[simp] theorem commitCalibrationLock_tot (c : Fin 4) (s : State) : (commitCalibrationLock c s).tot = s.tot := by unfold commitCalibrationLock; first | with_reducible rfl | ((try dsimp only); (repeat' split) <;> simp)
@[simp] theorem commitCalibrationLock_dem (c : Fin 4) (s : State) : (commitCalibrationLock c s).dem = s.dem := by unfold commitCalibrationLock; first | with_reducible rfl | ((try dsimp only); (repeat' split) <;> simp)
@[simp] theorem commitCalibrationLock_per (c : Fin 4) (s : State) : (commitCalibrationLock c s).per = s.per := by unfold commitCalibrationLock; first | with_reducible rfl | ((try dsimp only); (repeat' split) <;> simp)
@[simp] theorem commitCalibrationLock_log (c : Fin 4) (s : State) : (commitCalibrationLock c s).log = s.log := by unfold commitCalibrationLock; first | with_reducible rfl | ((try dsimp only); (repeat' split) <;> simp)
@[simp] theorem commitCalibrationLock_lim (c : Fin 4) (s : State) : (commitCalibrationLock c s).lim = s.lim := by unfold commitCalibrationLock; first | with_reducible rfl | ((try dsimp only); (repeat' split) <;> simp)
@[simp] theorem commitCalibrationLock_util (c : Fin 4) (s : State) : (commitCalibrationLock c s).util = s.util := by unfold commitCalibrationLock; first | with_reducible rfl | ((try dsimp only); (repeat' split) <;> simp)
@[simp] theorem commitCalibrationLock_cust (c : Fin 4) (s : State) : (commitCalibrationLock c s).cust = s.cust := by unfold commitCalibrationLock; first | with_reducible rfl | ((try dsimp only); (repeat' split) <;> simp)
@[simp] theorem commitCalibrationLock_sup (c : Fin 4) (s : State) : (commitCalibrationLock c s).sup = s.sup := by unfold commitCalibrationLock; first | with_reducible rfl | ((try dsimp only); (repeat' split) <;> simp)
@[simp] theorem commitCalibrationLock_pins (c : Fin 4) (s : State) : (commitCalibrationLock c s).pins = s.pins := by unfold commitCalibrationLock; first | with_reducible rfl | ((try dsimp only); (repeat' split) <;> simp)
@[simp] theorem commitCalibrationLock_pending (c : Fin 4) (s : State) : (commitCalibrationLock c s).pending = s.pending := by unfold commitCalibrationLock; first | with_reducible rfl | ((try dsimp only); (repeat' split) <;> simp)
@[simp] theorem commitCalibrationLock_free (c : Fin 4) (s : State) : (commitCalibrationLock c s).free = s.free := by unfold commitCalibrationLock; first | with_reducible rfl | ((try dsimp only); (repeat' split) <;> simp)
@[simp] theorem commitCalibrationLock_store_writing (c : Fin 4) (s : State) : (commitCalibrationLock c s).store.writing = s.store.writing := by unfold commitCalibrationLock; first | with_reducible rfl | ((try dsimp only); (repeat' split) <;> simp)
@[simp] theorem commitCalibrationLock_store_closeDates (c : Fin 4) (s : State) : (commitCalibrationLock c s).store.closeDates = s.store.closeDates := by unfold commitCalibrationLock; first | with_reducible rfl | ((try dsimp only); (repeat' split) <;> simp)
@[simp] theorem commitCalibrationLock_store_active (c : Fin 4) (s : State) : (commitCalibrationLock c s).store.active = s.store.active := by unfold commitCalibrationLock; first | with_reducible rfl | ((try dsimp only); (repeat' split) <;> simp)
@[simp] theorem commitCalibrationLock_store_pendSched (c : Fin 4) (s : State) : (commitCalibrationLock c s).store.pendSched = s.store.pendSched := by unfold commitCalibrationLock; first | with_reducible rfl | ((try dsimp only); (repeat' split) <;> simp)
/-! ### commitItem -/
@[simp] theorem commitItem_due (i : StoreItem) (s : State) : (commitItem i s).due = s.due := by unfold commitItem; first | with_reducible rfl | ((try dsimp only); (repeat' split) <;> simp)
@[simp] theorem commitItem_per (i : StoreItem) (s : State) : (commitItem i s).per = s.per := by unfold commitItem; first | with_reducible rfl | ((try dsimp only); (repeat' split) <;> simp)
@[simp] theorem commitItem_sup (i : StoreItem) (s : State) : (commitItem i s).sup = s.sup := by unfold commitItem; first | with_reducible rfl | ((try dsimp only); (repeat' split) <;> simp)
@[simp] theorem commitItem_pins (i : StoreItem) (s : State) : (commitItem i s).pins = s.pins := by unfold commitItem; first | with_reducible rfl | ((try dsimp only); (repeat' split) <;> simp)
@[simp] theorem commitItem_pending (i : StoreItem) (s : State) : (commitItem i s).pending = s.pending := by unfold commitItem; first | with_reducible rfl | ((try dsimp only); (repeat' split) <;> simp)
@[simp] theorem commitItem_free (i : StoreItem) (s : State) : (commitItem i s).free = s.free := by unfold commitItem; first | with_reducible rfl | ((try dsimp only); (repeat' split) <;> simp)
/-! ### completeStore -/
@[simp] theorem completeStore_due (w : StoreWrite) (s : State) : (completeStore w s).due = s.due := by unfold completeStore; first | with_reducible rfl | ((try dsimp only); (repeat' split) <;> simp)
@[simp] theorem completeStore_per (w : StoreWrite) (s : State) : (completeStore w s).per = s.per := by unfold completeStore; first | with_reducible rfl | ((try dsimp only); (repeat' split) <;> simp)
@[simp] theorem completeStore_sup (w : StoreWrite) (s : State) : (completeStore w s).sup = s.sup := by unfold completeStore; first | with_reducible rfl | ((try dsimp only); (repeat' split) <;> simp)
@[simp] theorem completeStore_pins (w : StoreWrite) (s : State) : (completeStore w s).pins = s.pins := by unfold completeStore; first | with_reducible rfl | ((try dsimp only); (repeat' split) <;> simp)
@[simp] theorem completeStore_pending (w : StoreWrite) (s : State) : (completeStore w s).pending = s.pending := by unfold completeStore; first | with_reducible rfl | ((try dsimp only); (repeat' split) <;> simp)
@[simp] theorem completeStore_free (w : StoreWrite) (s : State) : (completeStore w s).free = s.free := by unfold completeStore; first | with_reducible rfl | ((try dsimp only); (repeat' split) <;> simp)
/-! ### startWrite -/
@[simp] theorem startWrite_clock (p : Port) (i : StoreItem) (s : State) : (startWrite p i s).clock = s.clock := by unfold startWrite; first | with_reducible rfl | ((try dsimp only); (repeat' split) <;> simp)
@[simp] theorem startWrite_sub (p : Port) (i : StoreItem) (s : State) : (startWrite p i s).sub = s.sub := by unfold startWrite; first | with_reducible rfl | ((try dsimp only); (repeat' split) <;> simp)
@[simp] theorem startWrite_due (p : Port) (i : StoreItem) (s : State) : (startWrite p i s).due = s.due := by unfold startWrite; first | with_reducible rfl | ((try dsimp only); (repeat' split) <;> simp)
@[simp] theorem startWrite_chans (p : Port) (i : StoreItem) (s : State) : (startWrite p i s).chans = s.chans := by unfold startWrite; first | with_reducible rfl | ((try dsimp only); (repeat' split) <;> simp)
@[simp] theorem startWrite_tot (p : Port) (i : StoreItem) (s : State) : (startWrite p i s).tot = s.tot := by unfold startWrite; first | with_reducible rfl | ((try dsimp only); (repeat' split) <;> simp)
@[simp] theorem startWrite_dem (p : Port) (i : StoreItem) (s : State) : (startWrite p i s).dem = s.dem := by unfold startWrite; first | with_reducible rfl | ((try dsimp only); (repeat' split) <;> simp)
@[simp] theorem startWrite_per (p : Port) (i : StoreItem) (s : State) : (startWrite p i s).per = s.per := by unfold startWrite; first | with_reducible rfl | ((try dsimp only); (repeat' split) <;> simp)
@[simp] theorem startWrite_log (p : Port) (i : StoreItem) (s : State) : (startWrite p i s).log = s.log := by unfold startWrite; first | with_reducible rfl | ((try dsimp only); (repeat' split) <;> simp)
@[simp] theorem startWrite_lim (p : Port) (i : StoreItem) (s : State) : (startWrite p i s).lim = s.lim := by unfold startWrite; first | with_reducible rfl | ((try dsimp only); (repeat' split) <;> simp)
@[simp] theorem startWrite_util (p : Port) (i : StoreItem) (s : State) : (startWrite p i s).util = s.util := by unfold startWrite; first | with_reducible rfl | ((try dsimp only); (repeat' split) <;> simp)
@[simp] theorem startWrite_cust (p : Port) (i : StoreItem) (s : State) : (startWrite p i s).cust = s.cust := by unfold startWrite; first | with_reducible rfl | ((try dsimp only); (repeat' split) <;> simp)
@[simp] theorem startWrite_sup (p : Port) (i : StoreItem) (s : State) : (startWrite p i s).sup = s.sup := by unfold startWrite; first | with_reducible rfl | ((try dsimp only); (repeat' split) <;> simp)
@[simp] theorem startWrite_pins (p : Port) (i : StoreItem) (s : State) : (startWrite p i s).pins = s.pins := by unfold startWrite; first | with_reducible rfl | ((try dsimp only); (repeat' split) <;> simp)
@[simp] theorem startWrite_pending (p : Port) (i : StoreItem) (s : State) : (startWrite p i s).pending = s.pending := by unfold startWrite; first | with_reducible rfl | ((try dsimp only); (repeat' split) <;> simp)
@[simp] theorem startWrite_free (p : Port) (i : StoreItem) (s : State) : (startWrite p i s).free = s.free := by unfold startWrite; first | with_reducible rfl | ((try dsimp only); (repeat' split) <;> simp)
@[simp] theorem startWrite_store_config (p : Port) (i : StoreItem) (s : State) : (startWrite p i s).store.config = s.store.config := by unfold startWrite; first | with_reducible rfl | ((try dsimp only); (repeat' split) <;> simp)
@[simp] theorem startWrite_store_closeDates (p : Port) (i : StoreItem) (s : State) : (startWrite p i s).store.closeDates = s.store.closeDates := by unfold startWrite; first | with_reducible rfl | ((try dsimp only); (repeat' split) <;> simp)
@[simp] theorem startWrite_store_active (p : Port) (i : StoreItem) (s : State) : (startWrite p i s).store.active = s.store.active := by unfold startWrite; first | with_reducible rfl | ((try dsimp only); (repeat' split) <;> simp)
@[simp] theorem startWrite_store_pendSched (p : Port) (i : StoreItem) (s : State) : (startWrite p i s).store.pendSched = s.store.pendSched := by unfold startWrite; first | with_reducible rfl | ((try dsimp only); (repeat' split) <;> simp)
/-! ### revertLock -/
@[simp] theorem revertLock_clock (s : State) : (revertLock s).clock = s.clock := by unfold revertLock; first | with_reducible rfl | ((try dsimp only); (repeat' split) <;> simp)
@[simp] theorem revertLock_sub (s : State) : (revertLock s).sub = s.sub := by unfold revertLock; first | with_reducible rfl | ((try dsimp only); (repeat' split) <;> simp)
@[simp] theorem revertLock_due (s : State) : (revertLock s).due = s.due := by unfold revertLock; first | with_reducible rfl | ((try dsimp only); (repeat' split) <;> simp)
@[simp] theorem revertLock_chans (s : State) : (revertLock s).chans = s.chans := by unfold revertLock; first | with_reducible rfl | ((try dsimp only); (repeat' split) <;> simp)
@[simp] theorem revertLock_tot (s : State) : (revertLock s).tot = s.tot := by unfold revertLock; first | with_reducible rfl | ((try dsimp only); (repeat' split) <;> simp)
@[simp] theorem revertLock_dem (s : State) : (revertLock s).dem = s.dem := by unfold revertLock; first | with_reducible rfl | ((try dsimp only); (repeat' split) <;> simp)
@[simp] theorem revertLock_per (s : State) : (revertLock s).per = s.per := by unfold revertLock; first | with_reducible rfl | ((try dsimp only); (repeat' split) <;> simp)
@[simp] theorem revertLock_log (s : State) : (revertLock s).log = s.log := by unfold revertLock; first | with_reducible rfl | ((try dsimp only); (repeat' split) <;> simp)
@[simp] theorem revertLock_lim (s : State) : (revertLock s).lim = s.lim := by unfold revertLock; first | with_reducible rfl | ((try dsimp only); (repeat' split) <;> simp)
@[simp] theorem revertLock_util (s : State) : (revertLock s).util = s.util := by unfold revertLock; first | with_reducible rfl | ((try dsimp only); (repeat' split) <;> simp)
@[simp] theorem revertLock_cust (s : State) : (revertLock s).cust = s.cust := by unfold revertLock; first | with_reducible rfl | ((try dsimp only); (repeat' split) <;> simp)
@[simp] theorem revertLock_sup (s : State) : (revertLock s).sup = s.sup := by unfold revertLock; first | with_reducible rfl | ((try dsimp only); (repeat' split) <;> simp)
@[simp] theorem revertLock_pins (s : State) : (revertLock s).pins = s.pins := by unfold revertLock; first | with_reducible rfl | ((try dsimp only); (repeat' split) <;> simp)
@[simp] theorem revertLock_pending (s : State) : (revertLock s).pending = s.pending := by unfold revertLock; first | with_reducible rfl | ((try dsimp only); (repeat' split) <;> simp)
@[simp] theorem revertLock_free (s : State) : (revertLock s).free = s.free := by unfold revertLock; first | with_reducible rfl | ((try dsimp only); (repeat' split) <;> simp)
@[simp] theorem revertLock_store_writing (s : State) : (revertLock s).store.writing = s.store.writing := by unfold revertLock; first | with_reducible rfl | ((try dsimp only); (repeat' split) <;> simp)
@[simp] theorem revertLock_store_closeDates (s : State) : (revertLock s).store.closeDates = s.store.closeDates := by unfold revertLock; first | with_reducible rfl | ((try dsimp only); (repeat' split) <;> simp)
@[simp] theorem revertLock_store_active (s : State) : (revertLock s).store.active = s.store.active := by unfold revertLock; first | with_reducible rfl | ((try dsimp only); (repeat' split) <;> simp)
@[simp] theorem revertLock_store_pendSched (s : State) : (revertLock s).store.pendSched = s.store.pendSched := by unfold revertLock; first | with_reducible rfl | ((try dsimp only); (repeat' split) <;> simp)
/-! ### abandonWrite -/
@[simp] theorem abandonWrite_clock (s : State) : (abandonWrite s).clock = s.clock := by unfold abandonWrite; first | with_reducible rfl | ((try dsimp only); (repeat' split) <;> simp)
@[simp] theorem abandonWrite_sub (s : State) : (abandonWrite s).sub = s.sub := by unfold abandonWrite; first | with_reducible rfl | ((try dsimp only); (repeat' split) <;> simp)
@[simp] theorem abandonWrite_due (s : State) : (abandonWrite s).due = s.due := by unfold abandonWrite; first | with_reducible rfl | ((try dsimp only); (repeat' split) <;> simp)
@[simp] theorem abandonWrite_chans (s : State) : (abandonWrite s).chans = s.chans := by unfold abandonWrite; first | with_reducible rfl | ((try dsimp only); (repeat' split) <;> simp)
@[simp] theorem abandonWrite_tot (s : State) : (abandonWrite s).tot = s.tot := by unfold abandonWrite; first | with_reducible rfl | ((try dsimp only); (repeat' split) <;> simp)
@[simp] theorem abandonWrite_dem (s : State) : (abandonWrite s).dem = s.dem := by unfold abandonWrite; first | with_reducible rfl | ((try dsimp only); (repeat' split) <;> simp)
@[simp] theorem abandonWrite_per (s : State) : (abandonWrite s).per = s.per := by unfold abandonWrite; first | with_reducible rfl | ((try dsimp only); (repeat' split) <;> simp)
@[simp] theorem abandonWrite_log (s : State) : (abandonWrite s).log = s.log := by unfold abandonWrite; first | with_reducible rfl | ((try dsimp only); (repeat' split) <;> simp)
@[simp] theorem abandonWrite_lim (s : State) : (abandonWrite s).lim = s.lim := by unfold abandonWrite; first | with_reducible rfl | ((try dsimp only); (repeat' split) <;> simp)
@[simp] theorem abandonWrite_util (s : State) : (abandonWrite s).util = s.util := by unfold abandonWrite; first | with_reducible rfl | ((try dsimp only); (repeat' split) <;> simp)
@[simp] theorem abandonWrite_cust (s : State) : (abandonWrite s).cust = s.cust := by unfold abandonWrite; first | with_reducible rfl | ((try dsimp only); (repeat' split) <;> simp)
@[simp] theorem abandonWrite_sup (s : State) : (abandonWrite s).sup = s.sup := by unfold abandonWrite; first | with_reducible rfl | ((try dsimp only); (repeat' split) <;> simp)
@[simp] theorem abandonWrite_pins (s : State) : (abandonWrite s).pins = s.pins := by unfold abandonWrite; first | with_reducible rfl | ((try dsimp only); (repeat' split) <;> simp)
@[simp] theorem abandonWrite_pending (s : State) : (abandonWrite s).pending = s.pending := by unfold abandonWrite; first | with_reducible rfl | ((try dsimp only); (repeat' split) <;> simp)
@[simp] theorem abandonWrite_free (s : State) : (abandonWrite s).free = s.free := by unfold abandonWrite; first | with_reducible rfl | ((try dsimp only); (repeat' split) <;> simp)
@[simp] theorem abandonWrite_store_config (s : State) : (abandonWrite s).store.config = s.store.config := by unfold abandonWrite; first | with_reducible rfl | ((try dsimp only); (repeat' split) <;> simp)
@[simp] theorem abandonWrite_store_closeDates (s : State) : (abandonWrite s).store.closeDates = s.store.closeDates := by unfold abandonWrite; first | with_reducible rfl | ((try dsimp only); (repeat' split) <;> simp)
@[simp] theorem abandonWrite_store_active (s : State) : (abandonWrite s).store.active = s.store.active := by unfold abandonWrite; first | with_reducible rfl | ((try dsimp only); (repeat' split) <;> simp)
@[simp] theorem abandonWrite_store_pendSched (s : State) : (abandonWrite s).store.pendSched = s.store.pendSched := by unfold abandonWrite; first | with_reducible rfl | ((try dsimp only); (repeat' split) <;> simp)

/-! ### enterHold -/
@[simp] theorem enterHold_store (s : State) : (enterHold s).store = s.store := by unfold enterHold; first | with_reducible rfl | ((try dsimp only); (repeat' split) <;> simp)
@[simp] theorem enterHold_clock (s : State) : (enterHold s).clock = s.clock := by unfold enterHold; first | with_reducible rfl | ((try dsimp only); (repeat' split) <;> simp)
@[simp] theorem enterHold_due (s : State) : (enterHold s).due = s.due := by unfold enterHold; first | with_reducible rfl | ((try dsimp only); (repeat' split) <;> simp)
@[simp] theorem enterHold_chans (s : State) : (enterHold s).chans = s.chans := by unfold enterHold; first | with_reducible rfl | ((try dsimp only); (repeat' split) <;> simp)
@[simp] theorem enterHold_tot (s : State) : (enterHold s).tot = s.tot := by unfold enterHold; first | with_reducible rfl | ((try dsimp only); (repeat' split) <;> simp)
@[simp] theorem enterHold_dem (s : State) : (enterHold s).dem = s.dem := by unfold enterHold; first | with_reducible rfl | ((try dsimp only); (repeat' split) <;> simp)
@[simp] theorem enterHold_per (s : State) : (enterHold s).per = s.per := by unfold enterHold; first | with_reducible rfl | ((try dsimp only); (repeat' split) <;> simp)
@[simp] theorem enterHold_log (s : State) : (enterHold s).log = s.log := by unfold enterHold; first | with_reducible rfl | ((try dsimp only); (repeat' split) <;> simp)
@[simp] theorem enterHold_lim (s : State) : (enterHold s).lim = s.lim := by unfold enterHold; first | with_reducible rfl | ((try dsimp only); (repeat' split) <;> simp)
@[simp] theorem enterHold_pending (s : State) : (enterHold s).pending = s.pending := by unfold enterHold; first | with_reducible rfl | ((try dsimp only); (repeat' split) <;> simp)
@[simp] theorem enterHold_free (s : State) : (enterHold s).free = s.free := by unfold enterHold; first | with_reducible rfl | ((try dsimp only); (repeat' split) <;> simp)
@[simp] theorem enterHold_sub_start (s : State) : (enterHold s).sub.start = s.sub.start := by unfold enterHold; first | with_reducible rfl | ((try dsimp only); (repeat' split) <;> simp)
@[simp] theorem enterHold_sub_nominalEnd (s : State) : (enterHold s).sub.nominalEnd = s.sub.nominalEnd := by unfold enterHold; first | with_reducible rfl | ((try dsimp only); (repeat' split) <;> simp)
@[simp] theorem enterHold_sub_elapsed (s : State) : (enterHold s).sub.elapsed = s.sub.elapsed := by unfold enterHold; first | with_reducible rfl | ((try dsimp only); (repeat' split) <;> simp)
@[simp] theorem enterHold_sub_rate (s : State) : (enterHold s).sub.rate = s.sub.rate := by unfold enterHold; first | with_reducible rfl | ((try dsimp only); (repeat' split) <;> simp)
@[simp] theorem enterHold_sup_mainSupply (s : State) : (enterHold s).sup.mainSupply = s.sup.mainSupply := by unfold enterHold; first | with_reducible rfl | ((try dsimp only); (repeat' split) <;> simp)
/-! ### releaseHold -/
@[simp] theorem releaseHold_store (s : State) : (releaseHold s).store = s.store := by unfold releaseHold; first | with_reducible rfl | ((try dsimp only); (repeat' split) <;> simp)
@[simp] theorem releaseHold_clock (s : State) : (releaseHold s).clock = s.clock := by unfold releaseHold; first | with_reducible rfl | ((try dsimp only); (repeat' split) <;> simp)
@[simp] theorem releaseHold_due (s : State) : (releaseHold s).due = s.due := by unfold releaseHold; first | with_reducible rfl | ((try dsimp only); (repeat' split) <;> simp)
@[simp] theorem releaseHold_chans (s : State) : (releaseHold s).chans = s.chans := by unfold releaseHold; first | with_reducible rfl | ((try dsimp only); (repeat' split) <;> simp)
@[simp] theorem releaseHold_tot (s : State) : (releaseHold s).tot = s.tot := by unfold releaseHold; first | with_reducible rfl | ((try dsimp only); (repeat' split) <;> simp)
@[simp] theorem releaseHold_dem (s : State) : (releaseHold s).dem = s.dem := by unfold releaseHold; first | with_reducible rfl | ((try dsimp only); (repeat' split) <;> simp)
@[simp] theorem releaseHold_per (s : State) : (releaseHold s).per = s.per := by unfold releaseHold; first | with_reducible rfl | ((try dsimp only); (repeat' split) <;> simp)
@[simp] theorem releaseHold_log (s : State) : (releaseHold s).log = s.log := by unfold releaseHold; first | with_reducible rfl | ((try dsimp only); (repeat' split) <;> simp)
@[simp] theorem releaseHold_lim (s : State) : (releaseHold s).lim = s.lim := by unfold releaseHold; first | with_reducible rfl | ((try dsimp only); (repeat' split) <;> simp)
@[simp] theorem releaseHold_util (s : State) : (releaseHold s).util = s.util := by unfold releaseHold; first | with_reducible rfl | ((try dsimp only); (repeat' split) <;> simp)
@[simp] theorem releaseHold_cust (s : State) : (releaseHold s).cust = s.cust := by unfold releaseHold; first | with_reducible rfl | ((try dsimp only); (repeat' split) <;> simp)
@[simp] theorem releaseHold_pending (s : State) : (releaseHold s).pending = s.pending := by unfold releaseHold; first | with_reducible rfl | ((try dsimp only); (repeat' split) <;> simp)
@[simp] theorem releaseHold_free (s : State) : (releaseHold s).free = s.free := by unfold releaseHold; first | with_reducible rfl | ((try dsimp only); (repeat' split) <;> simp)
@[simp] theorem releaseHold_sub_start (s : State) : (releaseHold s).sub.start = s.sub.start := by unfold releaseHold; first | with_reducible rfl | ((try dsimp only); (repeat' split) <;> simp)
@[simp] theorem releaseHold_sub_nominalEnd (s : State) : (releaseHold s).sub.nominalEnd = s.sub.nominalEnd := by unfold releaseHold; first | with_reducible rfl | ((try dsimp only); (repeat' split) <;> simp)
@[simp] theorem releaseHold_sub_elapsed (s : State) : (releaseHold s).sub.elapsed = s.sub.elapsed := by unfold releaseHold; first | with_reducible rfl | ((try dsimp only); (repeat' split) <;> simp)
@[simp] theorem releaseHold_sub_rate (s : State) : (releaseHold s).sub.rate = s.sub.rate := by unfold releaseHold; first | with_reducible rfl | ((try dsimp only); (repeat' split) <;> simp)
@[simp] theorem releaseHold_sup_mainSupply (s : State) : (releaseHold s).sup.mainSupply = s.sup.mainSupply := by unfold releaseHold; first | with_reducible rfl | ((try dsimp only); (repeat' split) <;> simp)
/-! ### loseSupply -/
@[simp] theorem loseSupply_store (s : State) : (loseSupply s).store = s.store := by unfold loseSupply; first | with_reducible rfl | ((try dsimp only); (repeat' split) <;> simp)
@[simp] theorem loseSupply_clock (s : State) : (loseSupply s).clock = s.clock := by unfold loseSupply; first | with_reducible rfl | ((try dsimp only); (repeat' split) <;> simp)
@[simp] theorem loseSupply_sub (s : State) : (loseSupply s).sub = s.sub := by unfold loseSupply; first | with_reducible rfl | ((try dsimp only); (repeat' split) <;> simp)
@[simp] theorem loseSupply_chans (s : State) : (loseSupply s).chans = s.chans := by unfold loseSupply; first | with_reducible rfl | ((try dsimp only); (repeat' split) <;> simp)
@[simp] theorem loseSupply_tot (s : State) : (loseSupply s).tot = s.tot := by unfold loseSupply; first | with_reducible rfl | ((try dsimp only); (repeat' split) <;> simp)
@[simp] theorem loseSupply_dem (s : State) : (loseSupply s).dem = s.dem := by unfold loseSupply; first | with_reducible rfl | ((try dsimp only); (repeat' split) <;> simp)
@[simp] theorem loseSupply_per (s : State) : (loseSupply s).per = s.per := by unfold loseSupply; first | with_reducible rfl | ((try dsimp only); (repeat' split) <;> simp)
@[simp] theorem loseSupply_log (s : State) : (loseSupply s).log = s.log := by unfold loseSupply; first | with_reducible rfl | ((try dsimp only); (repeat' split) <;> simp)
@[simp] theorem loseSupply_lim (s : State) : (loseSupply s).lim = s.lim := by unfold loseSupply; first | with_reducible rfl | ((try dsimp only); (repeat' split) <;> simp)
@[simp] theorem loseSupply_util (s : State) : (loseSupply s).util = s.util := by unfold loseSupply; first | with_reducible rfl | ((try dsimp only); (repeat' split) <;> simp)
@[simp] theorem loseSupply_cust (s : State) : (loseSupply s).cust = s.cust := by unfold loseSupply; first | with_reducible rfl | ((try dsimp only); (repeat' split) <;> simp)
@[simp] theorem loseSupply_pins (s : State) : (loseSupply s).pins = s.pins := by unfold loseSupply; first | with_reducible rfl | ((try dsimp only); (repeat' split) <;> simp)
@[simp] theorem loseSupply_pending (s : State) : (loseSupply s).pending = s.pending := by unfold loseSupply; first | with_reducible rfl | ((try dsimp only); (repeat' split) <;> simp)
@[simp] theorem loseSupply_free (s : State) : (loseSupply s).free = s.free := by unfold loseSupply; first | with_reducible rfl | ((try dsimp only); (repeat' split) <;> simp)
@[simp] theorem loseSupply_sup_hold (s : State) : (loseSupply s).sup.hold = s.sup.hold := by unfold loseSupply; first | with_reducible rfl | ((try dsimp only); (repeat' split) <;> simp)
/-! ### coldBlocks -/
@[simp] theorem coldBlocks_sub (lv : PinLevels) (s : State) : (coldBlocks lv s).sub = s.sub := by unfold coldBlocks; first | with_reducible rfl | ((try dsimp only); (repeat' split) <;> simp)
@[simp] theorem coldBlocks_lim (lv : PinLevels) (s : State) : (coldBlocks lv s).lim = s.lim := by unfold coldBlocks; first | with_reducible rfl | ((try dsimp only); (repeat' split) <;> simp)
@[simp] theorem coldBlocks_pending (lv : PinLevels) (s : State) : (coldBlocks lv s).pending = s.pending := by unfold coldBlocks; first | with_reducible rfl | ((try dsimp only); (repeat' split) <;> simp)
@[simp] theorem coldBlocks_free (lv : PinLevels) (s : State) : (coldBlocks lv s).free = s.free := by unfold coldBlocks; first | with_reducible rfl | ((try dsimp only); (repeat' split) <;> simp)
@[simp] theorem coldBlocks_store_closeDates (lv : PinLevels) (s : State) : (coldBlocks lv s).store.closeDates = s.store.closeDates := by unfold coldBlocks; first | with_reducible rfl | ((try dsimp only); (repeat' split) <;> simp)
@[simp] theorem coldBlocks_store_active (lv : PinLevels) (s : State) : (coldBlocks lv s).store.active = s.store.active := by unfold coldBlocks; first | with_reducible rfl | ((try dsimp only); (repeat' split) <;> simp)
@[simp] theorem coldBlocks_store_pendSched (lv : PinLevels) (s : State) : (coldBlocks lv s).store.pendSched = s.store.pendSched := by unfold coldBlocks; first | with_reducible rfl | ((try dsimp only); (repeat' split) <;> simp)
/-! ### coldStarted -/
@[simp] theorem coldStarted_pending (lv : PinLevels) (s : State) : (coldStarted lv s).pending = s.pending := by unfold coldStarted; first | with_reducible rfl | ((try dsimp only); (repeat' split) <;> simp)
@[simp] theorem coldStarted_free (lv : PinLevels) (s : State) : (coldStarted lv s).free = s.free := by unfold coldStarted; first | with_reducible rfl | ((try dsimp only); (repeat' split) <;> simp)
@[simp] theorem coldStarted_store_closeDates (lv : PinLevels) (s : State) : (coldStarted lv s).store.closeDates = s.store.closeDates := by unfold coldStarted; first | with_reducible rfl | ((try dsimp only); (repeat' split) <;> simp)
/-! ### warmBlocks -/
@[simp] theorem warmBlocks_sub (lv : PinLevels) (s : State) : (warmBlocks lv s).sub = s.sub := by unfold warmBlocks; first | with_reducible rfl | ((try dsimp only); (repeat' split) <;> simp)
@[simp] theorem warmBlocks_tot (lv : PinLevels) (s : State) : (warmBlocks lv s).tot = s.tot := by unfold warmBlocks; first | with_reducible rfl | ((try dsimp only); (repeat' split) <;> simp)
@[simp] theorem warmBlocks_dem (lv : PinLevels) (s : State) : (warmBlocks lv s).dem = s.dem := by unfold warmBlocks; first | with_reducible rfl | ((try dsimp only); (repeat' split) <;> simp)
@[simp] theorem warmBlocks_log (lv : PinLevels) (s : State) : (warmBlocks lv s).log = s.log := by unfold warmBlocks; first | with_reducible rfl | ((try dsimp only); (repeat' split) <;> simp)
@[simp] theorem warmBlocks_pending (lv : PinLevels) (s : State) : (warmBlocks lv s).pending = s.pending := by unfold warmBlocks; first | with_reducible rfl | ((try dsimp only); (repeat' split) <;> simp)
@[simp] theorem warmBlocks_free (lv : PinLevels) (s : State) : (warmBlocks lv s).free = s.free := by unfold warmBlocks; first | with_reducible rfl | ((try dsimp only); (repeat' split) <;> simp)
@[simp] theorem warmBlocks_store_closeDates (lv : PinLevels) (s : State) : (warmBlocks lv s).store.closeDates = s.store.closeDates := by unfold warmBlocks; first | with_reducible rfl | ((try dsimp only); (repeat' split) <;> simp)
@[simp] theorem warmBlocks_store_active (lv : PinLevels) (s : State) : (warmBlocks lv s).store.active = s.store.active := by unfold warmBlocks; first | with_reducible rfl | ((try dsimp only); (repeat' split) <;> simp)
@[simp] theorem warmBlocks_store_pendSched (lv : PinLevels) (s : State) : (warmBlocks lv s).store.pendSched = s.store.pendSched := by unfold warmBlocks; first | with_reducible rfl | ((try dsimp only); (repeat' split) <;> simp)
@[simp] theorem warmBlocks_clock_now (lv : PinLevels) (s : State) : (warmBlocks lv s).clock.now = s.clock.now := by unfold warmBlocks; first | with_reducible rfl | ((try dsimp only); (repeat' split) <;> simp)
@[simp] theorem warmBlocks_clock_timeValid (lv : PinLevels) (s : State) : (warmBlocks lv s).clock.timeValid = s.clock.timeValid := by unfold warmBlocks; first | with_reducible rfl | ((try dsimp only); (repeat' split) <;> simp)
@[simp] theorem warmBlocks_per_number (lv : PinLevels) (s : State) : (warmBlocks lv s).per.number = s.per.number := by unfold warmBlocks; first | with_reducible rfl | ((try dsimp only); (repeat' split) <;> simp)
@[simp] theorem warmBlocks_per_history (lv : PinLevels) (s : State) : (warmBlocks lv s).per.history = s.per.history := by unfold warmBlocks; first | with_reducible rfl | ((try dsimp only); (repeat' split) <;> simp)
@[simp] theorem warmBlocks_per_lockout (lv : PinLevels) (s : State) : (warmBlocks lv s).per.lockout = s.per.lockout := by unfold warmBlocks; first | with_reducible rfl | ((try dsimp only); (repeat' split) <;> simp)
/-! ### resumeSub -/
@[simp] theorem resumeSub_due (s : State) : (resumeSub s).due = s.due := by unfold resumeSub; first | with_reducible rfl | ((try dsimp only); (repeat' split) <;> simp)
@[simp] theorem resumeSub_per (s : State) : (resumeSub s).per = s.per := by unfold resumeSub; first | with_reducible rfl | ((try dsimp only); (repeat' split) <;> simp)
@[simp] theorem resumeSub_sup (s : State) : (resumeSub s).sup = s.sup := by unfold resumeSub; first | with_reducible rfl | ((try dsimp only); (repeat' split) <;> simp)
@[simp] theorem resumeSub_pins (s : State) : (resumeSub s).pins = s.pins := by unfold resumeSub; first | with_reducible rfl | ((try dsimp only); (repeat' split) <;> simp)
@[simp] theorem resumeSub_pending (s : State) : (resumeSub s).pending = s.pending := by unfold resumeSub; first | with_reducible rfl | ((try dsimp only); (repeat' split) <;> simp)
@[simp] theorem resumeSub_free (s : State) : (resumeSub s).free = s.free := by unfold resumeSub; first | with_reducible rfl | ((try dsimp only); (repeat' split) <;> simp)
@[simp] theorem resumeSub_store_config (s : State) : (resumeSub s).store.config = s.store.config := by unfold resumeSub; first | with_reducible rfl | ((try dsimp only); (repeat' split) <;> simp)
@[simp] theorem resumeSub_store_writing (s : State) : (resumeSub s).store.writing = s.store.writing := by unfold resumeSub; first | with_reducible rfl | ((try dsimp only); (repeat' split) <;> simp)
@[simp] theorem resumeSub_store_closeDates (s : State) : (resumeSub s).store.closeDates = s.store.closeDates := by unfold resumeSub; first | with_reducible rfl | ((try dsimp only); (repeat' split) <;> simp)
@[simp] theorem resumeSub_clock_now (s : State) : (resumeSub s).clock.now = s.clock.now := by unfold resumeSub; first | with_reducible rfl | ((try dsimp only); (repeat' split) <;> simp)
@[simp] theorem resumeSub_clock_timeValid (s : State) : (resumeSub s).clock.timeValid = s.clock.timeValid := by unfold resumeSub; first | with_reducible rfl | ((try dsimp only); (repeat' split) <;> simp)
@[simp] theorem resumeSub_log_clearBusy (s : State) : (resumeSub s).log.clearBusy = s.log.clearBusy := by unfold resumeSub; first | with_reducible rfl | ((try dsimp only); (repeat' split) <;> simp)
/-! ### recordOutage -/
@[simp] theorem recordOutage_store (s : State) : (recordOutage s).store = s.store := by unfold recordOutage; first | with_reducible rfl | ((try dsimp only); (repeat' split) <;> simp)
@[simp] theorem recordOutage_clock (s : State) : (recordOutage s).clock = s.clock := by unfold recordOutage; first | with_reducible rfl | ((try dsimp only); (repeat' split) <;> simp)
@[simp] theorem recordOutage_sub (s : State) : (recordOutage s).sub = s.sub := by unfold recordOutage; first | with_reducible rfl | ((try dsimp only); (repeat' split) <;> simp)
@[simp] theorem recordOutage_due (s : State) : (recordOutage s).due = s.due := by unfold recordOutage; first | with_reducible rfl | ((try dsimp only); (repeat' split) <;> simp)
@[simp] theorem recordOutage_chans (s : State) : (recordOutage s).chans = s.chans := by unfold recordOutage; first | with_reducible rfl | ((try dsimp only); (repeat' split) <;> simp)
@[simp] theorem recordOutage_tot (s : State) : (recordOutage s).tot = s.tot := by unfold recordOutage; first | with_reducible rfl | ((try dsimp only); (repeat' split) <;> simp)
@[simp] theorem recordOutage_per (s : State) : (recordOutage s).per = s.per := by unfold recordOutage; first | with_reducible rfl | ((try dsimp only); (repeat' split) <;> simp)
@[simp] theorem recordOutage_lim (s : State) : (recordOutage s).lim = s.lim := by unfold recordOutage; first | with_reducible rfl | ((try dsimp only); (repeat' split) <;> simp)
@[simp] theorem recordOutage_pins (s : State) : (recordOutage s).pins = s.pins := by unfold recordOutage; first | with_reducible rfl | ((try dsimp only); (repeat' split) <;> simp)
@[simp] theorem recordOutage_pending (s : State) : (recordOutage s).pending = s.pending := by unfold recordOutage; first | with_reducible rfl | ((try dsimp only); (repeat' split) <;> simp)
@[simp] theorem recordOutage_free (s : State) : (recordOutage s).free = s.free := by unfold recordOutage; first | with_reducible rfl | ((try dsimp only); (repeat' split) <;> simp)
@[simp] theorem recordOutage_dem_ring (s : State) : (recordOutage s).dem.ring = s.dem.ring := by unfold recordOutage; first | with_reducible rfl | ((try dsimp only); (repeat' split) <;> simp)
@[simp] theorem recordOutage_dem_window (s : State) : (recordOutage s).dem.window = s.dem.window := by unfold recordOutage; first | with_reducible rfl | ((try dsimp only); (repeat' split) <;> simp)
@[simp] theorem recordOutage_dem_maxima (s : State) : (recordOutage s).dem.maxima = s.dem.maxima := by unfold recordOutage; first | with_reducible rfl | ((try dsimp only); (repeat' split) <;> simp)
@[simp] theorem recordOutage_log_clearBusy (s : State) : (recordOutage s).log.clearBusy = s.log.clearBusy := by unfold recordOutage; first | with_reducible rfl | ((try dsimp only); (repeat' split) <;> simp)
@[simp] theorem recordOutage_sup_hold (s : State) : (recordOutage s).sup.hold = s.sup.hold := by unfold recordOutage; first | with_reducible rfl | ((try dsimp only); (repeat' split) <;> simp)
@[simp] theorem recordOutage_sup_mainSupply (s : State) : (recordOutage s).sup.mainSupply = s.sup.mainSupply := by unfold recordOutage; first | with_reducible rfl | ((try dsimp only); (repeat' split) <;> simp)
/-! ### requestLateClose -/
@[simp] theorem requestLateClose_store (s : State) : (requestLateClose s).store = s.store := by unfold requestLateClose; first | with_reducible rfl | ((try dsimp only); (repeat' split) <;> simp)
@[simp] theorem requestLateClose_sub (s : State) : (requestLateClose s).sub = s.sub := by unfold requestLateClose; first | with_reducible rfl | ((try dsimp only); (repeat' split) <;> simp)
@[simp] theorem requestLateClose_due (s : State) : (requestLateClose s).due = s.due := by unfold requestLateClose; first | with_reducible rfl | ((try dsimp only); (repeat' split) <;> simp)
@[simp] theorem requestLateClose_chans (s : State) : (requestLateClose s).chans = s.chans := by unfold requestLateClose; first | with_reducible rfl | ((try dsimp only); (repeat' split) <;> simp)
@[simp] theorem requestLateClose_lim (s : State) : (requestLateClose s).lim = s.lim := by unfold requestLateClose; first | with_reducible rfl | ((try dsimp only); (repeat' split) <;> simp)
@[simp] theorem requestLateClose_sup (s : State) : (requestLateClose s).sup = s.sup := by unfold requestLateClose; first | with_reducible rfl | ((try dsimp only); (repeat' split) <;> simp)
@[simp] theorem requestLateClose_pins (s : State) : (requestLateClose s).pins = s.pins := by unfold requestLateClose; first | with_reducible rfl | ((try dsimp only); (repeat' split) <;> simp)
@[simp] theorem requestLateClose_pending (s : State) : (requestLateClose s).pending = s.pending := by unfold requestLateClose; first | with_reducible rfl | ((try dsimp only); (repeat' split) <;> simp)
@[simp] theorem requestLateClose_free (s : State) : (requestLateClose s).free = s.free := by unfold requestLateClose; first | with_reducible rfl | ((try dsimp only); (repeat' split) <;> simp)
@[simp] theorem requestLateClose_clock_now (s : State) : (requestLateClose s).clock.now = s.clock.now := by unfold requestLateClose; first | with_reducible rfl | ((try dsimp only); (repeat' split) <;> simp)
@[simp] theorem requestLateClose_clock_timeValid (s : State) : (requestLateClose s).clock.timeValid = s.clock.timeValid := by unfold requestLateClose; first | with_reducible rfl | ((try dsimp only); (repeat' split) <;> simp)
@[simp] theorem requestLateClose_tot_lastSeq (s : State) : (requestLateClose s).tot.lastSeq = s.tot.lastSeq := by unfold requestLateClose; first | with_reducible rfl | ((try dsimp only); (repeat' split) <;> simp)
@[simp] theorem requestLateClose_tot_acc (s : State) : (requestLateClose s).tot.acc = s.tot.acc := by unfold requestLateClose; first | with_reducible rfl | ((try dsimp only); (repeat' split) <;> simp)
@[simp] theorem requestLateClose_dem_ring (s : State) : (requestLateClose s).dem.ring = s.dem.ring := by unfold requestLateClose; first | with_reducible rfl | ((try dsimp only); (repeat' split) <;> simp)
@[simp] theorem requestLateClose_dem_window (s : State) : (requestLateClose s).dem.window = s.dem.window := by unfold requestLateClose; first | with_reducible rfl | ((try dsimp only); (repeat' split) <;> simp)
@[simp] theorem requestLateClose_dem_pickup (s : State) : (requestLateClose s).dem.pickup = s.dem.pickup := by unfold requestLateClose; first | with_reducible rfl | ((try dsimp only); (repeat' split) <;> simp)
@[simp] theorem requestLateClose_per_history (s : State) : (requestLateClose s).per.history = s.per.history := by unfold requestLateClose; first | with_reducible rfl | ((try dsimp only); (repeat' split) <;> simp)
@[simp] theorem requestLateClose_log_clearBusy (s : State) : (requestLateClose s).log.clearBusy = s.log.clearBusy := by unfold requestLateClose; first | with_reducible rfl | ((try dsimp only); (repeat' split) <;> simp)
/-! ### warmStarted -/
@[simp] theorem warmStarted_pending (lv : PinLevels) (s : State) : (warmStarted lv s).pending = s.pending := by unfold warmStarted; first | with_reducible rfl | ((try dsimp only); (repeat' split) <;> simp)
@[simp] theorem warmStarted_free (lv : PinLevels) (s : State) : (warmStarted lv s).free = s.free := by unfold warmStarted; first | with_reducible rfl | ((try dsimp only); (repeat' split) <;> simp)
@[simp] theorem warmStarted_store_closeDates (lv : PinLevels) (s : State) : (warmStarted lv s).store.closeDates = s.store.closeDates := by unfold warmStarted; first | with_reducible rfl | ((try dsimp only); (repeat' split) <;> simp)
@[simp] theorem warmStarted_clock_now (lv : PinLevels) (s : State) : (warmStarted lv s).clock.now = s.clock.now := by unfold warmStarted; first | with_reducible rfl | ((try dsimp only); (repeat' split) <;> simp)
@[simp] theorem warmStarted_clock_timeValid (lv : PinLevels) (s : State) : (warmStarted lv s).clock.timeValid = s.clock.timeValid := by unfold warmStarted; first | with_reducible rfl | ((try dsimp only); (repeat' split) <;> simp)
@[simp] theorem warmStarted_per_history (lv : PinLevels) (s : State) : (warmStarted lv s).per.history = s.per.history := by unfold warmStarted; first | with_reducible rfl | ((try dsimp only); (repeat' split) <;> simp)
/-! ### restartPorts -/
@[simp] theorem restartPorts_store (s : State) : (restartPorts s).store = s.store := by unfold restartPorts; first | with_reducible rfl | ((try dsimp only); (repeat' split) <;> simp)
@[simp] theorem restartPorts_clock (s : State) : (restartPorts s).clock = s.clock := by unfold restartPorts; first | with_reducible rfl | ((try dsimp only); (repeat' split) <;> simp)
@[simp] theorem restartPorts_sub (s : State) : (restartPorts s).sub = s.sub := by unfold restartPorts; first | with_reducible rfl | ((try dsimp only); (repeat' split) <;> simp)
@[simp] theorem restartPorts_due (s : State) : (restartPorts s).due = s.due := by unfold restartPorts; first | with_reducible rfl | ((try dsimp only); (repeat' split) <;> simp)
@[simp] theorem restartPorts_chans (s : State) : (restartPorts s).chans = s.chans := by unfold restartPorts; first | with_reducible rfl | ((try dsimp only); (repeat' split) <;> simp)
@[simp] theorem restartPorts_tot (s : State) : (restartPorts s).tot = s.tot := by unfold restartPorts; first | with_reducible rfl | ((try dsimp only); (repeat' split) <;> simp)
@[simp] theorem restartPorts_dem (s : State) : (restartPorts s).dem = s.dem := by unfold restartPorts; first | with_reducible rfl | ((try dsimp only); (repeat' split) <;> simp)
@[simp] theorem restartPorts_per (s : State) : (restartPorts s).per = s.per := by unfold restartPorts; first | with_reducible rfl | ((try dsimp only); (repeat' split) <;> simp)
@[simp] theorem restartPorts_log (s : State) : (restartPorts s).log = s.log := by unfold restartPorts; first | with_reducible rfl | ((try dsimp only); (repeat' split) <;> simp)
@[simp] theorem restartPorts_lim (s : State) : (restartPorts s).lim = s.lim := by unfold restartPorts; first | with_reducible rfl | ((try dsimp only); (repeat' split) <;> simp)
@[simp] theorem restartPorts_sup (s : State) : (restartPorts s).sup = s.sup := by unfold restartPorts; first | with_reducible rfl | ((try dsimp only); (repeat' split) <;> simp)
@[simp] theorem restartPorts_pins (s : State) : (restartPorts s).pins = s.pins := by unfold restartPorts; first | with_reducible rfl | ((try dsimp only); (repeat' split) <;> simp)
@[simp] theorem restartPorts_pending (s : State) : (restartPorts s).pending = s.pending := by unfold restartPorts; first | with_reducible rfl | ((try dsimp only); (repeat' split) <;> simp)
@[simp] theorem restartPorts_free (s : State) : (restartPorts s).free = s.free := by unfold restartPorts; first | with_reducible rfl | ((try dsimp only); (repeat' split) <;> simp)
/-! ### restartTail -/
@[simp] theorem restartTail_store (s : State) : (restartTail s).store = s.store := by unfold restartTail; first | with_reducible rfl | ((try dsimp only); (repeat' split) <;> simp)
@[simp] theorem restartTail_sub (s : State) : (restartTail s).sub = s.sub := by unfold restartTail; first | with_reducible rfl | ((try dsimp only); (repeat' split) <;> simp)
@[simp] theorem restartTail_tot (s : State) : (restartTail s).tot = s.tot := by unfold restartTail; first | with_reducible rfl | ((try dsimp only); (repeat' split) <;> simp)
@[simp] theorem restartTail_dem (s : State) : (restartTail s).dem = s.dem := by unfold restartTail; first | with_reducible rfl | ((try dsimp only); (repeat' split) <;> simp)
@[simp] theorem restartTail_per (s : State) : (restartTail s).per = s.per := by unfold restartTail; first | with_reducible rfl | ((try dsimp only); (repeat' split) <;> simp)
@[simp] theorem restartTail_lim (s : State) : (restartTail s).lim = s.lim := by unfold restartTail; first | with_reducible rfl | ((try dsimp only); (repeat' split) <;> simp)
@[simp] theorem restartTail_pins (s : State) : (restartTail s).pins = s.pins := by unfold restartTail; first | with_reducible rfl | ((try dsimp only); (repeat' split) <;> simp)
@[simp] theorem restartTail_pending (s : State) : (restartTail s).pending = s.pending := by unfold restartTail; first | with_reducible rfl | ((try dsimp only); (repeat' split) <;> simp)
@[simp] theorem restartTail_free (s : State) : (restartTail s).free = s.free := by unfold restartTail; first | with_reducible rfl | ((try dsimp only); (repeat' split) <;> simp)
@[simp] theorem restartTail_clock_now (s : State) : (restartTail s).clock.now = s.clock.now := by unfold restartTail; first | with_reducible rfl | ((try dsimp only); (repeat' split) <;> simp)
@[simp] theorem restartTail_clock_timeValid (s : State) : (restartTail s).clock.timeValid = s.clock.timeValid := by unfold restartTail; first | with_reducible rfl | ((try dsimp only); (repeat' split) <;> simp)
@[simp] theorem restartTail_log_clearBusy (s : State) : (restartTail s).log.clearBusy = s.log.clearBusy := by unfold restartTail; first | with_reducible rfl | ((try dsimp only); (repeat' split) <;> simp)
@[simp] theorem restartTail_sup_hold (s : State) : (restartTail s).sup.hold = s.sup.hold := by unfold restartTail; first | with_reducible rfl | ((try dsimp only); (repeat' split) <;> simp)
@[simp] theorem restartTail_sup_mainSupply (s : State) : (restartTail s).sup.mainSupply = s.sup.mainSupply := by unfold restartTail; first | with_reducible rfl | ((try dsimp only); (repeat' split) <;> simp)
/-! ### restarted -/
@[simp] theorem restarted_per (s : State) : (restarted s).per = s.per := by unfold restarted; first | with_reducible rfl | ((try dsimp only); (repeat' split) <;> simp)
@[simp] theorem restarted_pins (s : State) : (restarted s).pins = s.pins := by unfold restarted; first | with_reducible rfl | ((try dsimp only); (repeat' split) <;> simp)
@[simp] theorem restarted_pending (s : State) : (restarted s).pending = s.pending := by unfold restarted; first | with_reducible rfl | ((try dsimp only); (repeat' split) <;> simp)
@[simp] theorem restarted_free (s : State) : (restarted s).free = s.free := by unfold restarted; first | with_reducible rfl | ((try dsimp only); (repeat' split) <;> simp)
@[simp] theorem restarted_store_config (s : State) : (restarted s).store.config = s.store.config := by unfold restarted; first | with_reducible rfl | ((try dsimp only); (repeat' split) <;> simp)
@[simp] theorem restarted_store_writing (s : State) : (restarted s).store.writing = s.store.writing := by unfold restarted; first | with_reducible rfl | ((try dsimp only); (repeat' split) <;> simp)
@[simp] theorem restarted_store_closeDates (s : State) : (restarted s).store.closeDates = s.store.closeDates := by unfold restarted; first | with_reducible rfl | ((try dsimp only); (repeat' split) <;> simp)
@[simp] theorem restarted_clock_now (s : State) : (restarted s).clock.now = s.clock.now := by unfold restarted; first | with_reducible rfl | ((try dsimp only); (repeat' split) <;> simp)
@[simp] theorem restarted_clock_timeValid (s : State) : (restarted s).clock.timeValid = s.clock.timeValid := by unfold restarted; first | with_reducible rfl | ((try dsimp only); (repeat' split) <;> simp)
@[simp] theorem restarted_sup_hold (s : State) : (restarted s).sup.hold = s.sup.hold := by unfold restarted; first | with_reducible rfl | ((try dsimp only); (repeat' split) <;> simp)
@[simp] theorem restarted_sup_mainSupply (s : State) : (restarted s).sup.mainSupply = s.sup.mainSupply := by unfold restarted; first | with_reducible rfl | ((try dsimp only); (repeat' split) <;> simp)

end Sys2Proof.Machine
end

