-- ==== Sys2Proof/Laws/FramesPorts.lean ====
section
/-! SUPPORT. Frames: for each operation of the ports' transactions and of the events, one lemma for each part of the state that it leaves as it was. -/

set_option linter.all false

namespace Sys2Proof.Machine

/-! ### snapshotRead -/
@[simp] theorem snapshotRead_store (p : Port) (code : Byte) (a : Answer) (s : State) : (snapshotRead p code a s).store = s.store := by unfold snapshotRead; first | with_reducible rfl | ((try dsimp only); (repeat' split) <;> simp)
@[simp] theorem snapshotRead_clock (p : Port) (code : Byte) (a : Answer) (s : State) : (snapshotRead p code a s).clock = s.clock := by unfold snapshotRead; first | with_reducible rfl | ((try dsimp only); (repeat' split) <;> simp)
@[simp] theorem snapshotRead_sub (p : Port) (code : Byte) (a : Answer) (s : State) : (snapshotRead p code a s).sub = s.sub := by unfold snapshotRead; first | with_reducible rfl | ((try dsimp only); (repeat' split) <;> simp)
@[simp] theorem snapshotRead_due (p : Port) (code : Byte) (a : Answer) (s : State) : (snapshotRead p code a s).due = s.due := by unfold snapshotRead; first | with_reducible rfl | ((try dsimp only); (repeat' split) <;> simp)
@[simp] theorem snapshotRead_chans (p : Port) (code : Byte) (a : Answer) (s : State) : (snapshotRead p code a s).chans = s.chans := by unfold snapshotRead; first | with_reducible rfl | ((try dsimp only); (repeat' split) <;> simp)
@[simp] theorem snapshotRead_tot (p : Port) (code : Byte) (a : Answer) (s : State) : (snapshotRead p code a s).tot = s.tot := by unfold snapshotRead; first | with_reducible rfl | ((try dsimp only); (repeat' split) <;> simp)
@[simp] theorem snapshotRead_dem (p : Port) (code : Byte) (a : Answer) (s : State) : (snapshotRead p code a s).dem = s.dem := by unfold snapshotRead; first | with_reducible rfl | ((try dsimp only); (repeat' split) <;> simp)
@[simp] theorem snapshotRead_per (p : Port) (code : Byte) (a : Answer) (s : State) : (snapshotRead p code a s).per = s.per := by unfold snapshotRead; first | with_reducible rfl | ((try dsimp only); (repeat' split) <;> simp)
@[simp] theorem snapshotRead_log (p : Port) (code : Byte) (a : Answer) (s : State) : (snapshotRead p code a s).log = s.log := by unfold snapshotRead; first | with_reducible rfl | ((try dsimp only); (repeat' split) <;> simp)
@[simp] theorem snapshotRead_lim (p : Port) (code : Byte) (a : Answer) (s : State) : (snapshotRead p code a s).lim = s.lim := by unfold snapshotRead; first | with_reducible rfl | ((try dsimp only); (repeat' split) <;> simp)
@[simp] theorem snapshotRead_sup (p : Port) (code : Byte) (a : Answer) (s : State) : (snapshotRead p code a s).sup = s.sup := by unfold snapshotRead; first | with_reducible rfl | ((try dsimp only); (repeat' split) <;> simp)
@[simp] theorem snapshotRead_pins (p : Port) (code : Byte) (a : Answer) (s : State) : (snapshotRead p code a s).pins = s.pins := by unfold snapshotRead; first | with_reducible rfl | ((try dsimp only); (repeat' split) <;> simp)
@[simp] theorem snapshotRead_pending (p : Port) (code : Byte) (a : Answer) (s : State) : (snapshotRead p code a s).pending = s.pending := by unfold snapshotRead; first | with_reducible rfl | ((try dsimp only); (repeat' split) <;> simp)
@[simp] theorem snapshotRead_free (p : Port) (code : Byte) (a : Answer) (s : State) : (snapshotRead p code a s).free = s.free := by unfold snapshotRead; first | with_reducible rfl | ((try dsimp only); (repeat' split) <;> simp)
/-! ### State.setAttn -/
@[simp] theorem State.setAttn_store (s : State) (p : Port) (u : AttentionUnit) : (State.setAttn s p u).store = s.store := by unfold State.setAttn; first | with_reducible rfl | ((try dsimp only); (repeat' split) <;> simp)
@[simp] theorem State.setAttn_clock (s : State) (p : Port) (u : AttentionUnit) : (State.setAttn s p u).clock = s.clock := by unfold State.setAttn; first | with_reducible rfl | ((try dsimp only); (repeat' split) <;> simp)
@[simp] theorem State.setAttn_sub (s : State) (p : Port) (u : AttentionUnit) : (State.setAttn s p u).sub = s.sub := by unfold State.setAttn; first | with_reducible rfl | ((try dsimp only); (repeat' split) <;> simp)
@[simp] theorem State.setAttn_due (s : State) (p : Port) (u : AttentionUnit) : (State.setAttn s p u).due = s.due := by unfold State.setAttn; first | with_reducible rfl | ((try dsimp only); (repeat' split) <;> simp)
@[simp] theorem State.setAttn_chans (s : State) (p : Port) (u : AttentionUnit) : (State.setAttn s p u).chans = s.chans := by unfold State.setAttn; first | with_reducible rfl | ((try dsimp only); (repeat' split) <;> simp)
@[simp] theorem State.setAttn_tot (s : State) (p : Port) (u : AttentionUnit) : (State.setAttn s p u).tot = s.tot := by unfold State.setAttn; first | with_reducible rfl | ((try dsimp only); (repeat' split) <;> simp)
@[simp] theorem State.setAttn_dem (s : State) (p : Port) (u : AttentionUnit) : (State.setAttn s p u).dem = s.dem := by unfold State.setAttn; first | with_reducible rfl | ((try dsimp only); (repeat' split) <;> simp)
@[simp] theorem State.setAttn_per (s : State) (p : Port) (u : AttentionUnit) : (State.setAttn s p u).per = s.per := by unfold State.setAttn; first | with_reducible rfl | ((try dsimp only); (repeat' split) <;> simp)
@[simp] theorem State.setAttn_log (s : State) (p : Port) (u : AttentionUnit) : (State.setAttn s p u).log = s.log := by unfold State.setAttn; first | with_reducible rfl | ((try dsimp only); (repeat' split) <;> simp)
@[simp] theorem State.setAttn_lim (s : State) (p : Port) (u : AttentionUnit) : (State.setAttn s p u).lim = s.lim := by unfold State.setAttn; first | with_reducible rfl | ((try dsimp only); (repeat' split) <;> simp)
@[simp] theorem State.setAttn_sup (s : State) (p : Port) (u : AttentionUnit) : (State.setAttn s p u).sup = s.sup := by unfold State.setAttn; first | with_reducible rfl | ((try dsimp only); (repeat' split) <;> simp)
@[simp] theorem State.setAttn_pins (s : State) (p : Port) (u : AttentionUnit) : (State.setAttn s p u).pins = s.pins := by unfold State.setAttn; first | with_reducible rfl | ((try dsimp only); (repeat' split) <;> simp)
@[simp] theorem State.setAttn_pending (s : State) (p : Port) (u : AttentionUnit) : (State.setAttn s p u).pending = s.pending := by unfold State.setAttn; first | with_reducible rfl | ((try dsimp only); (repeat' split) <;> simp)
@[simp] theorem State.setAttn_free (s : State) (p : Port) (u : AttentionUnit) : (State.setAttn s p u).free = s.free := by unfold State.setAttn; first | with_reducible rfl | ((try dsimp only); (repeat' split) <;> simp)
/-! ### applyEffect -/
@[simp] theorem applyEffect_store (p : Port) (e : ReadEffect) (k : Nat) (s : State) : (applyEffect p e k s).store = s.store := by unfold applyEffect; first | with_reducible rfl | ((try dsimp only); (repeat' split) <;> simp)
@[simp] theorem applyEffect_clock (p : Port) (e : ReadEffect) (k : Nat) (s : State) : (applyEffect p e k s).clock = s.clock := by unfold applyEffect; first | with_reducible rfl | ((try dsimp only); (repeat' split) <;> simp)
@[simp] theorem applyEffect_sub (p : Port) (e : ReadEffect) (k : Nat) (s : State) : (applyEffect p e k s).sub = s.sub := by unfold applyEffect; first | with_reducible rfl | ((try dsimp only); (repeat' split) <;> simp)
@[simp] theorem applyEffect_due (p : Port) (e : ReadEffect) (k : Nat) (s : State) : (applyEffect p e k s).due = s.due := by unfold applyEffect; first | with_reducible rfl | ((try dsimp only); (repeat' split) <;> simp)
@[simp] theorem applyEffect_chans (p : Port) (e : ReadEffect) (k : Nat) (s : State) : (applyEffect p e k s).chans = s.chans := by unfold applyEffect; first | with_reducible rfl | ((try dsimp only); (repeat' split) <;> simp)
@[simp] theorem applyEffect_tot (p : Port) (e : ReadEffect) (k : Nat) (s : State) : (applyEffect p e k s).tot = s.tot := by unfold applyEffect; first | with_reducible rfl | ((try dsimp only); (repeat' split) <;> simp)
@[simp] theorem applyEffect_dem (p : Port) (e : ReadEffect) (k : Nat) (s : State) : (applyEffect p e k s).dem = s.dem := by unfold applyEffect; first | with_reducible rfl | ((try dsimp only); (repeat' split) <;> simp)
@[simp] theorem applyEffect_per (p : Port) (e : ReadEffect) (k : Nat) (s : State) : (applyEffect p e k s).per = s.per := by unfold applyEffect; first | with_reducible rfl | ((try dsimp only); (repeat' split) <;> simp)
@[simp] theorem applyEffect_log (p : Port) (e : ReadEffect) (k : Nat) (s : State) : (applyEffect p e k s).log = s.log := by unfold applyEffect; first | with_reducible rfl | ((try dsimp only); (repeat' split) <;> simp)
@[simp] theorem applyEffect_lim (p : Port) (e : ReadEffect) (k : Nat) (s : State) : (applyEffect p e k s).lim = s.lim := by unfold applyEffect; first | with_reducible rfl | ((try dsimp only); (repeat' split) <;> simp)
@[simp] theorem applyEffect_sup (p : Port) (e : ReadEffect) (k : Nat) (s : State) : (applyEffect p e k s).sup = s.sup := by unfold applyEffect; first | with_reducible rfl | ((try dsimp only); (repeat' split) <;> simp)
@[simp] theorem applyEffect_pins (p : Port) (e : ReadEffect) (k : Nat) (s : State) : (applyEffect p e k s).pins = s.pins := by unfold applyEffect; first | with_reducible rfl | ((try dsimp only); (repeat' split) <;> simp)
@[simp] theorem applyEffect_pending (p : Port) (e : ReadEffect) (k : Nat) (s : State) : (applyEffect p e k s).pending = s.pending := by unfold applyEffect; first | with_reducible rfl | ((try dsimp only); (repeat' split) <;> simp)
@[simp] theorem applyEffect_free (p : Port) (e : ReadEffect) (k : Nat) (s : State) : (applyEffect p e k s).free = s.free := by unfold applyEffect; first | with_reducible rfl | ((try dsimp only); (repeat' split) <;> simp)
/-! ### endReading -/
@[simp] theorem endReading_store (p : Port) (reply : List Byte) (e : ReadEffect) (k : Nat) (s : State) : (endReading p reply e k s).store = s.store := by unfold endReading; first | with_reducible rfl | ((try dsimp only); (repeat' split) <;> simp)
@[simp] theorem endReading_clock (p : Port) (reply : List Byte) (e : ReadEffect) (k : Nat) (s : State) : (endReading p reply e k s).clock = s.clock := by unfold endReading; first | with_reducible rfl | ((try dsimp only); (repeat' split) <;> simp)
@[simp] theorem endReading_sub (p : Port) (reply : List Byte) (e : ReadEffect) (k : Nat) (s : State) : (endReading p reply e k s).sub = s.sub := by unfold endReading; first | with_reducible rfl | ((try dsimp only); (repeat' split) <;> simp)
@[simp] theorem endReading_due (p : Port) (reply : List Byte) (e : ReadEffect) (k : Nat) (s : State) : (endReading p reply e k s).due = s.due := by unfold endReading; first | with_reducible rfl | ((try dsimp only); (repeat' split) <;> simp)
@[simp] theorem endReading_chans (p : Port) (reply : List Byte) (e : ReadEffect) (k : Nat) (s : State) : (endReading p reply e k s).chans = s.chans := by unfold endReading; first | with_reducible rfl | ((try dsimp only); (repeat' split) <;> simp)
@[simp] theorem endReading_tot (p : Port) (reply : List Byte) (e : ReadEffect) (k : Nat) (s : State) : (endReading p reply e k s).tot = s.tot := by unfold endReading; first | with_reducible rfl | ((try dsimp only); (repeat' split) <;> simp)
@[simp] theorem endReading_dem (p : Port) (reply : List Byte) (e : ReadEffect) (k : Nat) (s : State) : (endReading p reply e k s).dem = s.dem := by unfold endReading; first | with_reducible rfl | ((try dsimp only); (repeat' split) <;> simp)
@[simp] theorem endReading_per (p : Port) (reply : List Byte) (e : ReadEffect) (k : Nat) (s : State) : (endReading p reply e k s).per = s.per := by unfold endReading; first | with_reducible rfl | ((try dsimp only); (repeat' split) <;> simp)
@[simp] theorem endReading_log (p : Port) (reply : List Byte) (e : ReadEffect) (k : Nat) (s : State) : (endReading p reply e k s).log = s.log := by unfold endReading; first | with_reducible rfl | ((try dsimp only); (repeat' split) <;> simp)
@[simp] theorem endReading_lim (p : Port) (reply : List Byte) (e : ReadEffect) (k : Nat) (s : State) : (endReading p reply e k s).lim = s.lim := by unfold endReading; first | with_reducible rfl | ((try dsimp only); (repeat' split) <;> simp)
@[simp] theorem endReading_sup (p : Port) (reply : List Byte) (e : ReadEffect) (k : Nat) (s : State) : (endReading p reply e k s).sup = s.sup := by unfold endReading; first | with_reducible rfl | ((try dsimp only); (repeat' split) <;> simp)
@[simp] theorem endReading_pins (p : Port) (reply : List Byte) (e : ReadEffect) (k : Nat) (s : State) : (endReading p reply e k s).pins = s.pins := by unfold endReading; first | with_reducible rfl | ((try dsimp only); (repeat' split) <;> simp)
@[simp] theorem endReading_pending (p : Port) (reply : List Byte) (e : ReadEffect) (k : Nat) (s : State) : (endReading p reply e k s).pending = s.pending := by unfold endReading; first | with_reducible rfl | ((try dsimp only); (repeat' split) <;> simp)
@[simp] theorem endReading_free (p : Port) (reply : List Byte) (e : ReadEffect) (k : Nat) (s : State) : (endReading p reply e k s).free = s.free := by unfold endReading; first | with_reducible rfl | ((try dsimp only); (repeat' split) <;> simp)
/-! ### judgeWrite -/
@[simp] theorem judgeWrite_store (p : Port) (code : Byte) (fr : Framing) (own : State → Result × State) (s : State) (h : (own s).2.store = s.store) : ((judgeWrite p code fr own s).2).store = s.store := by unfold judgeWrite; split <;> simp [h]
@[simp] theorem judgeWrite_clock (p : Port) (code : Byte) (fr : Framing) (own : State → Result × State) (s : State) (h : (own s).2.clock = s.clock) : ((judgeWrite p code fr own s).2).clock = s.clock := by unfold judgeWrite; split <;> simp [h]
@[simp] theorem judgeWrite_sub (p : Port) (code : Byte) (fr : Framing) (own : State → Result × State) (s : State) (h : (own s).2.sub = s.sub) : ((judgeWrite p code fr own s).2).sub = s.sub := by unfold judgeWrite; split <;> simp [h]
@[simp] theorem judgeWrite_due (p : Port) (code : Byte) (fr : Framing) (own : State → Result × State) (s : State) (h : (own s).2.due = s.due) : ((judgeWrite p code fr own s).2).due = s.due := by unfold judgeWrite; split <;> simp [h]
@[simp] theorem judgeWrite_chans (p : Port) (code : Byte) (fr : Framing) (own : State → Result × State) (s : State) (h : (own s).2.chans = s.chans) : ((judgeWrite p code fr own s).2).chans = s.chans := by unfold judgeWrite; split <;> simp [h]
@[simp] theorem judgeWrite_tot (p : Port) (code : Byte) (fr : Framing) (own : State → Result × State) (s : State) (h : (own s).2.tot = s.tot) : ((judgeWrite p code fr own s).2).tot = s.tot := by unfold judgeWrite; split <;> simp [h]
@[simp] theorem judgeWrite_dem (p : Port) (code : Byte) (fr : Framing) (own : State → Result × State) (s : State) (h : (own s).2.dem = s.dem) : ((judgeWrite p code fr own s).2).dem = s.dem := by unfold judgeWrite; split <;> simp [h]
@[simp] theorem judgeWrite_per (p : Port) (code : Byte) (fr : Framing) (own : State → Result × State) (s : State) (h : (own s).2.per = s.per) : ((judgeWrite p code fr own s).2).per = s.per := by unfold judgeWrite; split <;> simp [h]
@[simp] theorem judgeWrite_log (p : Port) (code : Byte) (fr : Framing) (own : State → Result × State) (s : State) (h : (own s).2.log = s.log) : ((judgeWrite p code fr own s).2).log = s.log := by unfold judgeWrite; split <;> simp [h]
@[simp] theorem judgeWrite_lim (p : Port) (code : Byte) (fr : Framing) (own : State → Result × State) (s : State) (h : (own s).2.lim = s.lim) : ((judgeWrite p code fr own s).2).lim = s.lim := by unfold judgeWrite; split <;> simp [h]
@[simp] theorem judgeWrite_util (p : Port) (code : Byte) (fr : Framing) (own : State → Result × State) (s : State) (h : (own s).2.util = s.util) : ((judgeWrite p code fr own s).2).util = s.util := by unfold judgeWrite; split <;> simp [h]
@[simp] theorem judgeWrite_cust (p : Port) (code : Byte) (fr : Framing) (own : State → Result × State) (s : State) (h : (own s).2.cust = s.cust) : ((judgeWrite p code fr own s).2).cust = s.cust := by unfold judgeWrite; split <;> simp [h]
@[simp] theorem judgeWrite_sup (p : Port) (code : Byte) (fr : Framing) (own : State → Result × State) (s : State) (h : (own s).2.sup = s.sup) : ((judgeWrite p code fr own s).2).sup = s.sup := by unfold judgeWrite; split <;> simp [h]
@[simp] theorem judgeWrite_pins (p : Port) (code : Byte) (fr : Framing) (own : State → Result × State) (s : State) (h : (own s).2.pins = s.pins) : ((judgeWrite p code fr own s).2).pins = s.pins := by unfold judgeWrite; split <;> simp [h]
@[simp] theorem judgeWrite_pending (p : Port) (code : Byte) (fr : Framing) (own : State → Result × State) (s : State) (h : (own s).2.pending = s.pending) : ((judgeWrite p code fr own s).2).pending = s.pending := by unfold judgeWrite; split <;> simp [h]
@[simp] theorem judgeWrite_free (p : Port) (code : Byte) (fr : Framing) (own : State → Result × State) (s : State) (h : (own s).2.free = s.free) : ((judgeWrite p code fr own s).2).free = s.free := by unfold judgeWrite; split <;> simp [h]
/-! ### endWriting -/
@[simp] theorem endWriting_store (p : Port) (code : Byte) (fr : Framing) (r : Result) (s : State) : (endWriting p code fr r s).store = s.store := by unfold endWriting; first | with_reducible rfl | ((try dsimp only); (repeat' split) <;> simp)
@[simp] theorem endWriting_clock (p : Port) (code : Byte) (fr : Framing) (r : Result) (s : State) : (endWriting p code fr r s).clock = s.clock := by unfold endWriting; first | with_reducible rfl | ((try dsimp only); (repeat' split) <;> simp)
@[simp] theorem endWriting_sub (p : Port) (code : Byte) (fr : Framing) (r : Result) (s : State) : (endWriting p code fr r s).sub = s.sub := by unfold endWriting; first | with_reducible rfl | ((try dsimp only); (repeat' split) <;> simp)
@[simp] theorem endWriting_due (p : Port) (code : Byte) (fr : Framing) (r : Result) (s : State) : (endWriting p code fr r s).due = s.due := by unfold endWriting; first | with_reducible rfl | ((try dsimp only); (repeat' split) <;> simp)
@[simp] theorem endWriting_chans (p : Port) (code : Byte) (fr : Framing) (r : Result) (s : State) : (endWriting p code fr r s).chans = s.chans := by unfold endWriting; first | with_reducible rfl | ((try dsimp only); (repeat' split) <;> simp)
@[simp] theorem endWriting_tot (p : Port) (code : Byte) (fr : Framing) (r : Result) (s : State) : (endWriting p code fr r s).tot = s.tot := by unfold endWriting; first | with_reducible rfl | ((try dsimp only); (repeat' split) <;> simp)
@[simp] theorem endWriting_dem (p : Port) (code : Byte) (fr : Framing) (r : Result) (s : State) : (endWriting p code fr r s).dem = s.dem := by unfold endWriting; first | with_reducible rfl | ((try dsimp only); (repeat' split) <;> simp)
@[simp] theorem endWriting_per (p : Port) (code : Byte) (fr : Framing) (r : Result) (s : State) : (endWriting p code fr r s).per = s.per := by unfold endWriting; first | with_reducible rfl | ((try dsimp only); (repeat' split) <;> simp)
@[simp] theorem endWriting_log (p : Port) (code : Byte) (fr : Framing) (r : Result) (s : State) : (endWriting p code fr r s).log = s.log := by unfold endWriting; first | with_reducible rfl | ((try dsimp only); (repeat' split) <;> simp)
@[simp] theorem endWriting_lim (p : Port) (code : Byte) (fr : Framing) (r : Result) (s : State) : (endWriting p code fr r s).lim = s.lim := by unfold endWriting; first | with_reducible rfl | ((try dsimp only); (repeat' split) <;> simp)
@[simp] theorem endWriting_sup (p : Port) (code : Byte) (fr : Framing) (r : Result) (s : State) : (endWriting p code fr r s).sup = s.sup := by unfold endWriting; first | with_reducible rfl | ((try dsimp only); (repeat' split) <;> simp)
@[simp] theorem endWriting_pins (p : Port) (code : Byte) (fr : Framing) (r : Result) (s : State) : (endWriting p code fr r s).pins = s.pins := by unfold endWriting; first | with_reducible rfl | ((try dsimp only); (repeat' split) <;> simp)
@[simp] theorem endWriting_pending (p : Port) (code : Byte) (fr : Framing) (r : Result) (s : State) : (endWriting p code fr r s).pending = s.pending := by unfold endWriting; first | with_reducible rfl | ((try dsimp only); (repeat' split) <;> simp)
@[simp] theorem endWriting_free (p : Port) (code : Byte) (fr : Framing) (r : Result) (s : State) : (endWriting p code fr r s).free = s.free := by unfold endWriting; first | with_reducible rfl | ((try dsimp only); (repeat' split) <;> simp)
/-! ### takeWrite -/
@[simp] theorem takeWrite_store (p : Port) (code : Byte) (fr : Framing) (own : State → Result × State) (s : State) (h : (own s).2.store = s.store) : (takeWrite p code fr own s).store = s.store := by unfold takeWrite; split <;> simp [h]
@[simp] theorem takeWrite_clock (p : Port) (code : Byte) (fr : Framing) (own : State → Result × State) (s : State) (h : (own s).2.clock = s.clock) : (takeWrite p code fr own s).clock = s.clock := by unfold takeWrite; split <;> simp [h]
@[simp] theorem takeWrite_sub (p : Port) (code : Byte) (fr : Framing) (own : State → Result × State) (s : State) (h : (own s).2.sub = s.sub) : (takeWrite p code fr own s).sub = s.sub := by unfold takeWrite; split <;> simp [h]
@[simp] theorem takeWrite_due (p : Port) (code : Byte) (fr : Framing) (own : State → Result × State) (s : State) (h : (own s).2.due = s.due) : (takeWrite p code fr own s).due = s.due := by unfold takeWrite; split <;> simp [h]
@[simp] theorem takeWrite_chans (p : Port) (code : Byte) (fr : Framing) (own : State → Result × State) (s : State) (h : (own s).2.chans = s.chans) : (takeWrite p code fr own s).chans = s.chans := by unfold takeWrite; split <;> simp [h]
@[simp] theorem takeWrite_tot (p : Port) (code : Byte) (fr : Framing) (own : State → Result × State) (s : State) (h : (own s).2.tot = s.tot) : (takeWrite p code fr own s).tot = s.tot := by unfold takeWrite; split <;> simp [h]
@[simp] theorem takeWrite_dem (p : Port) (code : Byte) (fr : Framing) (own : State → Result × State) (s : State) (h : (own s).2.dem = s.dem) : (takeWrite p code fr own s).dem = s.dem := by unfold takeWrite; split <;> simp [h]
@[simp] theorem takeWrite_per (p : Port) (code : Byte) (fr : Framing) (own : State → Result × State) (s : State) (h : (own s).2.per = s.per) : (takeWrite p code fr own s).per = s.per := by unfold takeWrite; split <;> simp [h]
@[simp] theorem takeWrite_log (p : Port) (code : Byte) (fr : Framing) (own : State → Result × State) (s : State) (h : (own s).2.log = s.log) : (takeWrite p code fr own s).log = s.log := by unfold takeWrite; split <;> simp [h]
@[simp] theorem takeWrite_lim (p : Port) (code : Byte) (fr : Framing) (own : State → Result × State) (s : State) (h : (own s).2.lim = s.lim) : (takeWrite p code fr own s).lim = s.lim := by unfold takeWrite; split <;> simp [h]
@[simp] theorem takeWrite_sup (p : Port) (code : Byte) (fr : Framing) (own : State → Result × State) (s : State) (h : (own s).2.sup = s.sup) : (takeWrite p code fr own s).sup = s.sup := by unfold takeWrite; split <;> simp [h]
@[simp] theorem takeWrite_pins (p : Port) (code : Byte) (fr : Framing) (own : State → Result × State) (s : State) (h : (own s).2.pins = s.pins) : (takeWrite p code fr own s).pins = s.pins := by unfold takeWrite; split <;> simp [h]
@[simp] theorem takeWrite_pending (p : Port) (code : Byte) (fr : Framing) (own : State → Result × State) (s : State) (h : (own s).2.pending = s.pending) : (takeWrite p code fr own s).pending = s.pending := by unfold takeWrite; split <;> simp [h]
@[simp] theorem takeWrite_free (p : Port) (code : Byte) (fr : Framing) (own : State → Result × State) (s : State) (h : (own s).2.free = s.free) : (takeWrite p code fr own s).free = s.free := by unfold takeWrite; split <;> simp [h]
/-! ### voidTransaction -/
@[simp] theorem voidTransaction_store (p : Port) (edges : Nat) (dataIn : Bool) (s : State) : (voidTransaction p edges dataIn s).store = s.store := by unfold voidTransaction; first | with_reducible rfl | ((try dsimp only); (repeat' split) <;> simp)
@[simp] theorem voidTransaction_clock (p : Port) (edges : Nat) (dataIn : Bool) (s : State) : (voidTransaction p edges dataIn s).clock = s.clock := by unfold voidTransaction; first | with_reducible rfl | ((try dsimp only); (repeat' split) <;> simp)
@[simp] theorem voidTransaction_sub (p : Port) (edges : Nat) (dataIn : Bool) (s : State) : (voidTransaction p edges dataIn s).sub = s.sub := by unfold voidTransaction; first | with_reducible rfl | ((try dsimp only); (repeat' split) <;> simp)
@[simp] theorem voidTransaction_due (p : Port) (edges : Nat) (dataIn : Bool) (s : State) : (voidTransaction p edges dataIn s).due = s.due := by unfold voidTransaction; first | with_reducible rfl | ((try dsimp only); (repeat' split) <;> simp)
@[simp] theorem voidTransaction_chans (p : Port) (edges : Nat) (dataIn : Bool) (s : State) : (voidTransaction p edges dataIn s).chans = s.chans := by unfold voidTransaction; first | with_reducible rfl | ((try dsimp only); (repeat' split) <;> simp)
@[simp] theorem voidTransaction_tot (p : Port) (edges : Nat) (dataIn : Bool) (s : State) : (voidTransaction p edges dataIn s).tot = s.tot := by unfold voidTransaction; first | with_reducible rfl | ((try dsimp only); (repeat' split) <;> simp)
@[simp] theorem voidTransaction_dem (p : Port) (edges : Nat) (dataIn : Bool) (s : State) : (voidTransaction p edges dataIn s).dem = s.dem := by unfold voidTransaction; first | with_reducible rfl | ((try dsimp only); (repeat' split) <;> simp)
@[simp] theorem voidTransaction_per (p : Port) (edges : Nat) (dataIn : Bool) (s : State) : (voidTransaction p edges dataIn s).per = s.per := by unfold voidTransaction; first | with_reducible rfl | ((try dsimp only); (repeat' split) <;> simp)
@[simp] theorem voidTransaction_log (p : Port) (edges : Nat) (dataIn : Bool) (s : State) : (voidTransaction p edges dataIn s).log = s.log := by unfold voidTransaction; first | with_reducible rfl | ((try dsimp only); (repeat' split) <;> simp)
@[simp] theorem voidTransaction_lim (p : Port) (edges : Nat) (dataIn : Bool) (s : State) : (voidTransaction p edges dataIn s).lim = s.lim := by unfold voidTransaction; first | with_reducible rfl | ((try dsimp only); (repeat' split) <;> simp)
@[simp] theorem voidTransaction_sup (p : Port) (edges : Nat) (dataIn : Bool) (s : State) : (voidTransaction p edges dataIn s).sup = s.sup := by unfold voidTransaction; first | with_reducible rfl | ((try dsimp only); (repeat' split) <;> simp)
@[simp] theorem voidTransaction_pins (p : Port) (edges : Nat) (dataIn : Bool) (s : State) : (voidTransaction p edges dataIn s).pins = s.pins := by unfold voidTransaction; first | with_reducible rfl | ((try dsimp only); (repeat' split) <;> simp)
@[simp] theorem voidTransaction_pending (p : Port) (edges : Nat) (dataIn : Bool) (s : State) : (voidTransaction p edges dataIn s).pending = s.pending := by unfold voidTransaction; first | with_reducible rfl | ((try dsimp only); (repeat' split) <;> simp)
@[simp] theorem voidTransaction_free (p : Port) (edges : Nat) (dataIn : Bool) (s : State) : (voidTransaction p edges dataIn s).free = s.free := by unfold voidTransaction; first | with_reducible rfl | ((try dsimp only); (repeat' split) <;> simp)
/-! ### beginTransaction -/
@[simp] theorem beginTransaction_store (p : Port) (s : State) : (beginTransaction p s).store = s.store := by unfold beginTransaction; first | with_reducible rfl | ((try dsimp only); (repeat' split) <;> simp)
@[simp] theorem beginTransaction_clock (p : Port) (s : State) : (beginTransaction p s).clock = s.clock := by unfold beginTransaction; first | with_reducible rfl | ((try dsimp only); (repeat' split) <;> simp)
@[simp] theorem beginTransaction_sub (p : Port) (s : State) : (beginTransaction p s).sub = s.sub := by unfold beginTransaction; first | with_reducible rfl | ((try dsimp only); (repeat' split) <;> simp)
@[simp] theorem beginTransaction_due (p : Port) (s : State) : (beginTransaction p s).due = s.due := by unfold beginTransaction; first | with_reducible rfl | ((try dsimp only); (repeat' split) <;> simp)
@[simp] theorem beginTransaction_chans (p : Port) (s : State) : (beginTransaction p s).chans = s.chans := by unfold beginTransaction; first | with_reducible rfl | ((try dsimp only); (repeat' split) <;> simp)
@[simp] theorem beginTransaction_tot (p : Port) (s : State) : (beginTransaction p s).tot = s.tot := by unfold beginTransaction; first | with_reducible rfl | ((try dsimp only); (repeat' split) <;> simp)
@[simp] theorem beginTransaction_dem (p : Port) (s : State) : (beginTransaction p s).dem = s.dem := by unfold beginTransaction; first | with_reducible rfl | ((try dsimp only); (repeat' split) <;> simp)
@[simp] theorem beginTransaction_per (p : Port) (s : State) : (beginTransaction p s).per = s.per := by unfold beginTransaction; first | with_reducible rfl | ((try dsimp only); (repeat' split) <;> simp)
@[simp] theorem beginTransaction_log (p : Port) (s : State) : (beginTransaction p s).log = s.log := by unfold beginTransaction; first | with_reducible rfl | ((try dsimp only); (repeat' split) <;> simp)
@[simp] theorem beginTransaction_lim (p : Port) (s : State) : (beginTransaction p s).lim = s.lim := by unfold beginTransaction; first | with_reducible rfl | ((try dsimp only); (repeat' split) <;> simp)
@[simp] theorem beginTransaction_sup (p : Port) (s : State) : (beginTransaction p s).sup = s.sup := by unfold beginTransaction; first | with_reducible rfl | ((try dsimp only); (repeat' split) <;> simp)
@[simp] theorem beginTransaction_pins (p : Port) (s : State) : (beginTransaction p s).pins = s.pins := by unfold beginTransaction; first | with_reducible rfl | ((try dsimp only); (repeat' split) <;> simp)
@[simp] theorem beginTransaction_pending (p : Port) (s : State) : (beginTransaction p s).pending = s.pending := by unfold beginTransaction; first | with_reducible rfl | ((try dsimp only); (repeat' split) <;> simp)
@[simp] theorem beginTransaction_free (p : Port) (s : State) : (beginTransaction p s).free = s.free := by unfold beginTransaction; first | with_reducible rfl | ((try dsimp only); (repeat' split) <;> simp)

/-! ### refuse -/
@[simp] theorem refuse_store (r : Result) (s : State) : ((refuse r s).2).store = s.store := by unfold refuse; first | with_reducible rfl | ((try dsimp only); (repeat' split) <;> simp)
@[simp] theorem refuse_clock (r : Result) (s : State) : ((refuse r s).2).clock = s.clock := by unfold refuse; first | with_reducible rfl | ((try dsimp only); (repeat' split) <;> simp)
@[simp] theorem refuse_sub (r : Result) (s : State) : ((refuse r s).2).sub = s.sub := by unfold refuse; first | with_reducible rfl | ((try dsimp only); (repeat' split) <;> simp)
@[simp] theorem refuse_due (r : Result) (s : State) : ((refuse r s).2).due = s.due := by unfold refuse; first | with_reducible rfl | ((try dsimp only); (repeat' split) <;> simp)
@[simp] theorem refuse_chans (r : Result) (s : State) : ((refuse r s).2).chans = s.chans := by unfold refuse; first | with_reducible rfl | ((try dsimp only); (repeat' split) <;> simp)
@[simp] theorem refuse_tot (r : Result) (s : State) : ((refuse r s).2).tot = s.tot := by unfold refuse; first | with_reducible rfl | ((try dsimp only); (repeat' split) <;> simp)
@[simp] theorem refuse_dem (r : Result) (s : State) : ((refuse r s).2).dem = s.dem := by unfold refuse; first | with_reducible rfl | ((try dsimp only); (repeat' split) <;> simp)
@[simp] theorem refuse_per (r : Result) (s : State) : ((refuse r s).2).per = s.per := by unfold refuse; first | with_reducible rfl | ((try dsimp only); (repeat' split) <;> simp)
@[simp] theorem refuse_log (r : Result) (s : State) : ((refuse r s).2).log = s.log := by unfold refuse; first | with_reducible rfl | ((try dsimp only); (repeat' split) <;> simp)
@[simp] theorem refuse_lim (r : Result) (s : State) : ((refuse r s).2).lim = s.lim := by unfold refuse; first | with_reducible rfl | ((try dsimp only); (repeat' split) <;> simp)
@[simp] theorem refuse_util (r : Result) (s : State) : ((refuse r s).2).util = s.util := by unfold refuse; first | with_reducible rfl | ((try dsimp only); (repeat' split) <;> simp)
@[simp] theorem refuse_cust (r : Result) (s : State) : ((refuse r s).2).cust = s.cust := by unfold refuse; first | with_reducible rfl | ((try dsimp only); (repeat' split) <;> simp)
@[simp] theorem refuse_sup (r : Result) (s : State) : ((refuse r s).2).sup = s.sup := by unfold refuse; first | with_reducible rfl | ((try dsimp only); (repeat' split) <;> simp)
@[simp] theorem refuse_pins (r : Result) (s : State) : ((refuse r s).2).pins = s.pins := by unfold refuse; first | with_reducible rfl | ((try dsimp only); (repeat' split) <;> simp)
@[simp] theorem refuse_pending (r : Result) (s : State) : ((refuse r s).2).pending = s.pending := by unfold refuse; first | with_reducible rfl | ((try dsimp only); (repeat' split) <;> simp)
@[simp] theorem refuse_free (r : Result) (s : State) : ((refuse r s).2).free = s.free := by unfold refuse; first | with_reducible rfl | ((try dsimp only); (repeat' split) <;> simp)
/-! ### checkThen -/
@[simp] theorem checkThen_store (c : Bool) (r : Result) (next : State → Judged) (s : State) (h : (next s).2.store = s.store) : ((checkThen c r next s).2).store = s.store := by unfold checkThen; split <;> simp [h]
@[simp] theorem checkThen_clock (c : Bool) (r : Result) (next : State → Judged) (s : State) (h : (next s).2.clock = s.clock) : ((checkThen c r next s).2).clock = s.clock := by unfold checkThen; split <;> simp [h]
@[simp] theorem checkThen_sub (c : Bool) (r : Result) (next : State → Judged) (s : State) (h : (next s).2.sub = s.sub) : ((checkThen c r next s).2).sub = s.sub := by unfold checkThen; split <;> simp [h]
@[simp] theorem checkThen_due (c : Bool) (r : Result) (next : State → Judged) (s : State) (h : (next s).2.due = s.due) : ((checkThen c r next s).2).due = s.due := by unfold checkThen; split <;> simp [h]
@[simp] theorem checkThen_chans (c : Bool) (r : Result) (next : State → Judged) (s : State) (h : (next s).2.chans = s.chans) : ((checkThen c r next s).2).chans = s.chans := by unfold checkThen; split <;> simp [h]
@[simp] theorem checkThen_tot (c : Bool) (r : Result) (next : State → Judged) (s : State) (h : (next s).2.tot = s.tot) : ((checkThen c r next s).2).tot = s.tot := by unfold checkThen; split <;> simp [h]
@[simp] theorem checkThen_dem (c : Bool) (r : Result) (next : State → Judged) (s : State) (h : (next s).2.dem = s.dem) : ((checkThen c r next s).2).dem = s.dem := by unfold checkThen; split <;> simp [h]
@[simp] theorem checkThen_per (c : Bool) (r : Result) (next : State → Judged) (s : State) (h : (next s).2.per = s.per) : ((checkThen c r next s).2).per = s.per := by unfold checkThen; split <;> simp [h]
@[simp] theorem checkThen_log (c : Bool) (r : Result) (next : State → Judged) (s : State) (h : (next s).2.log = s.log) : ((checkThen c r next s).2).log = s.log := by unfold checkThen; split <;> simp [h]
@[simp] theorem checkThen_lim (c : Bool) (r : Result) (next : State → Judged) (s : State) (h : (next s).2.lim = s.lim) : ((checkThen c r next s).2).lim = s.lim := by unfold checkThen; split <;> simp [h]
@[simp] theorem checkThen_util (c : Bool) (r : Result) (next : State → Judged) (s : State) (h : (next s).2.util = s.util) : ((checkThen c r next s).2).util = s.util := by unfold checkThen; split <;> simp [h]
@[simp] theorem checkThen_cust (c : Bool) (r : Result) (next : State → Judged) (s : State) (h : (next s).2.cust = s.cust) : ((checkThen c r next s).2).cust = s.cust := by unfold checkThen; split <;> simp [h]
@[simp] theorem checkThen_sup (c : Bool) (r : Result) (next : State → Judged) (s : State) (h : (next s).2.sup = s.sup) : ((checkThen c r next s).2).sup = s.sup := by unfold checkThen; split <;> simp [h]
@[simp] theorem checkThen_pins (c : Bool) (r : Result) (next : State → Judged) (s : State) (h : (next s).2.pins = s.pins) : ((checkThen c r next s).2).pins = s.pins := by unfold checkThen; split <;> simp [h]
@[simp] theorem checkThen_pending (c : Bool) (r : Result) (next : State → Judged) (s : State) (h : (next s).2.pending = s.pending) : ((checkThen c r next s).2).pending = s.pending := by unfold checkThen; split <;> simp [h]
@[simp] theorem checkThen_free (c : Bool) (r : Result) (next : State → Judged) (s : State) (h : (next s).2.free = s.free) : ((checkThen c r next s).2).free = s.free := by unfold checkThen; split <;> simp [h]
/-! ### storeItem -/
@[simp] theorem storeItem_clock (p : Port) (i : StoreItem) (s : State) : ((storeItem p i s).2).clock = s.clock := by unfold storeItem; first | with_reducible rfl | ((try dsimp only); (repeat' split) <;> simp)
@[simp] theorem storeItem_sub (p : Port) (i : StoreItem) (s : State) : ((storeItem p i s).2).sub = s.sub := by unfold storeItem; first | with_reducible rfl | ((try dsimp only); (repeat' split) <;> simp)
@[simp] theorem storeItem_due (p : Port) (i : StoreItem) (s : State) : ((storeItem p i s).2).due = s.due := by unfold storeItem; first | with_reducible rfl | ((try dsimp only); (repeat' split) <;> simp)
@[simp] theorem storeItem_chans (p : Port) (i : StoreItem) (s : State) : ((storeItem p i s).2).chans = s.chans := by unfold storeItem; first | with_reducible rfl | ((try dsimp only); (repeat' split) <;> simp)
@[simp] theorem storeItem_tot (p : Port) (i : StoreItem) (s : State) : ((storeItem p i s).2).tot = s.tot := by unfold storeItem; first | with_reducible rfl | ((try dsimp only); (repeat' split) <;> simp)
@[simp] theorem storeItem_dem (p : Port) (i : StoreItem) (s : State) : ((storeItem p i s).2).dem = s.dem := by unfold storeItem; first | with_reducible rfl | ((try dsimp only); (repeat' split) <;> simp)
@[simp] theorem storeItem_per (p : Port) (i : StoreItem) (s : State) : ((storeItem p i s).2).per = s.per := by unfold storeItem; first | with_reducible rfl | ((try dsimp only); (repeat' split) <;> simp)
@[simp] theorem storeItem_log (p : Port) (i : StoreItem) (s : State) : ((storeItem p i s).2).log = s.log := by unfold storeItem; first | with_reducible rfl | ((try dsimp only); (repeat' split) <;> simp)
@[simp] theorem storeItem_lim (p : Port) (i : StoreItem) (s : State) : ((storeItem p i s).2).lim = s.lim := by unfold storeItem; first | with_reducible rfl | ((try dsimp only); (repeat' split) <;> simp)
@[simp] theorem storeItem_util (p : Port) (i : StoreItem) (s : State) : ((storeItem p i s).2).util = s.util := by unfold storeItem; first | with_reducible rfl | ((try dsimp only); (repeat' split) <;> simp)
@[simp] theorem storeItem_cust (p : Port) (i : StoreItem) (s : State) : ((storeItem p i s).2).cust = s.cust := by unfold storeItem; first | with_reducible rfl | ((try dsimp only); (repeat' split) <;> simp)
@[simp] theorem storeItem_sup (p : Port) (i : StoreItem) (s : State) : ((storeItem p i s).2).sup = s.sup := by unfold storeItem; first | with_reducible rfl | ((try dsimp only); (repeat' split) <;> simp)
@[simp] theorem storeItem_pins (p : Port) (i : StoreItem) (s : State) : ((storeItem p i s).2).pins = s.pins := by unfold storeItem; first | with_reducible rfl | ((try dsimp only); (repeat' split) <;> simp)
@[simp] theorem storeItem_pending (p : Port) (i : StoreItem) (s : State) : ((storeItem p i s).2).pending = s.pending := by unfold storeItem; first | with_reducible rfl | ((try dsimp only); (repeat' split) <;> simp)
@[simp] theorem storeItem_free (p : Port) (i : StoreItem) (s : State) : ((storeItem p i s).2).free = s.free := by unfold storeItem; first | with_reducible rfl | ((try dsimp only); (repeat' split) <;> simp)
@[simp] theorem storeItem_store_config (p : Port) (i : StoreItem) (s : State) : ((storeItem p i s).2).store.config = s.store.config := by unfold storeItem; first | with_reducible rfl | ((try dsimp only); (repeat' split) <;> simp)
@[simp] theorem storeItem_store_closeDates (p : Port) (i : StoreItem) (s : State) : ((storeItem p i s).2).store.closeDates = s.store.closeDates := by unfold storeItem; first | with_reducible rfl | ((try dsimp only); (repeat' split) <;> simp)
@[simp] theorem storeItem_store_active (p : Port) (i : StoreItem) (s : State) : ((storeItem p i s).2).store.active = s.store.active := by unfold storeItem; first | with_reducible rfl | ((try dsimp only); (repeat' split) <;> simp)
@[simp] theorem storeItem_store_pendSched (p : Port) (i : StoreItem) (s : State) : ((storeItem p i s).2).store.pendSched = s.store.pendSched := by unfold storeItem; first | with_reducible rfl | ((try dsimp only); (repeat' split) <;> simp)
/-! ### storeOrRange -/
@[simp] theorem storeOrRange_clock (p : Port) (i : Option StoreItem) (s : State) : ((storeOrRange p i s).2).clock = s.clock := by unfold storeOrRange; first | with_reducible rfl | ((try dsimp only); (repeat' split) <;> simp)
@[simp] theorem storeOrRange_sub (p : Port) (i : Option StoreItem) (s : State) : ((storeOrRange p i s).2).sub = s.sub := by unfold storeOrRange; first | with_reducible rfl | ((try dsimp only); (repeat' split) <;> simp)
@[simp] theorem storeOrRange_due (p : Port) (i : Option StoreItem) (s : State) : ((storeOrRange p i s).2).due = s.due := by unfold storeOrRange; first | with_reducible rfl | ((try dsimp only); (repeat' split) <;> simp)
@[simp] theorem storeOrRange_chans (p : Port) (i : Option StoreItem) (s : State) : ((storeOrRange p i s).2).chans = s.chans := by unfold storeOrRange; first | with_reducible rfl | ((try dsimp only); (repeat' split) <;> simp)
@[simp] theorem storeOrRange_tot (p : Port) (i : Option StoreItem) (s : State) : ((storeOrRange p i s).2).tot = s.tot := by unfold storeOrRange; first | with_reducible rfl | ((try dsimp only); (repeat' split) <;> simp)
@[simp] theorem storeOrRange_dem (p : Port) (i : Option StoreItem) (s : State) : ((storeOrRange p i s).2).dem = s.dem := by unfold storeOrRange; first | with_reducible rfl | ((try dsimp only); (repeat' split) <;> simp)
@[simp] theorem storeOrRange_per (p : Port) (i : Option StoreItem) (s : State) : ((storeOrRange p i s).2).per = s.per := by unfold storeOrRange; first | with_reducible rfl | ((try dsimp only); (repeat' split) <;> simp)
@[simp] theorem storeOrRange_log (p : Port) (i : Option StoreItem) (s : State) : ((storeOrRange p i s).2).log = s.log := by unfold storeOrRange; first | with_reducible rfl | ((try dsimp only); (repeat' split) <;> simp)
@[simp] theorem storeOrRange_lim (p : Port) (i : Option StoreItem) (s : State) : ((storeOrRange p i s).2).lim = s.lim := by unfold storeOrRange; first | with_reducible rfl | ((try dsimp only); (repeat' split) <;> simp)
@[simp] theorem storeOrRange_util (p : Port) (i : Option StoreItem) (s : State) : ((storeOrRange p i s).2).util = s.util := by unfold storeOrRange; first | with_reducible rfl | ((try dsimp only); (repeat' split) <;> simp)
@[simp] theorem storeOrRange_cust (p : Port) (i : Option StoreItem) (s : State) : ((storeOrRange p i s).2).cust = s.cust := by unfold storeOrRange; first | with_reducible rfl | ((try dsimp only); (repeat' split) <;> simp)
@[simp] theorem storeOrRange_sup (p : Port) (i : Option StoreItem) (s : State) : ((storeOrRange p i s).2).sup = s.sup := by unfold storeOrRange; first | with_reducible rfl | ((try dsimp only); (repeat' split) <;> simp)
@[simp] theorem storeOrRange_pins (p : Port) (i : Option StoreItem) (s : State) : ((storeOrRange p i s).2).pins = s.pins := by unfold storeOrRange; first | with_reducible rfl | ((try dsimp only); (repeat' split) <;> simp)
@[simp] theorem storeOrRange_pending (p : Port) (i : Option StoreItem) (s : State) : ((storeOrRange p i s).2).pending = s.pending := by unfold storeOrRange; first | with_reducible rfl | ((try dsimp only); (repeat' split) <;> simp)
@[simp] theorem storeOrRange_free (p : Port) (i : Option StoreItem) (s : State) : ((storeOrRange p i s).2).free = s.free := by unfold storeOrRange; first | with_reducible rfl | ((try dsimp only); (repeat' split) <;> simp)
@[simp] theorem storeOrRange_store_config (p : Port) (i : Option StoreItem) (s : State) : ((storeOrRange p i s).2).store.config = s.store.config := by unfold storeOrRange; first | with_reducible rfl | ((try dsimp only); (repeat' split) <;> simp)
@[simp] theorem storeOrRange_store_closeDates (p : Port) (i : Option StoreItem) (s : State) : ((storeOrRange p i s).2).store.closeDates = s.store.closeDates := by unfold storeOrRange; first | with_reducible rfl | ((try dsimp only); (repeat' split) <;> simp)
@[simp] theorem storeOrRange_store_active (p : Port) (i : Option StoreItem) (s : State) : ((storeOrRange p i s).2).store.active = s.store.active := by unfold storeOrRange; first | with_reducible rfl | ((try dsimp only); (repeat' split) <;> simp)
@[simp] theorem storeOrRange_store_pendSched (p : Port) (i : Option StoreItem) (s : State) : ((storeOrRange p i s).2).store.pendSched = s.store.pendSched := by unfold storeOrRange; first | with_reducible rfl | ((try dsimp only); (repeat' split) <;> simp)
/-! ### ownEnableWrite -/
@[simp] theorem ownEnableWrite_store (p : Port) (s : State) : ((ownEnableWrite p s).2).store = s.store := by unfold ownEnableWrite; first | with_reducible rfl | ((try dsimp only); (repeat' split) <;> simp)
@[simp] theorem ownEnableWrite_clock (p : Port) (s : State) : ((ownEnableWrite p s).2).clock = s.clock := by unfold ownEnableWrite; first | with_reducible rfl | ((try dsimp only); (repeat' split) <;> simp)
@[simp] theorem ownEnableWrite_sub (p : Port) (s : State) : ((ownEnableWrite p s).2).sub = s.sub := by unfold ownEnableWrite; first | with_reducible rfl | ((try dsimp only); (repeat' split) <;> simp)
@[simp] theorem ownEnableWrite_due (p : Port) (s : State) : ((ownEnableWrite p s).2).due = s.due := by unfold ownEnableWrite; first | with_reducible rfl | ((try dsimp only); (repeat' split) <;> simp)
@[simp] theorem ownEnableWrite_chans (p : Port) (s : State) : ((ownEnableWrite p s).2).chans = s.chans := by unfold ownEnableWrite; first | with_reducible rfl | ((try dsimp only); (repeat' split) <;> simp)
@[simp] theorem ownEnableWrite_tot (p : Port) (s : State) : ((ownEnableWrite p s).2).tot = s.tot := by unfold ownEnableWrite; first | with_reducible rfl | ((try dsimp only); (repeat' split) <;> simp)
@[simp] theorem ownEnableWrite_dem (p : Port) (s : State) : ((ownEnableWrite p s).2).dem = s.dem := by unfold ownEnableWrite; first | with_reducible rfl | ((try dsimp only); (repeat' split) <;> simp)
@[simp] theorem ownEnableWrite_per (p : Port) (s : State) : ((ownEnableWrite p s).2).per = s.per := by unfold ownEnableWrite; first | with_reducible rfl | ((try dsimp only); (repeat' split) <;> simp)
@[simp] theorem ownEnableWrite_log (p : Port) (s : State) : ((ownEnableWrite p s).2).log = s.log := by unfold ownEnableWrite; first | with_reducible rfl | ((try dsimp only); (repeat' split) <;> simp)
@[simp] theorem ownEnableWrite_lim (p : Port) (s : State) : ((ownEnableWrite p s).2).lim = s.lim := by unfold ownEnableWrite; first | with_reducible rfl | ((try dsimp only); (repeat' split) <;> simp)
@[simp] theorem ownEnableWrite_sup (p : Port) (s : State) : ((ownEnableWrite p s).2).sup = s.sup := by unfold ownEnableWrite; first | with_reducible rfl | ((try dsimp only); (repeat' split) <;> simp)
@[simp] theorem ownEnableWrite_pins (p : Port) (s : State) : ((ownEnableWrite p s).2).pins = s.pins := by unfold ownEnableWrite; first | with_reducible rfl | ((try dsimp only); (repeat' split) <;> simp)
@[simp] theorem ownEnableWrite_pending (p : Port) (s : State) : ((ownEnableWrite p s).2).pending = s.pending := by unfold ownEnableWrite; first | with_reducible rfl | ((try dsimp only); (repeat' split) <;> simp)
@[simp] theorem ownEnableWrite_free (p : Port) (s : State) : ((ownEnableWrite p s).2).free = s.free := by unfold ownEnableWrite; first | with_reducible rfl | ((try dsimp only); (repeat' split) <;> simp)
/-! ### ownDisableWrite -/
@[simp] theorem ownDisableWrite_store (p : Port) (s : State) : ((ownDisableWrite p s).2).store = s.store := by unfold ownDisableWrite; first | with_reducible rfl | ((try dsimp only); (repeat' split) <;> simp)
@[simp] theorem ownDisableWrite_clock (p : Port) (s : State) : ((ownDisableWrite p s).2).clock = s.clock := by unfold ownDisableWrite; first | with_reducible rfl | ((try dsimp only); (repeat' split) <;> simp)
@[simp] theorem ownDisableWrite_sub (p : Port) (s : State) : ((ownDisableWrite p s).2).sub = s.sub := by unfold ownDisableWrite; first | with_reducible rfl | ((try dsimp only); (repeat' split) <;> simp)
@[simp] theorem ownDisableWrite_due (p : Port) (s : State) : ((ownDisableWrite p s).2).due = s.due := by unfold ownDisableWrite; first | with_reducible rfl | ((try dsimp only); (repeat' split) <;> simp)
@[simp] theorem ownDisableWrite_chans (p : Port) (s : State) : ((ownDisableWrite p s).2).chans = s.chans := by unfold ownDisableWrite; first | with_reducible rfl | ((try dsimp only); (repeat' split) <;> simp)
@[simp] theorem ownDisableWrite_tot (p : Port) (s : State) : ((ownDisableWrite p s).2).tot = s.tot := by unfold ownDisableWrite; first | with_reducible rfl | ((try dsimp only); (repeat' split) <;> simp)
@[simp] theorem ownDisableWrite_dem (p : Port) (s : State) : ((ownDisableWrite p s).2).dem = s.dem := by unfold ownDisableWrite; first | with_reducible rfl | ((try dsimp only); (repeat' split) <;> simp)
@[simp] theorem ownDisableWrite_per (p : Port) (s : State) : ((ownDisableWrite p s).2).per = s.per := by unfold ownDisableWrite; first | with_reducible rfl | ((try dsimp only); (repeat' split) <;> simp)
@[simp] theorem ownDisableWrite_log (p : Port) (s : State) : ((ownDisableWrite p s).2).log = s.log := by unfold ownDisableWrite; first | with_reducible rfl | ((try dsimp only); (repeat' split) <;> simp)
@[simp] theorem ownDisableWrite_lim (p : Port) (s : State) : ((ownDisableWrite p s).2).lim = s.lim := by unfold ownDisableWrite; first | with_reducible rfl | ((try dsimp only); (repeat' split) <;> simp)
@[simp] theorem ownDisableWrite_sup (p : Port) (s : State) : ((ownDisableWrite p s).2).sup = s.sup := by unfold ownDisableWrite; first | with_reducible rfl | ((try dsimp only); (repeat' split) <;> simp)
@[simp] theorem ownDisableWrite_pins (p : Port) (s : State) : ((ownDisableWrite p s).2).pins = s.pins := by unfold ownDisableWrite; first | with_reducible rfl | ((try dsimp only); (repeat' split) <;> simp)
@[simp] theorem ownDisableWrite_pending (p : Port) (s : State) : ((ownDisableWrite p s).2).pending = s.pending := by unfold ownDisableWrite; first | with_reducible rfl | ((try dsimp only); (repeat' split) <;> simp)
@[simp] theorem ownDisableWrite_free (p : Port) (s : State) : ((ownDisableWrite p s).2).free = s.free := by unfold ownDisableWrite; first | with_reducible rfl | ((try dsimp only); (repeat' split) <;> simp)
/-! ### ownAttentionEnable -/
@[simp] theorem ownAttentionEnable_store (p : Port) (s : State) : ((ownAttentionEnable p s).2).store = s.store := by unfold ownAttentionEnable; first | with_reducible rfl | ((try dsimp only); (repeat' split) <;> simp)
@[simp] theorem ownAttentionEnable_clock (p : Port) (s : State) : ((ownAttentionEnable p s).2).clock = s.clock := by unfold ownAttentionEnable; first | with_reducible rfl | ((try dsimp only); (repeat' split) <;> simp)
@[simp] theorem ownAttentionEnable_sub (p : Port) (s : State) : ((ownAttentionEnable p s).2).sub = s.sub := by unfold ownAttentionEnable; first | with_reducible rfl | ((try dsimp only); (repeat' split) <;> simp)
@[simp] theorem ownAttentionEnable_due (p : Port) (s : State) : ((ownAttentionEnable p s).2).due = s.due := by unfold ownAttentionEnable; first | with_reducible rfl | ((try dsimp only); (repeat' split) <;> simp)
@[simp] theorem ownAttentionEnable_chans (p : Port) (s : State) : ((ownAttentionEnable p s).2).chans = s.chans := by unfold ownAttentionEnable; first | with_reducible rfl | ((try dsimp only); (repeat' split) <;> simp)
@[simp] theorem ownAttentionEnable_tot (p : Port) (s : State) : ((ownAttentionEnable p s).2).tot = s.tot := by unfold ownAttentionEnable; first | with_reducible rfl | ((try dsimp only); (repeat' split) <;> simp)
@[simp] theorem ownAttentionEnable_dem (p : Port) (s : State) : ((ownAttentionEnable p s).2).dem = s.dem := by unfold ownAttentionEnable; first | with_reducible rfl | ((try dsimp only); (repeat' split) <;> simp)
@[simp] theorem ownAttentionEnable_per (p : Port) (s : State) : ((ownAttentionEnable p s).2).per = s.per := by unfold ownAttentionEnable; first | with_reducible rfl | ((try dsimp only); (repeat' split) <;> simp)
@[simp] theorem ownAttentionEnable_log (p : Port) (s : State) : ((ownAttentionEnable p s).2).log = s.log := by unfold ownAttentionEnable; first | with_reducible rfl | ((try dsimp only); (repeat' split) <;> simp)
@[simp] theorem ownAttentionEnable_lim (p : Port) (s : State) : ((ownAttentionEnable p s).2).lim = s.lim := by unfold ownAttentionEnable; first | with_reducible rfl | ((try dsimp only); (repeat' split) <;> simp)
@[simp] theorem ownAttentionEnable_sup (p : Port) (s : State) : ((ownAttentionEnable p s).2).sup = s.sup := by unfold ownAttentionEnable; first | with_reducible rfl | ((try dsimp only); (repeat' split) <;> simp)
@[simp] theorem ownAttentionEnable_pins (p : Port) (s : State) : ((ownAttentionEnable p s).2).pins = s.pins := by unfold ownAttentionEnable; first | with_reducible rfl | ((try dsimp only); (repeat' split) <;> simp)
@[simp] theorem ownAttentionEnable_pending (p : Port) (s : State) : ((ownAttentionEnable p s).2).pending = s.pending := by unfold ownAttentionEnable; first | with_reducible rfl | ((try dsimp only); (repeat' split) <;> simp)
@[simp] theorem ownAttentionEnable_free (p : Port) (s : State) : ((ownAttentionEnable p s).2).free = s.free := by unfold ownAttentionEnable; first | with_reducible rfl | ((try dsimp only); (repeat' split) <;> simp)
/-! ### ownSetEventMask -/
@[simp] theorem ownSetEventMask_store (p : Port) (mask : BitVec 16) (s : State) : ((ownSetEventMask p mask s).2).store = s.store := by unfold ownSetEventMask; first | with_reducible rfl | ((try dsimp only); (repeat' split) <;> simp)
@[simp] theorem ownSetEventMask_clock (p : Port) (mask : BitVec 16) (s : State) : ((ownSetEventMask p mask s).2).clock = s.clock := by unfold ownSetEventMask; first | with_reducible rfl | ((try dsimp only); (repeat' split) <;> simp)
@[simp] theorem ownSetEventMask_sub (p : Port) (mask : BitVec 16) (s : State) : ((ownSetEventMask p mask s).2).sub = s.sub := by unfold ownSetEventMask; first | with_reducible rfl | ((try dsimp only); (repeat' split) <;> simp)
@[simp] theorem ownSetEventMask_due (p : Port) (mask : BitVec 16) (s : State) : ((ownSetEventMask p mask s).2).due = s.due := by unfold ownSetEventMask; first | with_reducible rfl | ((try dsimp only); (repeat' split) <;> simp)
@[simp] theorem ownSetEventMask_chans (p : Port) (mask : BitVec 16) (s : State) : ((ownSetEventMask p mask s).2).chans = s.chans := by unfold ownSetEventMask; first | with_reducible rfl | ((try dsimp only); (repeat' split) <;> simp)
@[simp] theorem ownSetEventMask_tot (p : Port) (mask : BitVec 16) (s : State) : ((ownSetEventMask p mask s).2).tot = s.tot := by unfold ownSetEventMask; first | with_reducible rfl | ((try dsimp only); (repeat' split) <;> simp)
@[simp] theorem ownSetEventMask_dem (p : Port) (mask : BitVec 16) (s : State) : ((ownSetEventMask p mask s).2).dem = s.dem := by unfold ownSetEventMask; first | with_reducible rfl | ((try dsimp only); (repeat' split) <;> simp)
@[simp] theorem ownSetEventMask_per (p : Port) (mask : BitVec 16) (s : State) : ((ownSetEventMask p mask s).2).per = s.per := by unfold ownSetEventMask; first | with_reducible rfl | ((try dsimp only); (repeat' split) <;> simp)
@[simp] theorem ownSetEventMask_log (p : Port) (mask : BitVec 16) (s : State) : ((ownSetEventMask p mask s).2).log = s.log := by unfold ownSetEventMask; first | with_reducible rfl | ((try dsimp only); (repeat' split) <;> simp)
@[simp] theorem ownSetEventMask_lim (p : Port) (mask : BitVec 16) (s : State) : ((ownSetEventMask p mask s).2).lim = s.lim := by unfold ownSetEventMask; first | with_reducible rfl | ((try dsimp only); (repeat' split) <;> simp)
@[simp] theorem ownSetEventMask_sup (p : Port) (mask : BitVec 16) (s : State) : ((ownSetEventMask p mask s).2).sup = s.sup := by unfold ownSetEventMask; first | with_reducible rfl | ((try dsimp only); (repeat' split) <;> simp)
@[simp] theorem ownSetEventMask_pins (p : Port) (mask : BitVec 16) (s : State) : ((ownSetEventMask p mask s).2).pins = s.pins := by unfold ownSetEventMask; first | with_reducible rfl | ((try dsimp only); (repeat' split) <;> simp)
@[simp] theorem ownSetEventMask_pending (p : Port) (mask : BitVec 16) (s : State) : ((ownSetEventMask p mask s).2).pending = s.pending := by unfold ownSetEventMask; first | with_reducible rfl | ((try dsimp only); (repeat' split) <;> simp)
@[simp] theorem ownSetEventMask_free (p : Port) (mask : BitVec 16) (s : State) : ((ownSetEventMask p mask s).2).free = s.free := by unfold ownSetEventMask; first | with_reducible rfl | ((try dsimp only); (repeat' split) <;> simp)
/-! ### ownResetEnable -/
@[simp] theorem ownResetEnable_store (s : State) : ((ownResetEnable s).2).store = s.store := by unfold ownResetEnable; first | with_reducible rfl | ((try dsimp only); (repeat' split) <;> simp)
@[simp] theorem ownResetEnable_clock (s : State) : ((ownResetEnable s).2).clock = s.clock := by unfold ownResetEnable; first | with_reducible rfl | ((try dsimp only); (repeat' split) <;> simp)
@[simp] theorem ownResetEnable_sub (s : State) : ((ownResetEnable s).2).sub = s.sub := by unfold ownResetEnable; first | with_reducible rfl | ((try dsimp only); (repeat' split) <;> simp)
@[simp] theorem ownResetEnable_due (s : State) : ((ownResetEnable s).2).due = s.due := by unfold ownResetEnable; first | with_reducible rfl | ((try dsimp only); (repeat' split) <;> simp)
@[simp] theorem ownResetEnable_chans (s : State) : ((ownResetEnable s).2).chans = s.chans := by unfold ownResetEnable; first | with_reducible rfl | ((try dsimp only); (repeat' split) <;> simp)
@[simp] theorem ownResetEnable_tot (s : State) : ((ownResetEnable s).2).tot = s.tot := by unfold ownResetEnable; first | with_reducible rfl | ((try dsimp only); (repeat' split) <;> simp)
@[simp] theorem ownResetEnable_dem (s : State) : ((ownResetEnable s).2).dem = s.dem := by unfold ownResetEnable; first | with_reducible rfl | ((try dsimp only); (repeat' split) <;> simp)
@[simp] theorem ownResetEnable_per (s : State) : ((ownResetEnable s).2).per = s.per := by unfold ownResetEnable; first | with_reducible rfl | ((try dsimp only); (repeat' split) <;> simp)
@[simp] theorem ownResetEnable_log (s : State) : ((ownResetEnable s).2).log = s.log := by unfold ownResetEnable; first | with_reducible rfl | ((try dsimp only); (repeat' split) <;> simp)
@[simp] theorem ownResetEnable_lim (s : State) : ((ownResetEnable s).2).lim = s.lim := by unfold ownResetEnable; first | with_reducible rfl | ((try dsimp only); (repeat' split) <;> simp)
@[simp] theorem ownResetEnable_util (s : State) : ((ownResetEnable s).2).util = s.util := by unfold ownResetEnable; first | with_reducible rfl | ((try dsimp only); (repeat' split) <;> simp)
@[simp] theorem ownResetEnable_cust (s : State) : ((ownResetEnable s).2).cust = s.cust := by unfold ownResetEnable; first | with_reducible rfl | ((try dsimp only); (repeat' split) <;> simp)
@[simp] theorem ownResetEnable_sup (s : State) : ((ownResetEnable s).2).sup = s.sup := by unfold ownResetEnable; first | with_reducible rfl | ((try dsimp only); (repeat' split) <;> simp)
@[simp] theorem ownResetEnable_pins (s : State) : ((ownResetEnable s).2).pins = s.pins := by unfold ownResetEnable; first | with_reducible rfl | ((try dsimp only); (repeat' split) <;> simp)
@[simp] theorem ownResetEnable_pending (s : State) : ((ownResetEnable s).2).pending = s.pending := by unfold ownResetEnable; first | with_reducible rfl | ((try dsimp only); (repeat' split) <;> simp)
@[simp] theorem ownResetEnable_free (s : State) : ((ownResetEnable s).2).free = s.free := by unfold ownResetEnable; first | with_reducible rfl | ((try dsimp only); (repeat' split) <;> simp)
/-! ### ownBillingClose -/
@[simp] theorem ownBillingClose_store (s : State) : ((ownBillingClose s).2).store = s.store := by unfold ownBillingClose; first | with_reducible rfl | ((try dsimp only); (repeat' split) <;> simp)
@[simp] theorem ownBillingClose_clock (s : State) : ((ownBillingClose s).2).clock = s.clock := by unfold ownBillingClose; first | with_reducible rfl | ((try dsimp only); (repeat' split) <;> simp)
@[simp] theorem ownBillingClose_sub (s : State) : ((ownBillingClose s).2).sub = s.sub := by unfold ownBillingClose; first | with_reducible rfl | ((try dsimp only); (repeat' split) <;> simp)
@[simp] theorem ownBillingClose_due (s : State) : ((ownBillingClose s).2).due = s.due := by unfold ownBillingClose; first | with_reducible rfl | ((try dsimp only); (repeat' split) <;> simp)
@[simp] theorem ownBillingClose_chans (s : State) : ((ownBillingClose s).2).chans = s.chans := by unfold ownBillingClose; first | with_reducible rfl | ((try dsimp only); (repeat' split) <;> simp)
@[simp] theorem ownBillingClose_lim (s : State) : ((ownBillingClose s).2).lim = s.lim := by unfold ownBillingClose; first | with_reducible rfl | ((try dsimp only); (repeat' split) <;> simp)
@[simp] theorem ownBillingClose_sup (s : State) : ((ownBillingClose s).2).sup = s.sup := by unfold ownBillingClose; first | with_reducible rfl | ((try dsimp only); (repeat' split) <;> simp)
@[simp] theorem ownBillingClose_pins (s : State) : ((ownBillingClose s).2).pins = s.pins := by unfold ownBillingClose; first | with_reducible rfl | ((try dsimp only); (repeat' split) <;> simp)
@[simp] theorem ownBillingClose_pending (s : State) : ((ownBillingClose s).2).pending = s.pending := by unfold ownBillingClose; first | with_reducible rfl | ((try dsimp only); (repeat' split) <;> simp)
@[simp] theorem ownBillingClose_free (s : State) : ((ownBillingClose s).2).free = s.free := by unfold ownBillingClose; first | with_reducible rfl | ((try dsimp only); (repeat' split) <;> simp)
@[simp] theorem ownBillingClose_tot_lastSeq (s : State) : ((ownBillingClose s).2).tot.lastSeq = s.tot.lastSeq := by unfold ownBillingClose; first | with_reducible rfl | ((try dsimp only); (repeat' split) <;> simp)
@[simp] theorem ownBillingClose_tot_acc (s : State) : ((ownBillingClose s).2).tot.acc = s.tot.acc := by unfold ownBillingClose; first | with_reducible rfl | ((try dsimp only); (repeat' split) <;> simp)
@[simp] theorem ownBillingClose_dem_ring (s : State) : ((ownBillingClose s).2).dem.ring = s.dem.ring := by unfold ownBillingClose; first | with_reducible rfl | ((try dsimp only); (repeat' split) <;> simp)
@[simp] theorem ownBillingClose_dem_window (s : State) : ((ownBillingClose s).2).dem.window = s.dem.window := by unfold ownBillingClose; first | with_reducible rfl | ((try dsimp only); (repeat' split) <;> simp)
@[simp] theorem ownBillingClose_dem_pickup (s : State) : ((ownBillingClose s).2).dem.pickup = s.dem.pickup := by unfold ownBillingClose; first | with_reducible rfl | ((try dsimp only); (repeat' split) <;> simp)
@[simp] theorem ownBillingClose_per_history (s : State) : ((ownBillingClose s).2).per.history = s.per.history := by unfold ownBillingClose; first | with_reducible rfl | ((try dsimp only); (repeat' split) <;> simp)
@[simp] theorem ownBillingClose_log_clearBusy (s : State) : ((ownBillingClose s).2).log.clearBusy = s.log.clearBusy := by unfold ownBillingClose; first | with_reducible rfl | ((try dsimp only); (repeat' split) <;> simp)
/-! ### moveInstant -/
@[simp] theorem moveInstant_store (new : Instant) (s : State) : (moveInstant new s).store = s.store := by unfold moveInstant; first | with_reducible rfl | ((try dsimp only); (repeat' split) <;> simp)
@[simp] theorem moveInstant_due (new : Instant) (s : State) : (moveInstant new s).due = s.due := by unfold moveInstant; first | with_reducible rfl | ((try dsimp only); (repeat' split) <;> simp)
@[simp] theorem moveInstant_chans (new : Instant) (s : State) : (moveInstant new s).chans = s.chans := by unfold moveInstant; first | with_reducible rfl | ((try dsimp only); (repeat' split) <;> simp)
@[simp] theorem moveInstant_tot (new : Instant) (s : State) : (moveInstant new s).tot = s.tot := by unfold moveInstant; first | with_reducible rfl | ((try dsimp only); (repeat' split) <;> simp)
@[simp] theorem moveInstant_dem (new : Instant) (s : State) : (moveInstant new s).dem = s.dem := by unfold moveInstant; first | with_reducible rfl | ((try dsimp only); (repeat' split) <;> simp)
@[simp] theorem moveInstant_per (new : Instant) (s : State) : (moveInstant new s).per = s.per := by unfold moveInstant; first | with_reducible rfl | ((try dsimp only); (repeat' split) <;> simp)
@[simp] theorem moveInstant_log (new : Instant) (s : State) : (moveInstant new s).log = s.log := by unfold moveInstant; first | with_reducible rfl | ((try dsimp only); (repeat' split) <;> simp)
@[simp] theorem moveInstant_lim (new : Instant) (s : State) : (moveInstant new s).lim = s.lim := by unfold moveInstant; first | with_reducible rfl | ((try dsimp only); (repeat' split) <;> simp)
@[simp] theorem moveInstant_sup (new : Instant) (s : State) : (moveInstant new s).sup = s.sup := by unfold moveInstant; first | with_reducible rfl | ((try dsimp only); (repeat' split) <;> simp)
@[simp] theorem moveInstant_pins (new : Instant) (s : State) : (moveInstant new s).pins = s.pins := by unfold moveInstant; first | with_reducible rfl | ((try dsimp only); (repeat' split) <;> simp)
@[simp] theorem moveInstant_pending (new : Instant) (s : State) : (moveInstant new s).pending = s.pending := by unfold moveInstant; first | with_reducible rfl | ((try dsimp only); (repeat' split) <;> simp)
@[simp] theorem moveInstant_free (new : Instant) (s : State) : (moveInstant new s).free = s.free := by unfold moveInstant; first | with_reducible rfl | ((try dsimp only); (repeat' split) <;> simp)
@[simp] theorem moveInstant_clock_timeValid (new : Instant) (s : State) : (moveInstant new s).clock.timeValid = s.clock.timeValid := by unfold moveInstant; first | with_reducible rfl | ((try dsimp only); (repeat' split) <;> simp)
@[simp] theorem moveInstant_sub_start (new : Instant) (s : State) : (moveInstant new s).sub.start = s.sub.start := by unfold moveInstant; first | with_reducible rfl | ((try dsimp only); (repeat' split) <;> simp)
@[simp] theorem moveInstant_sub_nominalEnd (new : Instant) (s : State) : (moveInstant new s).sub.nominalEnd = s.sub.nominalEnd := by unfold moveInstant; first | with_reducible rfl | ((try dsimp only); (repeat' split) <;> simp)
@[simp] theorem moveInstant_sub_elapsed (new : Instant) (s : State) : (moveInstant new s).sub.elapsed = s.sub.elapsed := by unfold moveInstant; first | with_reducible rfl | ((try dsimp only); (repeat' split) <;> simp)
@[simp] theorem moveInstant_sub_rate (new : Instant) (s : State) : (moveInstant new s).sub.rate = s.sub.rate := by unfold moveInstant; first | with_reducible rfl | ((try dsimp only); (repeat' split) <;> simp)
/-! ### adjustSubForward -/
@[simp] theorem adjustSubForward_due (v : Nat) (reached : Bool) (s : State) : (adjustSubForward v reached s).due = s.due := by unfold adjustSubForward; split; (· split <;> simp); (· exact State.setSub_due _ _)
@[simp] theorem adjustSubForward_per (v : Nat) (reached : Bool) (s : State) : (adjustSubForward v reached s).per = s.per := by unfold adjustSubForward; split; (· split <;> simp); (· exact State.setSub_per _ _)
@[simp] theorem adjustSubForward_sup (v : Nat) (reached : Bool) (s : State) : (adjustSubForward v reached s).sup = s.sup := by unfold adjustSubForward; split; (· split <;> simp); (· exact State.setSub_sup _ _)
@[simp] theorem adjustSubForward_pins (v : Nat) (reached : Bool) (s : State) : (adjustSubForward v reached s).pins = s.pins := by unfold adjustSubForward; split; (· split <;> simp); (· exact State.setSub_pins _ _)
@[simp] theorem adjustSubForward_pending (v : Nat) (reached : Bool) (s : State) : (adjustSubForward v reached s).pending = s.pending := by unfold adjustSubForward; split; (· split <;> simp); (· exact State.setSub_pending _ _)
@[simp] theorem adjustSubForward_free (v : Nat) (reached : Bool) (s : State) : (adjustSubForward v reached s).free = s.free := by unfold adjustSubForward; split; (· split <;> simp); (· exact State.setSub_free _ _)
@[simp] theorem adjustSubForward_store_config (v : Nat) (reached : Bool) (s : State) : (adjustSubForward v reached s).store.config = s.store.config := by unfold adjustSubForward; split; (· split <;> simp); (· exact congrArg (·.config) (State.setSub_store _ _))
@[simp] theorem adjustSubForward_store_writing (v : Nat) (reached : Bool) (s : State) : (adjustSubForward v reached s).store.writing = s.store.writing := by unfold adjustSubForward; split; (· split <;> simp); (· exact congrArg (·.writing) (State.setSub_store _ _))
@[simp] theorem adjustSubForward_store_closeDates (v : Nat) (reached : Bool) (s : State) : (adjustSubForward v reached s).store.closeDates = s.store.closeDates := by unfold adjustSubForward; split; (· split <;> simp); (· exact congrArg (·.closeDates) (State.setSub_store _ _))
@[simp] theorem adjustSubForward_clock_now (v : Nat) (reached : Bool) (s : State) : (adjustSubForward v reached s).clock.now = s.clock.now := by unfold adjustSubForward; split; (· split <;> simp); (· exact congrArg (·.now) (State.setSub_clock _ _))
@[simp] theorem adjustSubForward_clock_timeValid (v : Nat) (reached : Bool) (s : State) : (adjustSubForward v reached s).clock.timeValid = s.clock.timeValid := by unfold adjustSubForward; split; (· split <;> simp); (· exact congrArg (·.timeValid) (State.setSub_clock _ _))
@[simp] theorem adjustSubForward_log_clearBusy (v : Nat) (reached : Bool) (s : State) : (adjustSubForward v reached s).log.clearBusy = s.log.clearBusy := by unfold adjustSubForward; split; (· split <;> simp); (· exact congrArg (·.clearBusy) (State.setSub_log _ _))
/-! ### adjustDates -/
@[simp] theorem adjustDates_store (takeNow : Bool) (old : Instant) (s : State) : (adjustDates takeNow old s).store = s.store := by unfold adjustDates; first | with_reducible rfl | ((try dsimp only); (repeat' split) <;> simp)
@[simp] theorem adjustDates_sub (takeNow : Bool) (old : Instant) (s : State) : (adjustDates takeNow old s).sub = s.sub := by unfold adjustDates; first | with_reducible rfl | ((try dsimp only); (repeat' split) <;> simp)
@[simp] theorem adjustDates_chans (takeNow : Bool) (old : Instant) (s : State) : (adjustDates takeNow old s).chans = s.chans := by unfold adjustDates; first | with_reducible rfl | ((try dsimp only); (repeat' split) <;> simp)
@[simp] theorem adjustDates_lim (takeNow : Bool) (old : Instant) (s : State) : (adjustDates takeNow old s).lim = s.lim := by unfold adjustDates; first | with_reducible rfl | ((try dsimp only); (repeat' split) <;> simp)
@[simp] theorem adjustDates_sup (takeNow : Bool) (old : Instant) (s : State) : (adjustDates takeNow old s).sup = s.sup := by unfold adjustDates; first | with_reducible rfl | ((try dsimp only); (repeat' split) <;> simp)
@[simp] theorem adjustDates_pins (takeNow : Bool) (old : Instant) (s : State) : (adjustDates takeNow old s).pins = s.pins := by unfold adjustDates; first | with_reducible rfl | ((try dsimp only); (repeat' split) <;> simp)
@[simp] theorem adjustDates_pending (takeNow : Bool) (old : Instant) (s : State) : (adjustDates takeNow old s).pending = s.pending := by unfold adjustDates; first | with_reducible rfl | ((try dsimp only); (repeat' split) <;> simp)
@[simp] theorem adjustDates_free (takeNow : Bool) (old : Instant) (s : State) : (adjustDates takeNow old s).free = s.free := by unfold adjustDates; first | with_reducible rfl | ((try dsimp only); (repeat' split) <;> simp)
@[simp] theorem adjustDates_clock_now (takeNow : Bool) (old : Instant) (s : State) : (adjustDates takeNow old s).clock.now = s.clock.now := by unfold adjustDates; first | with_reducible rfl | ((try dsimp only); (repeat' split) <;> simp)
@[simp] theorem adjustDates_clock_timeValid (takeNow : Bool) (old : Instant) (s : State) : (adjustDates takeNow old s).clock.timeValid = s.clock.timeValid := by unfold adjustDates; first | with_reducible rfl | ((try dsimp only); (repeat' split) <;> simp)
@[simp] theorem adjustDates_tot_lastSeq (takeNow : Bool) (old : Instant) (s : State) : (adjustDates takeNow old s).tot.lastSeq = s.tot.lastSeq := by unfold adjustDates; first | with_reducible rfl | ((try dsimp only); (repeat' split) <;> simp)
@[simp] theorem adjustDates_tot_acc (takeNow : Bool) (old : Instant) (s : State) : (adjustDates takeNow old s).tot.acc = s.tot.acc := by unfold adjustDates; first | with_reducible rfl | ((try dsimp only); (repeat' split) <;> simp)
@[simp] theorem adjustDates_dem_ring (takeNow : Bool) (old : Instant) (s : State) : (adjustDates takeNow old s).dem.ring = s.dem.ring := by unfold adjustDates; first | with_reducible rfl | ((try dsimp only); (repeat' split) <;> simp)
@[simp] theorem adjustDates_dem_window (takeNow : Bool) (old : Instant) (s : State) : (adjustDates takeNow old s).dem.window = s.dem.window := by unfold adjustDates; first | with_reducible rfl | ((try dsimp only); (repeat' split) <;> simp)
@[simp] theorem adjustDates_dem_pickup (takeNow : Bool) (old : Instant) (s : State) : (adjustDates takeNow old s).dem.pickup = s.dem.pickup := by unfold adjustDates; first | with_reducible rfl | ((try dsimp only); (repeat' split) <;> simp)
@[simp] theorem adjustDates_per_history (takeNow : Bool) (old : Instant) (s : State) : (adjustDates takeNow old s).per.history = s.per.history := by unfold adjustDates; first | with_reducible rfl | ((try dsimp only); (repeat' split) <;> simp)
@[simp] theorem adjustDates_log_clearBusy (takeNow : Bool) (old : Instant) (s : State) : (adjustDates takeNow old s).log.clearBusy = s.log.clearBusy := by unfold adjustDates; first | with_reducible rfl | ((try dsimp only); (repeat' split) <;> simp)
/-! ### adjustForward -/
@[simp] theorem adjustForward_sup (v : Nat) (freezeFirst : Bool) (s : State) : (adjustForward v freezeFirst s).sup = s.sup := by unfold adjustForward; first | with_reducible rfl | ((try dsimp only); (repeat' split) <;> simp)
@[simp] theorem adjustForward_pins (v : Nat) (freezeFirst : Bool) (s : State) : (adjustForward v freezeFirst s).pins = s.pins := by unfold adjustForward; first | with_reducible rfl | ((try dsimp only); (repeat' split) <;> simp)
@[simp] theorem adjustForward_pending (v : Nat) (freezeFirst : Bool) (s : State) : (adjustForward v freezeFirst s).pending = s.pending := by unfold adjustForward; first | with_reducible rfl | ((try dsimp only); (repeat' split) <;> simp)
@[simp] theorem adjustForward_free (v : Nat) (freezeFirst : Bool) (s : State) : (adjustForward v freezeFirst s).free = s.free := by unfold adjustForward; first | with_reducible rfl | ((try dsimp only); (repeat' split) <;> simp)
@[simp] theorem adjustForward_store_config (v : Nat) (freezeFirst : Bool) (s : State) : (adjustForward v freezeFirst s).store.config = s.store.config := by unfold adjustForward; first | with_reducible rfl | ((try dsimp only); (repeat' split) <;> simp)
@[simp] theorem adjustForward_store_writing (v : Nat) (freezeFirst : Bool) (s : State) : (adjustForward v freezeFirst s).store.writing = s.store.writing := by unfold adjustForward; first | with_reducible rfl | ((try dsimp only); (repeat' split) <;> simp)
@[simp] theorem adjustForward_store_closeDates (v : Nat) (freezeFirst : Bool) (s : State) : (adjustForward v freezeFirst s).store.closeDates = s.store.closeDates := by unfold adjustForward; first | with_reducible rfl | ((try dsimp only); (repeat' split) <;> simp)
@[simp] theorem adjustForward_clock_timeValid (v : Nat) (freezeFirst : Bool) (s : State) : (adjustForward v freezeFirst s).clock.timeValid = s.clock.timeValid := by unfold adjustForward; first | with_reducible rfl | ((try dsimp only); (repeat' split) <;> simp)
@[simp] theorem adjustForward_log_clearBusy (v : Nat) (freezeFirst : Bool) (s : State) : (adjustForward v freezeFirst s).log.clearBusy = s.log.clearBusy := by unfold adjustForward; first | with_reducible rfl | ((try dsimp only); (repeat' split) <;> simp)
/-! ### moveEndBack -/
@[simp] theorem moveEndBack_store (v : Nat) (s : State) : (moveEndBack v s).store = s.store := by unfold moveEndBack; exact State.setSub_store _ _
@[simp] theorem moveEndBack_clock (v : Nat) (s : State) : (moveEndBack v s).clock = s.clock := by unfold moveEndBack; exact State.setSub_clock _ _
@[simp] theorem moveEndBack_due (v : Nat) (s : State) : (moveEndBack v s).due = s.due := by unfold moveEndBack; exact State.setSub_due _ _
@[simp] theorem moveEndBack_chans (v : Nat) (s : State) : (moveEndBack v s).chans = s.chans := by unfold moveEndBack; exact State.setSub_chans _ _
@[simp] theorem moveEndBack_tot (v : Nat) (s : State) : (moveEndBack v s).tot = s.tot := by unfold moveEndBack; exact State.setSub_tot _ _
@[simp] theorem moveEndBack_dem (v : Nat) (s : State) : (moveEndBack v s).dem = s.dem := by unfold moveEndBack; exact State.setSub_dem _ _
@[simp] theorem moveEndBack_per (v : Nat) (s : State) : (moveEndBack v s).per = s.per := by unfold moveEndBack; exact State.setSub_per _ _
@[simp] theorem moveEndBack_log (v : Nat) (s : State) : (moveEndBack v s).log = s.log := by unfold moveEndBack; exact State.setSub_log _ _
@[simp] theorem moveEndBack_lim (v : Nat) (s : State) : (moveEndBack v s).lim = s.lim := by unfold moveEndBack; exact State.setSub_lim _ _
@[simp] theorem moveEndBack_util (v : Nat) (s : State) : (moveEndBack v s).util = s.util := by unfold moveEndBack; exact State.setSub_util _ _
@[simp] theorem moveEndBack_cust (v : Nat) (s : State) : (moveEndBack v s).cust = s.cust := by unfold moveEndBack; exact State.setSub_cust _ _
@[simp] theorem moveEndBack_sup (v : Nat) (s : State) : (moveEndBack v s).sup = s.sup := by unfold moveEndBack; exact State.setSub_sup _ _
@[simp] theorem moveEndBack_pins (v : Nat) (s : State) : (moveEndBack v s).pins = s.pins := by unfold moveEndBack; exact State.setSub_pins _ _
@[simp] theorem moveEndBack_pending (v : Nat) (s : State) : (moveEndBack v s).pending = s.pending := by unfold moveEndBack; exact State.setSub_pending _ _
@[simp] theorem moveEndBack_free (v : Nat) (s : State) : (moveEndBack v s).free = s.free := by unfold moveEndBack; exact State.setSub_free _ _
@[simp] theorem moveEndBack_sub_start (v : Nat) (s : State) : (moveEndBack v s).sub.start = s.sub.start := by unfold moveEndBack; first | with_reducible rfl | ((try dsimp only); (repeat' split) <;> simp)
@[simp] theorem moveEndBack_sub_elapsed (v : Nat) (s : State) : (moveEndBack v s).sub.elapsed = s.sub.elapsed := by unfold moveEndBack; first | with_reducible rfl | ((try dsimp only); (repeat' split) <;> simp)
@[simp] theorem moveEndBack_sub_rate (v : Nat) (s : State) : (moveEndBack v s).sub.rate = s.sub.rate := by unfold moveEndBack; first | with_reducible rfl | ((try dsimp only); (repeat' split) <;> simp)
/-! ### adjustBack -/
@[simp] theorem adjustBack_store (v : Nat) (s : State) : (adjustBack v s).store = s.store := by unfold adjustBack; first | with_reducible rfl | ((try dsimp only); (repeat' split) <;> simp)
@[simp] theorem adjustBack_due (v : Nat) (s : State) : (adjustBack v s).due = s.due := by unfold adjustBack; first | with_reducible rfl | ((try dsimp only); (repeat' split) <;> simp)
@[simp] theorem adjustBack_chans (v : Nat) (s : State) : (adjustBack v s).chans = s.chans := by unfold adjustBack; first | with_reducible rfl | ((try dsimp only); (repeat' split) <;> simp)
@[simp] theorem adjustBack_tot (v : Nat) (s : State) : (adjustBack v s).tot = s.tot := by unfold adjustBack; first | with_reducible rfl | ((try dsimp only); (repeat' split) <;> simp)
@[simp] theorem adjustBack_dem (v : Nat) (s : State) : (adjustBack v s).dem = s.dem := by unfold adjustBack; first | with_reducible rfl | ((try dsimp only); (repeat' split) <;> simp)
@[simp] theorem adjustBack_per (v : Nat) (s : State) : (adjustBack v s).per = s.per := by unfold adjustBack; first | with_reducible rfl | ((try dsimp only); (repeat' split) <;> simp)
@[simp] theorem adjustBack_log (v : Nat) (s : State) : (adjustBack v s).log = s.log := by unfold adjustBack; first | with_reducible rfl | ((try dsimp only); (repeat' split) <;> simp)
@[simp] theorem adjustBack_lim (v : Nat) (s : State) : (adjustBack v s).lim = s.lim := by unfold adjustBack; first | with_reducible rfl | ((try dsimp only); (repeat' split) <;> simp)
@[simp] theorem adjustBack_sup (v : Nat) (s : State) : (adjustBack v s).sup = s.sup := by unfold adjustBack; first | with_reducible rfl | ((try dsimp only); (repeat' split) <;> simp)
@[simp] theorem adjustBack_pins (v : Nat) (s : State) : (adjustBack v s).pins = s.pins := by unfold adjustBack; first | with_reducible rfl | ((try dsimp only); (repeat' split) <;> simp)
@[simp] theorem adjustBack_pending (v : Nat) (s : State) : (adjustBack v s).pending = s.pending := by unfold adjustBack; first | with_reducible rfl | ((try dsimp only); (repeat' split) <;> simp)
@[simp] theorem adjustBack_free (v : Nat) (s : State) : (adjustBack v s).free = s.free := by unfold adjustBack; first | with_reducible rfl | ((try dsimp only); (repeat' split) <;> simp)
@[simp] theorem adjustBack_clock_timeValid (v : Nat) (s : State) : (adjustBack v s).clock.timeValid = s.clock.timeValid := by unfold adjustBack; first | with_reducible rfl | ((try dsimp only); (repeat' split) <;> simp)
@[simp] theorem adjustBack_sub_start (v : Nat) (s : State) : (adjustBack v s).sub.start = s.sub.start := by unfold adjustBack; first | with_reducible rfl | ((try dsimp only); (repeat' split) <;> simp)
@[simp] theorem adjustBack_sub_elapsed (v : Nat) (s : State) : (adjustBack v s).sub.elapsed = s.sub.elapsed := by unfold adjustBack; first | with_reducible rfl | ((try dsimp only); (repeat' split) <;> simp)
@[simp] theorem adjustBack_sub_rate (v : Nat) (s : State) : (adjustBack v s).sub.rate = s.sub.rate := by unfold adjustBack; first | with_reducible rfl | ((try dsimp only); (repeat' split) <;> simp)
/-! ### ownAdjustTime -/
@[simp] theorem ownAdjustTime_sup (seconds : BitVec 16) (freezeFirst : Bool) (s : State) : ((ownAdjustTime seconds freezeFirst s).2).sup = s.sup := by unfold ownAdjustTime; first | with_reducible rfl | ((try dsimp only); (repeat' split) <;> simp)
@[simp] theorem ownAdjustTime_pins (seconds : BitVec 16) (freezeFirst : Bool) (s : State) : ((ownAdjustTime seconds freezeFirst s).2).pins = s.pins := by unfold ownAdjustTime; first | with_reducible rfl | ((try dsimp only); (repeat' split) <;> simp)
@[simp] theorem ownAdjustTime_pending (seconds : BitVec 16) (freezeFirst : Bool) (s : State) : ((ownAdjustTime seconds freezeFirst s).2).pending = s.pending := by unfold ownAdjustTime; first | with_reducible rfl | ((try dsimp only); (repeat' split) <;> simp)
@[simp] theorem ownAdjustTime_free (seconds : BitVec 16) (freezeFirst : Bool) (s : State) : ((ownAdjustTime seconds freezeFirst s).2).free = s.free := by unfold ownAdjustTime; first | with_reducible rfl | ((try dsimp only); (repeat' split) <;> simp)
@[simp] theorem ownAdjustTime_store_config (seconds : BitVec 16) (freezeFirst : Bool) (s : State) : ((ownAdjustTime seconds freezeFirst s).2).store.config = s.store.config := by unfold ownAdjustTime; first | with_reducible rfl | ((try dsimp only); (repeat' split) <;> simp)
@[simp] theorem ownAdjustTime_store_writing (seconds : BitVec 16) (freezeFirst : Bool) (s : State) : ((ownAdjustTime seconds freezeFirst s).2).store.writing = s.store.writing := by unfold ownAdjustTime; first | with_reducible rfl | ((try dsimp only); (repeat' split) <;> simp)
@[simp] theorem ownAdjustTime_store_closeDates (seconds : BitVec 16) (freezeFirst : Bool) (s : State) : ((ownAdjustTime seconds freezeFirst s).2).store.closeDates = s.store.closeDates := by unfold ownAdjustTime; first | with_reducible rfl | ((try dsimp only); (repeat' split) <;> simp)
@[simp] theorem ownAdjustTime_clock_timeValid (seconds : BitVec 16) (freezeFirst : Bool) (s : State) : ((ownAdjustTime seconds freezeFirst s).2).clock.timeValid = s.clock.timeValid := by unfold ownAdjustTime; first | with_reducible rfl | ((try dsimp only); (repeat' split) <;> simp)
@[simp] theorem ownAdjustTime_log_clearBusy (seconds : BitVec 16) (freezeFirst : Bool) (s : State) : ((ownAdjustTime seconds freezeFirst s).2).log.clearBusy = s.log.clearBusy := by unfold ownAdjustTime; first | with_reducible rfl | ((try dsimp only); (repeat' split) <;> simp)
/-! ### pendingWrite -/
@[simp] theorem pendingWrite_store (own : State → Judged) (s : State) (h : (own s).2.store = s.store) : ((pendingWrite own s).2).store = s.store := by unfold pendingWrite; simp [h]
@[simp] theorem pendingWrite_clock (own : State → Judged) (s : State) (h : (own s).2.clock = s.clock) : ((pendingWrite own s).2).clock = s.clock := by unfold pendingWrite; simp [h]
@[simp] theorem pendingWrite_sub (own : State → Judged) (s : State) (h : (own s).2.sub = s.sub) : ((pendingWrite own s).2).sub = s.sub := by unfold pendingWrite; simp [h]
@[simp] theorem pendingWrite_due (own : State → Judged) (s : State) (h : (own s).2.due = s.due) : ((pendingWrite own s).2).due = s.due := by unfold pendingWrite; simp [h]
@[simp] theorem pendingWrite_chans (own : State → Judged) (s : State) (h : (own s).2.chans = s.chans) : ((pendingWrite own s).2).chans = s.chans := by unfold pendingWrite; simp [h]
@[simp] theorem pendingWrite_tot (own : State → Judged) (s : State) (h : (own s).2.tot = s.tot) : ((pendingWrite own s).2).tot = s.tot := by unfold pendingWrite; simp [h]
@[simp] theorem pendingWrite_dem (own : State → Judged) (s : State) (h : (own s).2.dem = s.dem) : ((pendingWrite own s).2).dem = s.dem := by unfold pendingWrite; simp [h]
@[simp] theorem pendingWrite_per (own : State → Judged) (s : State) (h : (own s).2.per = s.per) : ((pendingWrite own s).2).per = s.per := by unfold pendingWrite; simp [h]
@[simp] theorem pendingWrite_log (own : State → Judged) (s : State) (h : (own s).2.log = s.log) : ((pendingWrite own s).2).log = s.log := by unfold pendingWrite; simp [h]
@[simp] theorem pendingWrite_lim (own : State → Judged) (s : State) (h : (own s).2.lim = s.lim) : ((pendingWrite own s).2).lim = s.lim := by unfold pendingWrite; simp [h]
@[simp] theorem pendingWrite_util (own : State → Judged) (s : State) (h : (own s).2.util = s.util) : ((pendingWrite own s).2).util = s.util := by unfold pendingWrite; simp [h]
@[simp] theorem pendingWrite_cust (own : State → Judged) (s : State) (h : (own s).2.cust = s.cust) : ((pendingWrite own s).2).cust = s.cust := by unfold pendingWrite; simp [h]
@[simp] theorem pendingWrite_sup (own : State → Judged) (s : State) (h : (own s).2.sup = s.sup) : ((pendingWrite own s).2).sup = s.sup := by unfold pendingWrite; simp [h]
@[simp] theorem pendingWrite_pins (own : State → Judged) (s : State) (h : (own s).2.pins = s.pins) : ((pendingWrite own s).2).pins = s.pins := by unfold pendingWrite; simp [h]
@[simp] theorem pendingWrite_pending (own : State → Judged) (s : State) (h : (own s).2.pending = s.pending) : ((pendingWrite own s).2).pending = s.pending := by unfold pendingWrite; simp [h]
@[simp] theorem pendingWrite_free (own : State → Judged) (s : State) (h : (own s).2.free = s.free) : ((pendingWrite own s).2).free = s.free := by unfold pendingWrite; simp [h]
/-! ### ownWriteSwitchQuad -/
@[simp] theorem ownWriteSwitchQuad_clock (p : Port) (dayType start : Byte) (entries : Four SwitchArg) (s : State) : ((ownWriteSwitchQuad p dayType start entries s).2).clock = s.clock := by unfold ownWriteSwitchQuad; first | with_reducible rfl | ((try dsimp only); (repeat' split) <;> simp)
@[simp] theorem ownWriteSwitchQuad_sub (p : Port) (dayType start : Byte) (entries : Four SwitchArg) (s : State) : ((ownWriteSwitchQuad p dayType start entries s).2).sub = s.sub := by unfold ownWriteSwitchQuad; first | with_reducible rfl | ((try dsimp only); (repeat' split) <;> simp)
@[simp] theorem ownWriteSwitchQuad_due (p : Port) (dayType start : Byte) (entries : Four SwitchArg) (s : State) : ((ownWriteSwitchQuad p dayType start entries s).2).due = s.due := by unfold ownWriteSwitchQuad; first | with_reducible rfl | ((try dsimp only); (repeat' split) <;> simp)
@[simp] theorem ownWriteSwitchQuad_chans (p : Port) (dayType start : Byte) (entries : Four SwitchArg) (s : State) : ((ownWriteSwitchQuad p dayType start entries s).2).chans = s.chans := by unfold ownWriteSwitchQuad; first | with_reducible rfl | ((try dsimp only); (repeat' split) <;> simp)
@[simp] theorem ownWriteSwitchQuad_tot (p : Port) (dayType start : Byte) (entries : Four SwitchArg) (s : State) : ((ownWriteSwitchQuad p dayType start entries s).2).tot = s.tot := by unfold ownWriteSwitchQuad; first | with_reducible rfl | ((try dsimp only); (repeat' split) <;> simp)
@[simp] theorem ownWriteSwitchQuad_dem (p : Port) (dayType start : Byte) (entries : Four SwitchArg) (s : State) : ((ownWriteSwitchQuad p dayType start entries s).2).dem = s.dem := by unfold ownWriteSwitchQuad; first | with_reducible rfl | ((try dsimp only); (repeat' split) <;> simp)
@[simp] theorem ownWriteSwitchQuad_per (p : Port) (dayType start : Byte) (entries : Four SwitchArg) (s : State) : ((ownWriteSwitchQuad p dayType start entries s).2).per = s.per := by unfold ownWriteSwitchQuad; first | with_reducible rfl | ((try dsimp only); (repeat' split) <;> simp)
@[simp] theorem ownWriteSwitchQuad_log (p : Port) (dayType start : Byte) (entries : Four SwitchArg) (s : State) : ((ownWriteSwitchQuad p dayType start entries s).2).log = s.log := by unfold ownWriteSwitchQuad; first | with_reducible rfl | ((try dsimp only); (repeat' split) <;> simp)
@[simp] theorem ownWriteSwitchQuad_lim (p : Port) (dayType start : Byte) (entries : Four SwitchArg) (s : State) : ((ownWriteSwitchQuad p dayType start entries s).2).lim = s.lim := by unfold ownWriteSwitchQuad; first | with_reducible rfl | ((try dsimp only); (repeat' split) <;> simp)
@[simp] theorem ownWriteSwitchQuad_util (p : Port) (dayType start : Byte) (entries : Four SwitchArg) (s : State) : ((ownWriteSwitchQuad p dayType start entries s).2).util = s.util := by unfold ownWriteSwitchQuad; first | with_reducible rfl | ((try dsimp only); (repeat' split) <;> simp)
@[simp] theorem ownWriteSwitchQuad_cust (p : Port) (dayType start : Byte) (entries : Four SwitchArg) (s : State) : ((ownWriteSwitchQuad p dayType start entries s).2).cust = s.cust := by unfold ownWriteSwitchQuad; first | with_reducible rfl | ((try dsimp only); (repeat' split) <;> simp)
@[simp] theorem ownWriteSwitchQuad_sup (p : Port) (dayType start : Byte) (entries : Four SwitchArg) (s : State) : ((ownWriteSwitchQuad p dayType start entries s).2).sup = s.sup := by unfold ownWriteSwitchQuad; first | with_reducible rfl | ((try dsimp only); (repeat' split) <;> simp)
@[simp] theorem ownWriteSwitchQuad_pins (p : Port) (dayType start : Byte) (entries : Four SwitchArg) (s : State) : ((ownWriteSwitchQuad p dayType start entries s).2).pins = s.pins := by unfold ownWriteSwitchQuad; first | with_reducible rfl | ((try dsimp only); (repeat' split) <;> simp)
@[simp] theorem ownWriteSwitchQuad_pending (p : Port) (dayType start : Byte) (entries : Four SwitchArg) (s : State) : ((ownWriteSwitchQuad p dayType start entries s).2).pending = s.pending := by unfold ownWriteSwitchQuad; first | with_reducible rfl | ((try dsimp only); (repeat' split) <;> simp)
@[simp] theorem ownWriteSwitchQuad_free (p : Port) (dayType start : Byte) (entries : Four SwitchArg) (s : State) : ((ownWriteSwitchQuad p dayType start entries s).2).free = s.free := by unfold ownWriteSwitchQuad; first | with_reducible rfl | ((try dsimp only); (repeat' split) <;> simp)
/-! ### ownWriteHolidayQuad -/
@[simp] theorem ownWriteHolidayQuad_clock (p : Port) (start : Byte) (days : Four (BitVec 16)) (s : State) : ((ownWriteHolidayQuad p start days s).2).clock = s.clock := by unfold ownWriteHolidayQuad; first | with_reducible rfl | ((try dsimp only); (repeat' split) <;> simp)
@[simp] theorem ownWriteHolidayQuad_sub (p : Port) (start : Byte) (days : Four (BitVec 16)) (s : State) : ((ownWriteHolidayQuad p start days s).2).sub = s.sub := by unfold ownWriteHolidayQuad; first | with_reducible rfl | ((try dsimp only); (repeat' split) <;> simp)
@[simp] theorem ownWriteHolidayQuad_due (p : Port) (start : Byte) (days : Four (BitVec 16)) (s : State) : ((ownWriteHolidayQuad p start days s).2).due = s.due := by unfold ownWriteHolidayQuad; first | with_reducible rfl | ((try dsimp only); (repeat' split) <;> simp)
@[simp] theorem ownWriteHolidayQuad_chans (p : Port) (start : Byte) (days : Four (BitVec 16)) (s : State) : ((ownWriteHolidayQuad p start days s).2).chans = s.chans := by unfold ownWriteHolidayQuad; first | with_reducible rfl | ((try dsimp only); (repeat' split) <;> simp)
@[simp] theorem ownWriteHolidayQuad_tot (p : Port) (start : Byte) (days : Four (BitVec 16)) (s : State) : ((ownWriteHolidayQuad p start days s).2).tot = s.tot := by unfold ownWriteHolidayQuad; first | with_reducible rfl | ((try dsimp only); (repeat' split) <;> simp)
@[simp] theorem ownWriteHolidayQuad_dem (p : Port) (start : Byte) (days : Four (BitVec 16)) (s : State) : ((ownWriteHolidayQuad p start days s).2).dem = s.dem := by unfold ownWriteHolidayQuad; first | with_reducible rfl | ((try dsimp only); (repeat' split) <;> simp)
@[simp] theorem ownWriteHolidayQuad_per (p : Port) (start : Byte) (days : Four (BitVec 16)) (s : State) : ((ownWriteHolidayQuad p start days s).2).per = s.per := by unfold ownWriteHolidayQuad; first | with_reducible rfl | ((try dsimp only); (repeat' split) <;> simp)
@[simp] theorem ownWriteHolidayQuad_log (p : Port) (start : Byte) (days : Four (BitVec 16)) (s : State) : ((ownWriteHolidayQuad p start days s).2).log = s.log := by unfold ownWriteHolidayQuad; first | with_reducible rfl | ((try dsimp only); (repeat' split) <;> simp)
@[simp] theorem ownWriteHolidayQuad_lim (p : Port) (start : Byte) (days : Four (BitVec 16)) (s : State) : ((ownWriteHolidayQuad p start days s).2).lim = s.lim := by unfold ownWriteHolidayQuad; first | with_reducible rfl | ((try dsimp only); (repeat' split) <;> simp)
@[simp] theorem ownWriteHolidayQuad_util (p : Port) (start : Byte) (days : Four (BitVec 16)) (s : State) : ((ownWriteHolidayQuad p start days s).2).util = s.util := by unfold ownWriteHolidayQuad; first | with_reducible rfl | ((try dsimp only); (repeat' split) <;> simp)
@[simp] theorem ownWriteHolidayQuad_cust (p : Port) (start : Byte) (days : Four (BitVec 16)) (s : State) : ((ownWriteHolidayQuad p start days s).2).cust = s.cust := by unfold ownWriteHolidayQuad; first | with_reducible rfl | ((try dsimp only); (repeat' split) <;> simp)
@[simp] theorem ownWriteHolidayQuad_sup (p : Port) (start : Byte) (days : Four (BitVec 16)) (s : State) : ((ownWriteHolidayQuad p start days s).2).sup = s.sup := by unfold ownWriteHolidayQuad; first | with_reducible rfl | ((try dsimp only); (repeat' split) <;> simp)
@[simp] theorem ownWriteHolidayQuad_pins (p : Port) (start : Byte) (days : Four (BitVec 16)) (s : State) : ((ownWriteHolidayQuad p start days s).2).pins = s.pins := by unfold ownWriteHolidayQuad; first | with_reducible rfl | ((try dsimp only); (repeat' split) <;> simp)
@[simp] theorem ownWriteHolidayQuad_pending (p : Port) (start : Byte) (days : Four (BitVec 16)) (s : State) : ((ownWriteHolidayQuad p start days s).2).pending = s.pending := by unfold ownWriteHolidayQuad; first | with_reducible rfl | ((try dsimp only); (repeat' split) <;> simp)
@[simp] theorem ownWriteHolidayQuad_free (p : Port) (start : Byte) (days : Four (BitVec 16)) (s : State) : ((ownWriteHolidayQuad p start days s).2).free = s.free := by unfold ownWriteHolidayQuad; first | with_reducible rfl | ((try dsimp only); (repeat' split) <;> simp)
/-! ### ownWriteWeekTable -/
@[simp] theorem ownWriteWeekTable_clock (p : Port) (types : Week Byte) (s : State) : ((ownWriteWeekTable p types s).2).clock = s.clock := by unfold ownWriteWeekTable; first | with_reducible rfl | ((try dsimp only); (repeat' split) <;> simp)
@[simp] theorem ownWriteWeekTable_sub (p : Port) (types : Week Byte) (s : State) : ((ownWriteWeekTable p types s).2).sub = s.sub := by unfold ownWriteWeekTable; first | with_reducible rfl | ((try dsimp only); (repeat' split) <;> simp)
@[simp] theorem ownWriteWeekTable_due (p : Port) (types : Week Byte) (s : State) : ((ownWriteWeekTable p types s).2).due = s.due := by unfold ownWriteWeekTable; first | with_reducible rfl | ((try dsimp only); (repeat' split) <;> simp)
@[simp] theorem ownWriteWeekTable_chans (p : Port) (types : Week Byte) (s : State) : ((ownWriteWeekTable p types s).2).chans = s.chans := by unfold ownWriteWeekTable; first | with_reducible rfl | ((try dsimp only); (repeat' split) <;> simp)
@[simp] theorem ownWriteWeekTable_tot (p : Port) (types : Week Byte) (s : State) : ((ownWriteWeekTable p types s).2).tot = s.tot := by unfold ownWriteWeekTable; first | with_reducible rfl | ((try dsimp only); (repeat' split) <;> simp)
@[simp] theorem ownWriteWeekTable_dem (p : Port) (types : Week Byte) (s : State) : ((ownWriteWeekTable p types s).2).dem = s.dem := by unfold ownWriteWeekTable; first | with_reducible rfl | ((try dsimp only); (repeat' split) <;> simp)
@[simp] theorem ownWriteWeekTable_per (p : Port) (types : Week Byte) (s : State) : ((ownWriteWeekTable p types s).2).per = s.per := by unfold ownWriteWeekTable; first | with_reducible rfl | ((try dsimp only); (repeat' split) <;> simp)
@[simp] theorem ownWriteWeekTable_log (p : Port) (types : Week Byte) (s : State) : ((ownWriteWeekTable p types s).2).log = s.log := by unfold ownWriteWeekTable; first | with_reducible rfl | ((try dsimp only); (repeat' split) <;> simp)
@[simp] theorem ownWriteWeekTable_lim (p : Port) (types : Week Byte) (s : State) : ((ownWriteWeekTable p types s).2).lim = s.lim := by unfold ownWriteWeekTable; first | with_reducible rfl | ((try dsimp only); (repeat' split) <;> simp)
@[simp] theorem ownWriteWeekTable_util (p : Port) (types : Week Byte) (s : State) : ((ownWriteWeekTable p types s).2).util = s.util := by unfold ownWriteWeekTable; first | with_reducible rfl | ((try dsimp only); (repeat' split) <;> simp)
@[simp] theorem ownWriteWeekTable_cust (p : Port) (types : Week Byte) (s : State) : ((ownWriteWeekTable p types s).2).cust = s.cust := by unfold ownWriteWeekTable; first | with_reducible rfl | ((try dsimp only); (repeat' split) <;> simp)
@[simp] theorem ownWriteWeekTable_sup (p : Port) (types : Week Byte) (s : State) : ((ownWriteWeekTable p types s).2).sup = s.sup := by unfold ownWriteWeekTable; first | with_reducible rfl | ((try dsimp only); (repeat' split) <;> simp)
@[simp] theorem ownWriteWeekTable_pins (p : Port) (types : Week Byte) (s : State) : ((ownWriteWeekTable p types s).2).pins = s.pins := by unfold ownWriteWeekTable; first | with_reducible rfl | ((try dsimp only); (repeat' split) <;> simp)
@[simp] theorem ownWriteWeekTable_pending (p : Port) (types : Week Byte) (s : State) : ((ownWriteWeekTable p types s).2).pending = s.pending := by unfold ownWriteWeekTable; first | with_reducible rfl | ((try dsimp only); (repeat' split) <;> simp)
@[simp] theorem ownWriteWeekTable_free (p : Port) (types : Week Byte) (s : State) : ((ownWriteWeekTable p types s).2).free = s.free := by unfold ownWriteWeekTable; first | with_reducible rfl | ((try dsimp only); (repeat' split) <;> simp)
/-! ### armSchedule -/
@[simp] theorem armSchedule_clock (day : BitVec 16) (s : State) : ((armSchedule day s).2).clock = s.clock := by unfold armSchedule; first | with_reducible rfl | ((try dsimp only); (repeat' split) <;> simp)
@[simp] theorem armSchedule_sub (day : BitVec 16) (s : State) : ((armSchedule day s).2).sub = s.sub := by unfold armSchedule; first | with_reducible rfl | ((try dsimp only); (repeat' split) <;> simp)
@[simp] theorem armSchedule_due (day : BitVec 16) (s : State) : ((armSchedule day s).2).due = s.due := by unfold armSchedule; first | with_reducible rfl | ((try dsimp only); (repeat' split) <;> simp)
@[simp] theorem armSchedule_chans (day : BitVec 16) (s : State) : ((armSchedule day s).2).chans = s.chans := by unfold armSchedule; first | with_reducible rfl | ((try dsimp only); (repeat' split) <;> simp)
@[simp] theorem armSchedule_tot (day : BitVec 16) (s : State) : ((armSchedule day s).2).tot = s.tot := by unfold armSchedule; first | with_reducible rfl | ((try dsimp only); (repeat' split) <;> simp)
@[simp] theorem armSchedule_dem (day : BitVec 16) (s : State) : ((armSchedule day s).2).dem = s.dem := by unfold armSchedule; first | with_reducible rfl | ((try dsimp only); (repeat' split) <;> simp)
@[simp] theorem armSchedule_per (day : BitVec 16) (s : State) : ((armSchedule day s).2).per = s.per := by unfold armSchedule; first | with_reducible rfl | ((try dsimp only); (repeat' split) <;> simp)
@[simp] theorem armSchedule_log (day : BitVec 16) (s : State) : ((armSchedule day s).2).log = s.log := by unfold armSchedule; first | with_reducible rfl | ((try dsimp only); (repeat' split) <;> simp)
@[simp] theorem armSchedule_lim (day : BitVec 16) (s : State) : ((armSchedule day s).2).lim = s.lim := by unfold armSchedule; first | with_reducible rfl | ((try dsimp only); (repeat' split) <;> simp)
@[simp] theorem armSchedule_util (day : BitVec 16) (s : State) : ((armSchedule day s).2).util = s.util := by unfold armSchedule; first | with_reducible rfl | ((try dsimp only); (repeat' split) <;> simp)
@[simp] theorem armSchedule_cust (day : BitVec 16) (s : State) : ((armSchedule day s).2).cust = s.cust := by unfold armSchedule; first | with_reducible rfl | ((try dsimp only); (repeat' split) <;> simp)
@[simp] theorem armSchedule_sup (day : BitVec 16) (s : State) : ((armSchedule day s).2).sup = s.sup := by unfold armSchedule; first | with_reducible rfl | ((try dsimp only); (repeat' split) <;> simp)
@[simp] theorem armSchedule_pins (day : BitVec 16) (s : State) : ((armSchedule day s).2).pins = s.pins := by unfold armSchedule; first | with_reducible rfl | ((try dsimp only); (repeat' split) <;> simp)
@[simp] theorem armSchedule_pending (day : BitVec 16) (s : State) : ((armSchedule day s).2).pending = s.pending := by unfold armSchedule; first | with_reducible rfl | ((try dsimp only); (repeat' split) <;> simp)
@[simp] theorem armSchedule_free (day : BitVec 16) (s : State) : ((armSchedule day s).2).free = s.free := by unfold armSchedule; first | with_reducible rfl | ((try dsimp only); (repeat' split) <;> simp)
@[simp] theorem armSchedule_store_config (day : BitVec 16) (s : State) : ((armSchedule day s).2).store.config = s.store.config := by unfold armSchedule; first | with_reducible rfl | ((try dsimp only); (repeat' split) <;> simp)
@[simp] theorem armSchedule_store_writing (day : BitVec 16) (s : State) : ((armSchedule day s).2).store.writing = s.store.writing := by unfold armSchedule; first | with_reducible rfl | ((try dsimp only); (repeat' split) <;> simp)
@[simp] theorem armSchedule_store_closeDates (day : BitVec 16) (s : State) : ((armSchedule day s).2).store.closeDates = s.store.closeDates := by unfold armSchedule; first | with_reducible rfl | ((try dsimp only); (repeat' split) <;> simp)
@[simp] theorem armSchedule_store_active (day : BitVec 16) (s : State) : ((armSchedule day s).2).store.active = s.store.active := by unfold armSchedule; first | with_reducible rfl | ((try dsimp only); (repeat' split) <;> simp)
/-! ### ownActivateSchedule -/
@[simp] theorem ownActivateSchedule_clock (day : BitVec 16) (s : State) : ((ownActivateSchedule day s).2).clock = s.clock := by unfold ownActivateSchedule; first | with_reducible rfl | ((try dsimp only); (repeat' split) <;> simp)
@[simp] theorem ownActivateSchedule_sub (day : BitVec 16) (s : State) : ((ownActivateSchedule day s).2).sub = s.sub := by unfold ownActivateSchedule; first | with_reducible rfl | ((try dsimp only); (repeat' split) <;> simp)
@[simp] theorem ownActivateSchedule_due (day : BitVec 16) (s : State) : ((ownActivateSchedule day s).2).due = s.due := by unfold ownActivateSchedule; first | with_reducible rfl | ((try dsimp only); (repeat' split) <;> simp)
@[simp] theorem ownActivateSchedule_chans (day : BitVec 16) (s : State) : ((ownActivateSchedule day s).2).chans = s.chans := by unfold ownActivateSchedule; first | with_reducible rfl | ((try dsimp only); (repeat' split) <;> simp)
@[simp] theorem ownActivateSchedule_tot (day : BitVec 16) (s : State) : ((ownActivateSchedule day s).2).tot = s.tot := by unfold ownActivateSchedule; first | with_reducible rfl | ((try dsimp only); (repeat' split) <;> simp)
@[simp] theorem ownActivateSchedule_dem (day : BitVec 16) (s : State) : ((ownActivateSchedule day s).2).dem = s.dem := by unfold ownActivateSchedule; first | with_reducible rfl | ((try dsimp only); (repeat' split) <;> simp)
@[simp] theorem ownActivateSchedule_per (day : BitVec 16) (s : State) : ((ownActivateSchedule day s).2).per = s.per := by unfold ownActivateSchedule; first | with_reducible rfl | ((try dsimp only); (repeat' split) <;> simp)
@[simp] theorem ownActivateSchedule_log (day : BitVec 16) (s : State) : ((ownActivateSchedule day s).2).log = s.log := by unfold ownActivateSchedule; first | with_reducible rfl | ((try dsimp only); (repeat' split) <;> simp)
@[simp] theorem ownActivateSchedule_lim (day : BitVec 16) (s : State) : ((ownActivateSchedule day s).2).lim = s.lim := by unfold ownActivateSchedule; first | with_reducible rfl | ((try dsimp only); (repeat' split) <;> simp)
@[simp] theorem ownActivateSchedule_util (day : BitVec 16) (s : State) : ((ownActivateSchedule day s).2).util = s.util := by unfold ownActivateSchedule; first | with_reducible rfl | ((try dsimp only); (repeat' split) <;> simp)
@[simp] theorem ownActivateSchedule_cust (day : BitVec 16) (s : State) : ((ownActivateSchedule day s).2).cust = s.cust := by unfold ownActivateSchedule; first | with_reducible rfl | ((try dsimp only); (repeat' split) <;> simp)
@[simp] theorem ownActivateSchedule_sup (day : BitVec 16) (s : State) : ((ownActivateSchedule day s).2).sup = s.sup := by unfold ownActivateSchedule; first | with_reducible rfl | ((try dsimp only); (repeat' split) <;> simp)
@[simp] theorem ownActivateSchedule_pins (day : BitVec 16) (s : State) : ((ownActivateSchedule day s).2).pins = s.pins := by unfold ownActivateSchedule; first | with_reducible rfl | ((try dsimp only); (repeat' split) <;> simp)
@[simp] theorem ownActivateSchedule_pending (day : BitVec 16) (s : State) : ((ownActivateSchedule day s).2).pending = s.pending := by unfold ownActivateSchedule; first | with_reducible rfl | ((try dsimp only); (repeat' split) <;> simp)
@[simp] theorem ownActivateSchedule_free (day : BitVec 16) (s : State) : ((ownActivateSchedule day s).2).free = s.free := by unfold ownActivateSchedule; first | with_reducible rfl | ((try dsimp only); (repeat' split) <;> simp)
/-! ### ownWriteCloseDateQuad -/
@[simp] theorem ownWriteCloseDateQuad_clock (p : Port) (start : Byte) (days : Four (BitVec 16)) (s : State) : ((ownWriteCloseDateQuad p start days s).2).clock = s.clock := by unfold ownWriteCloseDateQuad; first | with_reducible rfl | ((try dsimp only); (repeat' split) <;> simp)
@[simp] theorem ownWriteCloseDateQuad_sub (p : Port) (start : Byte) (days : Four (BitVec 16)) (s : State) : ((ownWriteCloseDateQuad p start days s).2).sub = s.sub := by unfold ownWriteCloseDateQuad; first | with_reducible rfl | ((try dsimp only); (repeat' split) <;> simp)
@[simp] theorem ownWriteCloseDateQuad_due (p : Port) (start : Byte) (days : Four (BitVec 16)) (s : State) : ((ownWriteCloseDateQuad p start days s).2).due = s.due := by unfold ownWriteCloseDateQuad; first | with_reducible rfl | ((try dsimp only); (repeat' split) <;> simp)
@[simp] theorem ownWriteCloseDateQuad_chans (p : Port) (start : Byte) (days : Four (BitVec 16)) (s : State) : ((ownWriteCloseDateQuad p start days s).2).chans = s.chans := by unfold ownWriteCloseDateQuad; first | with_reducible rfl | ((try dsimp only); (repeat' split) <;> simp)
@[simp] theorem ownWriteCloseDateQuad_tot (p : Port) (start : Byte) (days : Four (BitVec 16)) (s : State) : ((ownWriteCloseDateQuad p start days s).2).tot = s.tot := by unfold ownWriteCloseDateQuad; first | with_reducible rfl | ((try dsimp only); (repeat' split) <;> simp)
@[simp] theorem ownWriteCloseDateQuad_dem (p : Port) (start : Byte) (days : Four (BitVec 16)) (s : State) : ((ownWriteCloseDateQuad p start days s).2).dem = s.dem := by unfold ownWriteCloseDateQuad; first | with_reducible rfl | ((try dsimp only); (repeat' split) <;> simp)
@[simp] theorem ownWriteCloseDateQuad_per (p : Port) (start : Byte) (days : Four (BitVec 16)) (s : State) : ((ownWriteCloseDateQuad p start days s).2).per = s.per := by unfold ownWriteCloseDateQuad; first | with_reducible rfl | ((try dsimp only); (repeat' split) <;> simp)
@[simp] theorem ownWriteCloseDateQuad_log (p : Port) (start : Byte) (days : Four (BitVec 16)) (s : State) : ((ownWriteCloseDateQuad p start days s).2).log = s.log := by unfold ownWriteCloseDateQuad; first | with_reducible rfl | ((try dsimp only); (repeat' split) <;> simp)
@[simp] theorem ownWriteCloseDateQuad_lim (p : Port) (start : Byte) (days : Four (BitVec 16)) (s : State) : ((ownWriteCloseDateQuad p start days s).2).lim = s.lim := by unfold ownWriteCloseDateQuad; first | with_reducible rfl | ((try dsimp only); (repeat' split) <;> simp)
@[simp] theorem ownWriteCloseDateQuad_util (p : Port) (start : Byte) (days : Four (BitVec 16)) (s : State) : ((ownWriteCloseDateQuad p start days s).2).util = s.util := by unfold ownWriteCloseDateQuad; first | with_reducible rfl | ((try dsimp only); (repeat' split) <;> simp)
@[simp] theorem ownWriteCloseDateQuad_cust (p : Port) (start : Byte) (days : Four (BitVec 16)) (s : State) : ((ownWriteCloseDateQuad p start days s).2).cust = s.cust := by unfold ownWriteCloseDateQuad; first | with_reducible rfl | ((try dsimp only); (repeat' split) <;> simp)
@[simp] theorem ownWriteCloseDateQuad_sup (p : Port) (start : Byte) (days : Four (BitVec 16)) (s : State) : ((ownWriteCloseDateQuad p start days s).2).sup = s.sup := by unfold ownWriteCloseDateQuad; first | with_reducible rfl | ((try dsimp only); (repeat' split) <;> simp)
@[simp] theorem ownWriteCloseDateQuad_pins (p : Port) (start : Byte) (days : Four (BitVec 16)) (s : State) : ((ownWriteCloseDateQuad p start days s).2).pins = s.pins := by unfold ownWriteCloseDateQuad; first | with_reducible rfl | ((try dsimp only); (repeat' split) <;> simp)
@[simp] theorem ownWriteCloseDateQuad_pending (p : Port) (start : Byte) (days : Four (BitVec 16)) (s : State) : ((ownWriteCloseDateQuad p start days s).2).pending = s.pending := by unfold ownWriteCloseDateQuad; first | with_reducible rfl | ((try dsimp only); (repeat' split) <;> simp)
@[simp] theorem ownWriteCloseDateQuad_free (p : Port) (start : Byte) (days : Four (BitVec 16)) (s : State) : ((ownWriteCloseDateQuad p start days s).2).free = s.free := by unfold ownWriteCloseDateQuad; first | with_reducible rfl | ((try dsimp only); (repeat' split) <;> simp)
@[simp] theorem ownWriteCloseDateQuad_store_config (p : Port) (start : Byte) (days : Four (BitVec 16)) (s : State) : ((ownWriteCloseDateQuad p start days s).2).store.config = s.store.config := by unfold ownWriteCloseDateQuad; first | with_reducible rfl | ((try dsimp only); (repeat' split) <;> simp)
@[simp] theorem ownWriteCloseDateQuad_store_closeDates (p : Port) (start : Byte) (days : Four (BitVec 16)) (s : State) : ((ownWriteCloseDateQuad p start days s).2).store.closeDates = s.store.closeDates := by unfold ownWriteCloseDateQuad; first | with_reducible rfl | ((try dsimp only); (repeat' split) <;> simp)
@[simp] theorem ownWriteCloseDateQuad_store_active (p : Port) (start : Byte) (days : Four (BitVec 16)) (s : State) : ((ownWriteCloseDateQuad p start days s).2).store.active = s.store.active := by unfold ownWriteCloseDateQuad; first | with_reducible rfl | ((try dsimp only); (repeat' split) <;> simp)
@[simp] theorem ownWriteCloseDateQuad_store_pendSched (p : Port) (start : Byte) (days : Four (BitVec 16)) (s : State) : ((ownWriteCloseDateQuad p start days s).2).store.pendSched = s.store.pendSched := by unfold ownWriteCloseDateQuad; first | with_reducible rfl | ((try dsimp only); (repeat' split) <;> simp)
/-! ### ownReset -/
@[simp] theorem ownReset_per (p : Port) (s : State) : ((ownReset p s).2).per = s.per := by unfold ownReset; first | with_reducible rfl | ((try dsimp only); (repeat' split) <;> simp)
@[simp] theorem ownReset_pins (p : Port) (s : State) : ((ownReset p s).2).pins = s.pins := by unfold ownReset; first | with_reducible rfl | ((try dsimp only); (repeat' split) <;> simp)
@[simp] theorem ownReset_pending (p : Port) (s : State) : ((ownReset p s).2).pending = s.pending := by unfold ownReset; first | with_reducible rfl | ((try dsimp only); (repeat' split) <;> simp)
@[simp] theorem ownReset_free (p : Port) (s : State) : ((ownReset p s).2).free = s.free := by unfold ownReset; first | with_reducible rfl | ((try dsimp only); (repeat' split) <;> simp)
@[simp] theorem ownReset_store_config (p : Port) (s : State) : ((ownReset p s).2).store.config = s.store.config := by unfold ownReset; first | with_reducible rfl | ((try dsimp only); (repeat' split) <;> simp)
@[simp] theorem ownReset_store_writing (p : Port) (s : State) : ((ownReset p s).2).store.writing = s.store.writing := by unfold ownReset; first | with_reducible rfl | ((try dsimp only); (repeat' split) <;> simp)
@[simp] theorem ownReset_store_closeDates (p : Port) (s : State) : ((ownReset p s).2).store.closeDates = s.store.closeDates := by unfold ownReset; first | with_reducible rfl | ((try dsimp only); (repeat' split) <;> simp)
@[simp] theorem ownReset_clock_now (p : Port) (s : State) : ((ownReset p s).2).clock.now = s.clock.now := by unfold ownReset; first | with_reducible rfl | ((try dsimp only); (repeat' split) <;> simp)
@[simp] theorem ownReset_clock_timeValid (p : Port) (s : State) : ((ownReset p s).2).clock.timeValid = s.clock.timeValid := by unfold ownReset; first | with_reducible rfl | ((try dsimp only); (repeat' split) <;> simp)
@[simp] theorem ownReset_sup_hold (p : Port) (s : State) : ((ownReset p s).2).sup.hold = s.sup.hold := by unfold ownReset; first | with_reducible rfl | ((try dsimp only); (repeat' split) <;> simp)
@[simp] theorem ownReset_sup_mainSupply (p : Port) (s : State) : ((ownReset p s).2).sup.mainSupply = s.sup.mainSupply := by unfold ownReset; first | with_reducible rfl | ((try dsimp only); (repeat' split) <;> simp)
/-! ### ownWriteLimit -/
@[simp] theorem ownWriteLimit_clock (p : Port) (a : LimitArgs) (s : State) : ((ownWriteLimit p a s).2).clock = s.clock := by unfold ownWriteLimit; first | with_reducible rfl | ((try dsimp only); (repeat' split) <;> simp)
@[simp] theorem ownWriteLimit_sub (p : Port) (a : LimitArgs) (s : State) : ((ownWriteLimit p a s).2).sub = s.sub := by unfold ownWriteLimit; first | with_reducible rfl | ((try dsimp only); (repeat' split) <;> simp)
@[simp] theorem ownWriteLimit_due (p : Port) (a : LimitArgs) (s : State) : ((ownWriteLimit p a s).2).due = s.due := by unfold ownWriteLimit; first | with_reducible rfl | ((try dsimp only); (repeat' split) <;> simp)
@[simp] theorem ownWriteLimit_chans (p : Port) (a : LimitArgs) (s : State) : ((ownWriteLimit p a s).2).chans = s.chans := by unfold ownWriteLimit; first | with_reducible rfl | ((try dsimp only); (repeat' split) <;> simp)
@[simp] theorem ownWriteLimit_tot (p : Port) (a : LimitArgs) (s : State) : ((ownWriteLimit p a s).2).tot = s.tot := by unfold ownWriteLimit; first | with_reducible rfl | ((try dsimp only); (repeat' split) <;> simp)
@[simp] theorem ownWriteLimit_dem (p : Port) (a : LimitArgs) (s : State) : ((ownWriteLimit p a s).2).dem = s.dem := by unfold ownWriteLimit; first | with_reducible rfl | ((try dsimp only); (repeat' split) <;> simp)
@[simp] theorem ownWriteLimit_per (p : Port) (a : LimitArgs) (s : State) : ((ownWriteLimit p a s).2).per = s.per := by unfold ownWriteLimit; first | with_reducible rfl | ((try dsimp only); (repeat' split) <;> simp)
@[simp] theorem ownWriteLimit_log (p : Port) (a : LimitArgs) (s : State) : ((ownWriteLimit p a s).2).log = s.log := by unfold ownWriteLimit; first | with_reducible rfl | ((try dsimp only); (repeat' split) <;> simp)
@[simp] theorem ownWriteLimit_lim (p : Port) (a : LimitArgs) (s : State) : ((ownWriteLimit p a s).2).lim = s.lim := by unfold ownWriteLimit; first | with_reducible rfl | ((try dsimp only); (repeat' split) <;> simp)
@[simp] theorem ownWriteLimit_util (p : Port) (a : LimitArgs) (s : State) : ((ownWriteLimit p a s).2).util = s.util := by unfold ownWriteLimit; first | with_reducible rfl | ((try dsimp only); (repeat' split) <;> simp)
@[simp] theorem ownWriteLimit_cust (p : Port) (a : LimitArgs) (s : State) : ((ownWriteLimit p a s).2).cust = s.cust := by unfold ownWriteLimit; first | with_reducible rfl | ((try dsimp only); (repeat' split) <;> simp)
@[simp] theorem ownWriteLimit_sup (p : Port) (a : LimitArgs) (s : State) : ((ownWriteLimit p a s).2).sup = s.sup := by unfold ownWriteLimit; first | with_reducible rfl | ((try dsimp only); (repeat' split) <;> simp)
@[simp] theorem ownWriteLimit_pins (p : Port) (a : LimitArgs) (s : State) : ((ownWriteLimit p a s).2).pins = s.pins := by unfold ownWriteLimit; first | with_reducible rfl | ((try dsimp only); (repeat' split) <;> simp)
@[simp] theorem ownWriteLimit_pending (p : Port) (a : LimitArgs) (s : State) : ((ownWriteLimit p a s).2).pending = s.pending := by unfold ownWriteLimit; first | with_reducible rfl | ((try dsimp only); (repeat' split) <;> simp)
@[simp] theorem ownWriteLimit_free (p : Port) (a : LimitArgs) (s : State) : ((ownWriteLimit p a s).2).free = s.free := by unfold ownWriteLimit; first | with_reducible rfl | ((try dsimp only); (repeat' split) <;> simp)
/-! ### writeItem -/
@[simp] theorem writeItem_clock (p : Port) (item : ItemName) (value : BitVec 32) (s : State) : ((writeItem p item value s).2).clock = s.clock := by unfold writeItem; first | with_reducible rfl | ((try dsimp only); (repeat' split) <;> simp)
@[simp] theorem writeItem_sub (p : Port) (item : ItemName) (value : BitVec 32) (s : State) : ((writeItem p item value s).2).sub = s.sub := by unfold writeItem; first | with_reducible rfl | ((try dsimp only); (repeat' split) <;> simp)
@[simp] theorem writeItem_due (p : Port) (item : ItemName) (value : BitVec 32) (s : State) : ((writeItem p item value s).2).due = s.due := by unfold writeItem; first | with_reducible rfl | ((try dsimp only); (repeat' split) <;> simp)
@[simp] theorem writeItem_chans (p : Port) (item : ItemName) (value : BitVec 32) (s : State) : ((writeItem p item value s).2).chans = s.chans := by unfold writeItem; first | with_reducible rfl | ((try dsimp only); (repeat' split) <;> simp)
@[simp] theorem writeItem_tot (p : Port) (item : ItemName) (value : BitVec 32) (s : State) : ((writeItem p item value s).2).tot = s.tot := by unfold writeItem; first | with_reducible rfl | ((try dsimp only); (repeat' split) <;> simp)
@[simp] theorem writeItem_dem (p : Port) (item : ItemName) (value : BitVec 32) (s : State) : ((writeItem p item value s).2).dem = s.dem := by unfold writeItem; first | with_reducible rfl | ((try dsimp only); (repeat' split) <;> simp)
@[simp] theorem writeItem_per (p : Port) (item : ItemName) (value : BitVec 32) (s : State) : ((writeItem p item value s).2).per = s.per := by unfold writeItem; first | with_reducible rfl | ((try dsimp only); (repeat' split) <;> simp)
@[simp] theorem writeItem_log (p : Port) (item : ItemName) (value : BitVec 32) (s : State) : ((writeItem p item value s).2).log = s.log := by unfold writeItem; first | with_reducible rfl | ((try dsimp only); (repeat' split) <;> simp)
@[simp] theorem writeItem_lim (p : Port) (item : ItemName) (value : BitVec 32) (s : State) : ((writeItem p item value s).2).lim = s.lim := by unfold writeItem; first | with_reducible rfl | ((try dsimp only); (repeat' split) <;> simp)
@[simp] theorem writeItem_util (p : Port) (item : ItemName) (value : BitVec 32) (s : State) : ((writeItem p item value s).2).util = s.util := by unfold writeItem; first | with_reducible rfl | ((try dsimp only); (repeat' split) <;> simp)
@[simp] theorem writeItem_cust (p : Port) (item : ItemName) (value : BitVec 32) (s : State) : ((writeItem p item value s).2).cust = s.cust := by unfold writeItem; first | with_reducible rfl | ((try dsimp only); (repeat' split) <;> simp)
@[simp] theorem writeItem_sup (p : Port) (item : ItemName) (value : BitVec 32) (s : State) : ((writeItem p item value s).2).sup = s.sup := by unfold writeItem; first | with_reducible rfl | ((try dsimp only); (repeat' split) <;> simp)
@[simp] theorem writeItem_pins (p : Port) (item : ItemName) (value : BitVec 32) (s : State) : ((writeItem p item value s).2).pins = s.pins := by unfold writeItem; first | with_reducible rfl | ((try dsimp only); (repeat' split) <;> simp)
@[simp] theorem writeItem_pending (p : Port) (item : ItemName) (value : BitVec 32) (s : State) : ((writeItem p item value s).2).pending = s.pending := by unfold writeItem; first | with_reducible rfl | ((try dsimp only); (repeat' split) <;> simp)
@[simp] theorem writeItem_free (p : Port) (item : ItemName) (value : BitVec 32) (s : State) : ((writeItem p item value s).2).free = s.free := by unfold writeItem; first | with_reducible rfl | ((try dsimp only); (repeat' split) <;> simp)
@[simp] theorem writeItem_store_config (p : Port) (item : ItemName) (value : BitVec 32) (s : State) : ((writeItem p item value s).2).store.config = s.store.config := by unfold writeItem; first | with_reducible rfl | ((try dsimp only); (repeat' split) <;> simp)
@[simp] theorem writeItem_store_closeDates (p : Port) (item : ItemName) (value : BitVec 32) (s : State) : ((writeItem p item value s).2).store.closeDates = s.store.closeDates := by unfold writeItem; first | with_reducible rfl | ((try dsimp only); (repeat' split) <;> simp)
@[simp] theorem writeItem_store_active (p : Port) (item : ItemName) (value : BitVec 32) (s : State) : ((writeItem p item value s).2).store.active = s.store.active := by unfold writeItem; first | with_reducible rfl | ((try dsimp only); (repeat' split) <;> simp)
@[simp] theorem writeItem_store_pendSched (p : Port) (item : ItemName) (value : BitVec 32) (s : State) : ((writeItem p item value s).2).store.pendSched = s.store.pendSched := by unfold writeItem; first | with_reducible rfl | ((try dsimp only); (repeat' split) <;> simp)
/-! ### ownWriteConfigItem -/
@[simp] theorem ownWriteConfigItem_clock (p : Port) (item : BitVec 16) (value : BitVec 32) (s : State) : ((ownWriteConfigItem p item value s).2).clock = s.clock := by unfold ownWriteConfigItem; first | with_reducible rfl | ((try dsimp only); (repeat' split) <;> simp)
@[simp] theorem ownWriteConfigItem_sub (p : Port) (item : BitVec 16) (value : BitVec 32) (s : State) : ((ownWriteConfigItem p item value s).2).sub = s.sub := by unfold ownWriteConfigItem; first | with_reducible rfl | ((try dsimp only); (repeat' split) <;> simp)
@[simp] theorem ownWriteConfigItem_due (p : Port) (item : BitVec 16) (value : BitVec 32) (s : State) : ((ownWriteConfigItem p item value s).2).due = s.due := by unfold ownWriteConfigItem; first | with_reducible rfl | ((try dsimp only); (repeat' split) <;> simp)
@[simp] theorem ownWriteConfigItem_chans (p : Port) (item : BitVec 16) (value : BitVec 32) (s : State) : ((ownWriteConfigItem p item value s).2).chans = s.chans := by unfold ownWriteConfigItem; first | with_reducible rfl | ((try dsimp only); (repeat' split) <;> simp)
@[simp] theorem ownWriteConfigItem_tot (p : Port) (item : BitVec 16) (value : BitVec 32) (s : State) : ((ownWriteConfigItem p item value s).2).tot = s.tot := by unfold ownWriteConfigItem; first | with_reducible rfl | ((try dsimp only); (repeat' split) <;> simp)
@[simp] theorem ownWriteConfigItem_dem (p : Port) (item : BitVec 16) (value : BitVec 32) (s : State) : ((ownWriteConfigItem p item value s).2).dem = s.dem := by unfold ownWriteConfigItem; first | with_reducible rfl | ((try dsimp only); (repeat' split) <;> simp)
@[simp] theorem ownWriteConfigItem_per (p : Port) (item : BitVec 16) (value : BitVec 32) (s : State) : ((ownWriteConfigItem p item value s).2).per = s.per := by unfold ownWriteConfigItem; first | with_reducible rfl | ((try dsimp only); (repeat' split) <;> simp)
@[simp] theorem ownWriteConfigItem_log (p : Port) (item : BitVec 16) (value : BitVec 32) (s : State) : ((ownWriteConfigItem p item value s).2).log = s.log := by unfold ownWriteConfigItem; first | with_reducible rfl | ((try dsimp only); (repeat' split) <;> simp)
@[simp] theorem ownWriteConfigItem_lim (p : Port) (item : BitVec 16) (value : BitVec 32) (s : State) : ((ownWriteConfigItem p item value s).2).lim = s.lim := by unfold ownWriteConfigItem; first | with_reducible rfl | ((try dsimp only); (repeat' split) <;> simp)
@[simp] theorem ownWriteConfigItem_util (p : Port) (item : BitVec 16) (value : BitVec 32) (s : State) : ((ownWriteConfigItem p item value s).2).util = s.util := by unfold ownWriteConfigItem; first | with_reducible rfl | ((try dsimp only); (repeat' split) <;> simp)
@[simp] theorem ownWriteConfigItem_cust (p : Port) (item : BitVec 16) (value : BitVec 32) (s : State) : ((ownWriteConfigItem p item value s).2).cust = s.cust := by unfold ownWriteConfigItem; first | with_reducible rfl | ((try dsimp only); (repeat' split) <;> simp)
@[simp] theorem ownWriteConfigItem_sup (p : Port) (item : BitVec 16) (value : BitVec 32) (s : State) : ((ownWriteConfigItem p item value s).2).sup = s.sup := by unfold ownWriteConfigItem; first | with_reducible rfl | ((try dsimp only); (repeat' split) <;> simp)
@[simp] theorem ownWriteConfigItem_pins (p : Port) (item : BitVec 16) (value : BitVec 32) (s : State) : ((ownWriteConfigItem p item value s).2).pins = s.pins := by unfold ownWriteConfigItem; first | with_reducible rfl | ((try dsimp only); (repeat' split) <;> simp)
@[simp] theorem ownWriteConfigItem_pending (p : Port) (item : BitVec 16) (value : BitVec 32) (s : State) : ((ownWriteConfigItem p item value s).2).pending = s.pending := by unfold ownWriteConfigItem; first | with_reducible rfl | ((try dsimp only); (repeat' split) <;> simp)
@[simp] theorem ownWriteConfigItem_free (p : Port) (item : BitVec 16) (value : BitVec 32) (s : State) : ((ownWriteConfigItem p item value s).2).free = s.free := by unfold ownWriteConfigItem; first | with_reducible rfl | ((try dsimp only); (repeat' split) <;> simp)
@[simp] theorem ownWriteConfigItem_store_config (p : Port) (item : BitVec 16) (value : BitVec 32) (s : State) : ((ownWriteConfigItem p item value s).2).store.config = s.store.config := by unfold ownWriteConfigItem; first | with_reducible rfl | ((try dsimp only); (repeat' split) <;> simp)
@[simp] theorem ownWriteConfigItem_store_closeDates (p : Port) (item : BitVec 16) (value : BitVec 32) (s : State) : ((ownWriteConfigItem p item value s).2).store.closeDates = s.store.closeDates := by unfold ownWriteConfigItem; first | with_reducible rfl | ((try dsimp only); (repeat' split) <;> simp)
@[simp] theorem ownWriteConfigItem_store_active (p : Port) (item : BitVec 16) (value : BitVec 32) (s : State) : ((ownWriteConfigItem p item value s).2).store.active = s.store.active := by unfold ownWriteConfigItem; first | with_reducible rfl | ((try dsimp only); (repeat' split) <;> simp)
@[simp] theorem ownWriteConfigItem_store_pendSched (p : Port) (item : BitVec 16) (value : BitVec 32) (s : State) : ((ownWriteConfigItem p item value s).2).store.pendSched = s.store.pendSched := by unfold ownWriteConfigItem; first | with_reducible rfl | ((try dsimp only); (repeat' split) <;> simp)
/-! ### setInstant -/
@[simp] theorem setInstant_store (new : Instant) (s : State) : (setInstant new s).store = s.store := by unfold setInstant; first | with_reducible rfl | ((try dsimp only); (repeat' split) <;> simp)
@[simp] theorem setInstant_sub (new : Instant) (s : State) : (setInstant new s).sub = s.sub := by unfold setInstant; first | with_reducible rfl | ((try dsimp only); (repeat' split) <;> simp)
@[simp] theorem setInstant_due (new : Instant) (s : State) : (setInstant new s).due = s.due := by unfold setInstant; first | with_reducible rfl | ((try dsimp only); (repeat' split) <;> simp)
@[simp] theorem setInstant_chans (new : Instant) (s : State) : (setInstant new s).chans = s.chans := by unfold setInstant; first | with_reducible rfl | ((try dsimp only); (repeat' split) <;> simp)
@[simp] theorem setInstant_tot (new : Instant) (s : State) : (setInstant new s).tot = s.tot := by unfold setInstant; first | with_reducible rfl | ((try dsimp only); (repeat' split) <;> simp)
@[simp] theorem setInstant_dem (new : Instant) (s : State) : (setInstant new s).dem = s.dem := by unfold setInstant; first | with_reducible rfl | ((try dsimp only); (repeat' split) <;> simp)
@[simp] theorem setInstant_per (new : Instant) (s : State) : (setInstant new s).per = s.per := by unfold setInstant; first | with_reducible rfl | ((try dsimp only); (repeat' split) <;> simp)
@[simp] theorem setInstant_log (new : Instant) (s : State) : (setInstant new s).log = s.log := by unfold setInstant; first | with_reducible rfl | ((try dsimp only); (repeat' split) <;> simp)
@[simp] theorem setInstant_lim (new : Instant) (s : State) : (setInstant new s).lim = s.lim := by unfold setInstant; first | with_reducible rfl | ((try dsimp only); (repeat' split) <;> simp)
@[simp] theorem setInstant_util (new : Instant) (s : State) : (setInstant new s).util = s.util := by unfold setInstant; first | with_reducible rfl | ((try dsimp only); (repeat' split) <;> simp)
@[simp] theorem setInstant_cust (new : Instant) (s : State) : (setInstant new s).cust = s.cust := by unfold setInstant; first | with_reducible rfl | ((try dsimp only); (repeat' split) <;> simp)
@[simp] theorem setInstant_sup (new : Instant) (s : State) : (setInstant new s).sup = s.sup := by unfold setInstant; first | with_reducible rfl | ((try dsimp only); (repeat' split) <;> simp)
@[simp] theorem setInstant_pins (new : Instant) (s : State) : (setInstant new s).pins = s.pins := by unfold setInstant; first | with_reducible rfl | ((try dsimp only); (repeat' split) <;> simp)
@[simp] theorem setInstant_pending (new : Instant) (s : State) : (setInstant new s).pending = s.pending := by unfold setInstant; first | with_reducible rfl | ((try dsimp only); (repeat' split) <;> simp)
@[simp] theorem setInstant_free (new : Instant) (s : State) : (setInstant new s).free = s.free := by unfold setInstant; first | with_reducible rfl | ((try dsimp only); (repeat' split) <;> simp)
/-! ### timeSetTo -/
@[simp] theorem timeSetTo_due (new : Instant) (s : State) : (timeSetTo new s).due = s.due := by unfold timeSetTo; first | with_reducible rfl | ((try dsimp only); (repeat' split) <;> simp)
@[simp] theorem timeSetTo_per (new : Instant) (s : State) : (timeSetTo new s).per = s.per := by unfold timeSetTo; first | with_reducible rfl | ((try dsimp only); (repeat' split) <;> simp)
@[simp] theorem timeSetTo_sup (new : Instant) (s : State) : (timeSetTo new s).sup = s.sup := by unfold timeSetTo; first | with_reducible rfl | ((try dsimp only); (repeat' split) <;> simp)
@[simp] theorem timeSetTo_pins (new : Instant) (s : State) : (timeSetTo new s).pins = s.pins := by unfold timeSetTo; first | with_reducible rfl | ((try dsimp only); (repeat' split) <;> simp)
@[simp] theorem timeSetTo_pending (new : Instant) (s : State) : (timeSetTo new s).pending = s.pending := by unfold timeSetTo; first | with_reducible rfl | ((try dsimp only); (repeat' split) <;> simp)
@[simp] theorem timeSetTo_free (new : Instant) (s : State) : (timeSetTo new s).free = s.free := by unfold timeSetTo; first | with_reducible rfl | ((try dsimp only); (repeat' split) <;> simp)
@[simp] theorem timeSetTo_store_config (new : Instant) (s : State) : (timeSetTo new s).store.config = s.store.config := by unfold timeSetTo; first | with_reducible rfl | ((try dsimp only); (repeat' split) <;> simp)
@[simp] theorem timeSetTo_store_writing (new : Instant) (s : State) : (timeSetTo new s).store.writing = s.store.writing := by unfold timeSetTo; first | with_reducible rfl | ((try dsimp only); (repeat' split) <;> simp)
@[simp] theorem timeSetTo_store_closeDates (new : Instant) (s : State) : (timeSetTo new s).store.closeDates = s.store.closeDates := by unfold timeSetTo; first | with_reducible rfl | ((try dsimp only); (repeat' split) <;> simp)
@[simp] theorem timeSetTo_log_clearBusy (new : Instant) (s : State) : (timeSetTo new s).log.clearBusy = s.log.clearBusy := by unfold timeSetTo; first | with_reducible rfl | ((try dsimp only); (repeat' split) <;> simp)
/-! ### ownSetTime -/
@[simp] theorem ownSetTime_due (day : BitVec 16) (second : BitVec 24) (s : State) : ((ownSetTime day second s).2).due = s.due := by unfold ownSetTime; first | with_reducible rfl | ((try dsimp only); (repeat' split) <;> simp)
@[simp] theorem ownSetTime_per (day : BitVec 16) (second : BitVec 24) (s : State) : ((ownSetTime day second s).2).per = s.per := by unfold ownSetTime; first | with_reducible rfl | ((try dsimp only); (repeat' split) <;> simp)
@[simp] theorem ownSetTime_sup (day : BitVec 16) (second : BitVec 24) (s : State) : ((ownSetTime day second s).2).sup = s.sup := by unfold ownSetTime; first | with_reducible rfl | ((try dsimp only); (repeat' split) <;> simp)
@[simp] theorem ownSetTime_pins (day : BitVec 16) (second : BitVec 24) (s : State) : ((ownSetTime day second s).2).pins = s.pins := by unfold ownSetTime; first | with_reducible rfl | ((try dsimp only); (repeat' split) <;> simp)
@[simp] theorem ownSetTime_pending (day : BitVec 16) (second : BitVec 24) (s : State) : ((ownSetTime day second s).2).pending = s.pending := by unfold ownSetTime; first | with_reducible rfl | ((try dsimp only); (repeat' split) <;> simp)
@[simp] theorem ownSetTime_free (day : BitVec 16) (second : BitVec 24) (s : State) : ((ownSetTime day second s).2).free = s.free := by unfold ownSetTime; first | with_reducible rfl | ((try dsimp only); (repeat' split) <;> simp)
@[simp] theorem ownSetTime_store_config (day : BitVec 16) (second : BitVec 24) (s : State) : ((ownSetTime day second s).2).store.config = s.store.config := by unfold ownSetTime; first | with_reducible rfl | ((try dsimp only); (repeat' split) <;> simp)
@[simp] theorem ownSetTime_store_writing (day : BitVec 16) (second : BitVec 24) (s : State) : ((ownSetTime day second s).2).store.writing = s.store.writing := by unfold ownSetTime; first | with_reducible rfl | ((try dsimp only); (repeat' split) <;> simp)
@[simp] theorem ownSetTime_store_closeDates (day : BitVec 16) (second : BitVec 24) (s : State) : ((ownSetTime day second s).2).store.closeDates = s.store.closeDates := by unfold ownSetTime; first | with_reducible rfl | ((try dsimp only); (repeat' split) <;> simp)
@[simp] theorem ownSetTime_log_clearBusy (day : BitVec 16) (second : BitVec 24) (s : State) : ((ownSetTime day second s).2).log.clearBusy = s.log.clearBusy := by unfold ownSetTime; first | with_reducible rfl | ((try dsimp only); (repeat' split) <;> simp)
/-! ### ownClearProfile -/
@[simp] theorem ownClearProfile_store (s : State) : ((ownClearProfile s).2).store = s.store := by unfold ownClearProfile; first | with_reducible rfl | ((try dsimp only); (repeat' split) <;> simp)
@[simp] theorem ownClearProfile_clock (s : State) : ((ownClearProfile s).2).clock = s.clock := by unfold ownClearProfile; first | with_reducible rfl | ((try dsimp only); (repeat' split) <;> simp)
@[simp] theorem ownClearProfile_sub (s : State) : ((ownClearProfile s).2).sub = s.sub := by unfold ownClearProfile; first | with_reducible rfl | ((try dsimp only); (repeat' split) <;> simp)
@[simp] theorem ownClearProfile_due (s : State) : ((ownClearProfile s).2).due = s.due := by unfold ownClearProfile; first | with_reducible rfl | ((try dsimp only); (repeat' split) <;> simp)
@[simp] theorem ownClearProfile_chans (s : State) : ((ownClearProfile s).2).chans = s.chans := by unfold ownClearProfile; first | with_reducible rfl | ((try dsimp only); (repeat' split) <;> simp)
@[simp] theorem ownClearProfile_tot (s : State) : ((ownClearProfile s).2).tot = s.tot := by unfold ownClearProfile; first | with_reducible rfl | ((try dsimp only); (repeat' split) <;> simp)
@[simp] theorem ownClearProfile_dem (s : State) : ((ownClearProfile s).2).dem = s.dem := by unfold ownClearProfile; first | with_reducible rfl | ((try dsimp only); (repeat' split) <;> simp)
@[simp] theorem ownClearProfile_per (s : State) : ((ownClearProfile s).2).per = s.per := by unfold ownClearProfile; first | with_reducible rfl | ((try dsimp only); (repeat' split) <;> simp)
@[simp] theorem ownClearProfile_lim (s : State) : ((ownClearProfile s).2).lim = s.lim := by unfold ownClearProfile; first | with_reducible rfl | ((try dsimp only); (repeat' split) <;> simp)
@[simp] theorem ownClearProfile_util (s : State) : ((ownClearProfile s).2).util = s.util := by unfold ownClearProfile; first | with_reducible rfl | ((try dsimp only); (repeat' split) <;> simp)
@[simp] theorem ownClearProfile_cust (s : State) : ((ownClearProfile s).2).cust = s.cust := by unfold ownClearProfile; first | with_reducible rfl | ((try dsimp only); (repeat' split) <;> simp)
@[simp] theorem ownClearProfile_sup (s : State) : ((ownClearProfile s).2).sup = s.sup := by unfold ownClearProfile; first | with_reducible rfl | ((try dsimp only); (repeat' split) <;> simp)
@[simp] theorem ownClearProfile_pins (s : State) : ((ownClearProfile s).2).pins = s.pins := by unfold ownClearProfile; first | with_reducible rfl | ((try dsimp only); (repeat' split) <;> simp)
@[simp] theorem ownClearProfile_pending (s : State) : ((ownClearProfile s).2).pending = s.pending := by unfold ownClearProfile; first | with_reducible rfl | ((try dsimp only); (repeat' split) <;> simp)
@[simp] theorem ownClearProfile_free (s : State) : ((ownClearProfile s).2).free = s.free := by unfold ownClearProfile; first | with_reducible rfl | ((try dsimp only); (repeat' split) <;> simp)
@[simp] theorem ownClearProfile_log_records (s : State) : ((ownClearProfile s).2).log.records = s.log.records := by unfold ownClearProfile; first | with_reducible rfl | ((try dsimp only); (repeat' split) <;> simp)
@[simp] theorem ownClearProfile_log_nextSeq (s : State) : ((ownClearProfile s).2).log.nextSeq = s.log.nextSeq := by unfold ownClearProfile; first | with_reducible rfl | ((try dsimp only); (repeat' split) <;> simp)
/-! ### ownClearHistory -/
@[simp] theorem ownClearHistory_store (s : State) : ((ownClearHistory s).2).store = s.store := by unfold ownClearHistory; first | with_reducible rfl | ((try dsimp only); (repeat' split) <;> simp)
@[simp] theorem ownClearHistory_clock (s : State) : ((ownClearHistory s).2).clock = s.clock := by unfold ownClearHistory; first | with_reducible rfl | ((try dsimp only); (repeat' split) <;> simp)
@[simp] theorem ownClearHistory_sub (s : State) : ((ownClearHistory s).2).sub = s.sub := by unfold ownClearHistory; first | with_reducible rfl | ((try dsimp only); (repeat' split) <;> simp)
@[simp] theorem ownClearHistory_due (s : State) : ((ownClearHistory s).2).due = s.due := by unfold ownClearHistory; first | with_reducible rfl | ((try dsimp only); (repeat' split) <;> simp)
@[simp] theorem ownClearHistory_chans (s : State) : ((ownClearHistory s).2).chans = s.chans := by unfold ownClearHistory; first | with_reducible rfl | ((try dsimp only); (repeat' split) <;> simp)
@[simp] theorem ownClearHistory_tot (s : State) : ((ownClearHistory s).2).tot = s.tot := by unfold ownClearHistory; first | with_reducible rfl | ((try dsimp only); (repeat' split) <;> simp)
@[simp] theorem ownClearHistory_dem (s : State) : ((ownClearHistory s).2).dem = s.dem := by unfold ownClearHistory; first | with_reducible rfl | ((try dsimp only); (repeat' split) <;> simp)
@[simp] theorem ownClearHistory_log (s : State) : ((ownClearHistory s).2).log = s.log := by unfold ownClearHistory; first | with_reducible rfl | ((try dsimp only); (repeat' split) <;> simp)
@[simp] theorem ownClearHistory_lim (s : State) : ((ownClearHistory s).2).lim = s.lim := by unfold ownClearHistory; first | with_reducible rfl | ((try dsimp only); (repeat' split) <;> simp)
@[simp] theorem ownClearHistory_util (s : State) : ((ownClearHistory s).2).util = s.util := by unfold ownClearHistory; first | with_reducible rfl | ((try dsimp only); (repeat' split) <;> simp)
@[simp] theorem ownClearHistory_cust (s : State) : ((ownClearHistory s).2).cust = s.cust := by unfold ownClearHistory; first | with_reducible rfl | ((try dsimp only); (repeat' split) <;> simp)
@[simp] theorem ownClearHistory_sup (s : State) : ((ownClearHistory s).2).sup = s.sup := by unfold ownClearHistory; first | with_reducible rfl | ((try dsimp only); (repeat' split) <;> simp)
@[simp] theorem ownClearHistory_pins (s : State) : ((ownClearHistory s).2).pins = s.pins := by unfold ownClearHistory; first | with_reducible rfl | ((try dsimp only); (repeat' split) <;> simp)
@[simp] theorem ownClearHistory_pending (s : State) : ((ownClearHistory s).2).pending = s.pending := by unfold ownClearHistory; first | with_reducible rfl | ((try dsimp only); (repeat' split) <;> simp)
@[simp] theorem ownClearHistory_free (s : State) : ((ownClearHistory s).2).free = s.free := by unfold ownClearHistory; first | with_reducible rfl | ((try dsimp only); (repeat' split) <;> simp)
@[simp] theorem ownClearHistory_per_number (s : State) : ((ownClearHistory s).2).per.number = s.per.number := by unfold ownClearHistory; first | with_reducible rfl | ((try dsimp only); (repeat' split) <;> simp)
@[simp] theorem ownClearHistory_per_close (s : State) : ((ownClearHistory s).2).per.close = s.per.close := by unfold ownClearHistory; first | with_reducible rfl | ((try dsimp only); (repeat' split) <;> simp)
@[simp] theorem ownClearHistory_per_lockout (s : State) : ((ownClearHistory s).2).per.lockout = s.per.lockout := by unfold ownClearHistory; first | with_reducible rfl | ((try dsimp only); (repeat' split) <;> simp)
/-! ### ownSetLockMode -/
@[simp] theorem ownSetLockMode_clock (p : Port) (mode : Byte) (s : State) : ((ownSetLockMode p mode s).2).clock = s.clock := by unfold ownSetLockMode; first | with_reducible rfl | ((try dsimp only); (repeat' split) <;> simp)
@[simp] theorem ownSetLockMode_sub (p : Port) (mode : Byte) (s : State) : ((ownSetLockMode p mode s).2).sub = s.sub := by unfold ownSetLockMode; first | with_reducible rfl | ((try dsimp only); (repeat' split) <;> simp)
@[simp] theorem ownSetLockMode_due (p : Port) (mode : Byte) (s : State) : ((ownSetLockMode p mode s).2).due = s.due := by unfold ownSetLockMode; first | with_reducible rfl | ((try dsimp only); (repeat' split) <;> simp)
@[simp] theorem ownSetLockMode_chans (p : Port) (mode : Byte) (s : State) : ((ownSetLockMode p mode s).2).chans = s.chans := by unfold ownSetLockMode; first | with_reducible rfl | ((try dsimp only); (repeat' split) <;> simp)
@[simp] theorem ownSetLockMode_tot (p : Port) (mode : Byte) (s : State) : ((ownSetLockMode p mode s).2).tot = s.tot := by unfold ownSetLockMode; first | with_reducible rfl | ((try dsimp only); (repeat' split) <;> simp)
@[simp] theorem ownSetLockMode_dem (p : Port) (mode : Byte) (s : State) : ((ownSetLockMode p mode s).2).dem = s.dem := by unfold ownSetLockMode; first | with_reducible rfl | ((try dsimp only); (repeat' split) <;> simp)
@[simp] theorem ownSetLockMode_per (p : Port) (mode : Byte) (s : State) : ((ownSetLockMode p mode s).2).per = s.per := by unfold ownSetLockMode; first | with_reducible rfl | ((try dsimp only); (repeat' split) <;> simp)
@[simp] theorem ownSetLockMode_log (p : Port) (mode : Byte) (s : State) : ((ownSetLockMode p mode s).2).log = s.log := by unfold ownSetLockMode; first | with_reducible rfl | ((try dsimp only); (repeat' split) <;> simp)
@[simp] theorem ownSetLockMode_lim (p : Port) (mode : Byte) (s : State) : ((ownSetLockMode p mode s).2).lim = s.lim := by unfold ownSetLockMode; first | with_reducible rfl | ((try dsimp only); (repeat' split) <;> simp)
@[simp] theorem ownSetLockMode_util (p : Port) (mode : Byte) (s : State) : ((ownSetLockMode p mode s).2).util = s.util := by unfold ownSetLockMode; first | with_reducible rfl | ((try dsimp only); (repeat' split) <;> simp)
@[simp] theorem ownSetLockMode_cust (p : Port) (mode : Byte) (s : State) : ((ownSetLockMode p mode s).2).cust = s.cust := by unfold ownSetLockMode; first | with_reducible rfl | ((try dsimp only); (repeat' split) <;> simp)
@[simp] theorem ownSetLockMode_sup (p : Port) (mode : Byte) (s : State) : ((ownSetLockMode p mode s).2).sup = s.sup := by unfold ownSetLockMode; first | with_reducible rfl | ((try dsimp only); (repeat' split) <;> simp)
@[simp] theorem ownSetLockMode_pins (p : Port) (mode : Byte) (s : State) : ((ownSetLockMode p mode s).2).pins = s.pins := by unfold ownSetLockMode; first | with_reducible rfl | ((try dsimp only); (repeat' split) <;> simp)
@[simp] theorem ownSetLockMode_pending (p : Port) (mode : Byte) (s : State) : ((ownSetLockMode p mode s).2).pending = s.pending := by unfold ownSetLockMode; first | with_reducible rfl | ((try dsimp only); (repeat' split) <;> simp)
@[simp] theorem ownSetLockMode_free (p : Port) (mode : Byte) (s : State) : ((ownSetLockMode p mode s).2).free = s.free := by unfold ownSetLockMode; first | with_reducible rfl | ((try dsimp only); (repeat' split) <;> simp)
/-! ### lockChannel -/
@[simp] theorem lockChannel_clock (p : Port) (c : Fin 4) (s : State) : ((lockChannel p c s).2).clock = s.clock := by unfold lockChannel; first | with_reducible rfl | ((try dsimp only); (repeat' split) <;> simp)
@[simp] theorem lockChannel_sub (p : Port) (c : Fin 4) (s : State) : ((lockChannel p c s).2).sub = s.sub := by unfold lockChannel; first | with_reducible rfl | ((try dsimp only); (repeat' split) <;> simp)
@[simp] theorem lockChannel_due (p : Port) (c : Fin 4) (s : State) : ((lockChannel p c s).2).due = s.due := by unfold lockChannel; first | with_reducible rfl | ((try dsimp only); (repeat' split) <;> simp)
@[simp] theorem lockChannel_chans (p : Port) (c : Fin 4) (s : State) : ((lockChannel p c s).2).chans = s.chans := by unfold lockChannel; first | with_reducible rfl | ((try dsimp only); (repeat' split) <;> simp)
@[simp] theorem lockChannel_tot (p : Port) (c : Fin 4) (s : State) : ((lockChannel p c s).2).tot = s.tot := by unfold lockChannel; first | with_reducible rfl | ((try dsimp only); (repeat' split) <;> simp)
@[simp] theorem lockChannel_dem (p : Port) (c : Fin 4) (s : State) : ((lockChannel p c s).2).dem = s.dem := by unfold lockChannel; first | with_reducible rfl | ((try dsimp only); (repeat' split) <;> simp)
@[simp] theorem lockChannel_per (p : Port) (c : Fin 4) (s : State) : ((lockChannel p c s).2).per = s.per := by unfold lockChannel; first | with_reducible rfl | ((try dsimp only); (repeat' split) <;> simp)
@[simp] theorem lockChannel_log (p : Port) (c : Fin 4) (s : State) : ((lockChannel p c s).2).log = s.log := by unfold lockChannel; first | with_reducible rfl | ((try dsimp only); (repeat' split) <;> simp)
@[simp] theorem lockChannel_lim (p : Port) (c : Fin 4) (s : State) : ((lockChannel p c s).2).lim = s.lim := by unfold lockChannel; first | with_reducible rfl | ((try dsimp only); (repeat' split) <;> simp)
@[simp] theorem lockChannel_util (p : Port) (c : Fin 4) (s : State) : ((lockChannel p c s).2).util = s.util := by unfold lockChannel; first | with_reducible rfl | ((try dsimp only); (repeat' split) <;> simp)
@[simp] theorem lockChannel_cust (p : Port) (c : Fin 4) (s : State) : ((lockChannel p c s).2).cust = s.cust := by unfold lockChannel; first | with_reducible rfl | ((try dsimp only); (repeat' split) <;> simp)
@[simp] theorem lockChannel_sup (p : Port) (c : Fin 4) (s : State) : ((lockChannel p c s).2).sup = s.sup := by unfold lockChannel; first | with_reducible rfl | ((try dsimp only); (repeat' split) <;> simp)
@[simp] theorem lockChannel_pins (p : Port) (c : Fin 4) (s : State) : ((lockChannel p c s).2).pins = s.pins := by unfold lockChannel; first | with_reducible rfl | ((try dsimp only); (repeat' split) <;> simp)
@[simp] theorem lockChannel_pending (p : Port) (c : Fin 4) (s : State) : ((lockChannel p c s).2).pending = s.pending := by unfold lockChannel; first | with_reducible rfl | ((try dsimp only); (repeat' split) <;> simp)
@[simp] theorem lockChannel_free (p : Port) (c : Fin 4) (s : State) : ((lockChannel p c s).2).free = s.free := by unfold lockChannel; first | with_reducible rfl | ((try dsimp only); (repeat' split) <;> simp)
@[simp] theorem lockChannel_store_config (p : Port) (c : Fin 4) (s : State) : ((lockChannel p c s).2).store.config = s.store.config := by unfold lockChannel; first | with_reducible rfl | ((try dsimp only); (repeat' split) <;> simp)
@[simp] theorem lockChannel_store_closeDates (p : Port) (c : Fin 4) (s : State) : ((lockChannel p c s).2).store.closeDates = s.store.closeDates := by unfold lockChannel; first | with_reducible rfl | ((try dsimp only); (repeat' split) <;> simp)
@[simp] theorem lockChannel_store_active (p : Port) (c : Fin 4) (s : State) : ((lockChannel p c s).2).store.active = s.store.active := by unfold lockChannel; first | with_reducible rfl | ((try dsimp only); (repeat' split) <;> simp)
@[simp] theorem lockChannel_store_pendSched (p : Port) (c : Fin 4) (s : State) : ((lockChannel p c s).2).store.pendSched = s.store.pendSched := by unfold lockChannel; first | with_reducible rfl | ((try dsimp only); (repeat' split) <;> simp)
/-! ### ownLockCalibration -/
@[simp] theorem ownLockCalibration_clock (p : Port) (channel : Byte) (s : State) : ((ownLockCalibration p channel s).2).clock = s.clock := by unfold ownLockCalibration; first | with_reducible rfl | ((try dsimp only); (repeat' split) <;> simp)
@[simp] theorem ownLockCalibration_sub (p : Port) (channel : Byte) (s : State) : ((ownLockCalibration p channel s).2).sub = s.sub := by unfold ownLockCalibration; first | with_reducible rfl | ((try dsimp only); (repeat' split) <;> simp)
@[simp] theorem ownLockCalibration_due (p : Port) (channel : Byte) (s : State) : ((ownLockCalibration p channel s).2).due = s.due := by unfold ownLockCalibration; first | with_reducible rfl | ((try dsimp only); (repeat' split) <;> simp)
@[simp] theorem ownLockCalibration_chans (p : Port) (channel : Byte) (s : State) : ((ownLockCalibration p channel s).2).chans = s.chans := by unfold ownLockCalibration; first | with_reducible rfl | ((try dsimp only); (repeat' split) <;> simp)
@[simp] theorem ownLockCalibration_tot (p : Port) (channel : Byte) (s : State) : ((ownLockCalibration p channel s).2).tot = s.tot := by unfold ownLockCalibration; first | with_reducible rfl | ((try dsimp only); (repeat' split) <;> simp)
@[simp] theorem ownLockCalibration_dem (p : Port) (channel : Byte) (s : State) : ((ownLockCalibration p channel s).2).dem = s.dem := by unfold ownLockCalibration; first | with_reducible rfl | ((try dsimp only); (repeat' split) <;> simp)
@[simp] theorem ownLockCalibration_per (p : Port) (channel : Byte) (s : State) : ((ownLockCalibration p channel s).2).per = s.per := by unfold ownLockCalibration; first | with_reducible rfl | ((try dsimp only); (repeat' split) <;> simp)
@[simp] theorem ownLockCalibration_log (p : Port) (channel : Byte) (s : State) : ((ownLockCalibration p channel s).2).log = s.log := by unfold ownLockCalibration; first | with_reducible rfl | ((try dsimp only); (repeat' split) <;> simp)
@[simp] theorem ownLockCalibration_lim (p : Port) (channel : Byte) (s : State) : ((ownLockCalibration p channel s).2).lim = s.lim := by unfold ownLockCalibration; first | with_reducible rfl | ((try dsimp only); (repeat' split) <;> simp)
@[simp] theorem ownLockCalibration_util (p : Port) (channel : Byte) (s : State) : ((ownLockCalibration p channel s).2).util = s.util := by unfold ownLockCalibration; first | with_reducible rfl | ((try dsimp only); (repeat' split) <;> simp)
@[simp] theorem ownLockCalibration_cust (p : Port) (channel : Byte) (s : State) : ((ownLockCalibration p channel s).2).cust = s.cust := by unfold ownLockCalibration; first | with_reducible rfl | ((try dsimp only); (repeat' split) <;> simp)
@[simp] theorem ownLockCalibration_sup (p : Port) (channel : Byte) (s : State) : ((ownLockCalibration p channel s).2).sup = s.sup := by unfold ownLockCalibration; first | with_reducible rfl | ((try dsimp only); (repeat' split) <;> simp)
@[simp] theorem ownLockCalibration_pins (p : Port) (channel : Byte) (s : State) : ((ownLockCalibration p channel s).2).pins = s.pins := by unfold ownLockCalibration; first | with_reducible rfl | ((try dsimp only); (repeat' split) <;> simp)
@[simp] theorem ownLockCalibration_pending (p : Port) (channel : Byte) (s : State) : ((ownLockCalibration p channel s).2).pending = s.pending := by unfold ownLockCalibration; first | with_reducible rfl | ((try dsimp only); (repeat' split) <;> simp)
@[simp] theorem ownLockCalibration_free (p : Port) (channel : Byte) (s : State) : ((ownLockCalibration p channel s).2).free = s.free := by unfold ownLockCalibration; first | with_reducible rfl | ((try dsimp only); (repeat' split) <;> simp)
@[simp] theorem ownLockCalibration_store_config (p : Port) (channel : Byte) (s : State) : ((ownLockCalibration p channel s).2).store.config = s.store.config := by unfold ownLockCalibration; first | with_reducible rfl | ((try dsimp only); (repeat' split) <;> simp)
@[simp] theorem ownLockCalibration_store_closeDates (p : Port) (channel : Byte) (s : State) : ((ownLockCalibration p channel s).2).store.closeDates = s.store.closeDates := by unfold ownLockCalibration; first | with_reducible rfl | ((try dsimp only); (repeat' split) <;> simp)
@[simp] theorem ownLockCalibration_store_active (p : Port) (channel : Byte) (s : State) : ((ownLockCalibration p channel s).2).store.active = s.store.active := by unfold ownLockCalibration; first | with_reducible rfl | ((try dsimp only); (repeat' split) <;> simp)
@[simp] theorem ownLockCalibration_store_pendSched (p : Port) (channel : Byte) (s : State) : ((ownLockCalibration p channel s).2).store.pendSched = s.store.pendSched := by unfold ownLockCalibration; first | with_reducible rfl | ((try dsimp only); (repeat' split) <;> simp)

/-! ### whileRunning -/
@[simp] theorem whileRunning_store (f : State → State) (s : State) (h : (f s).store = s.store) : (whileRunning f s).store = s.store := by unfold whileRunning; split <;> simp [h]
@[simp] theorem whileRunning_clock (f : State → State) (s : State) (h : (f s).clock = s.clock) : (whileRunning f s).clock = s.clock := by unfold whileRunning; split <;> simp [h]
@[simp] theorem whileRunning_sub (f : State → State) (s : State) (h : (f s).sub = s.sub) : (whileRunning f s).sub = s.sub := by unfold whileRunning; split <;> simp [h]
@[simp] theorem whileRunning_due (f : State → State) (s : State) (h : (f s).due = s.due) : (whileRunning f s).due = s.due := by unfold whileRunning; split <;> simp [h]
@[simp] theorem whileRunning_chans (f : State → State) (s : State) (h : (f s).chans = s.chans) : (whileRunning f s).chans = s.chans := by unfold whileRunning; split <;> simp [h]
@[simp] theorem whileRunning_tot (f : State → State) (s : State) (h : (f s).tot = s.tot) : (whileRunning f s).tot = s.tot := by unfold whileRunning; split <;> simp [h]
@[simp] theorem whileRunning_dem (f : State → State) (s : State) (h : (f s).dem = s.dem) : (whileRunning f s).dem = s.dem := by unfold whileRunning; split <;> simp [h]
@[simp] theorem whileRunning_per (f : State → State) (s : State) (h : (f s).per = s.per) : (whileRunning f s).per = s.per := by unfold whileRunning; split <;> simp [h]
@[simp] theorem whileRunning_log (f : State → State) (s : State) (h : (f s).log = s.log) : (whileRunning f s).log = s.log := by unfold whileRunning; split <;> simp [h]
@[simp] theorem whileRunning_lim (f : State → State) (s : State) (h : (f s).lim = s.lim) : (whileRunning f s).lim = s.lim := by unfold whileRunning; split <;> simp [h]
@[simp] theorem whileRunning_util (f : State → State) (s : State) (h : (f s).util = s.util) : (whileRunning f s).util = s.util := by unfold whileRunning; split <;> simp [h]
@[simp] theorem whileRunning_cust (f : State → State) (s : State) (h : (f s).cust = s.cust) : (whileRunning f s).cust = s.cust := by unfold whileRunning; split <;> simp [h]
@[simp] theorem whileRunning_sup (f : State → State) (s : State) (h : (f s).sup = s.sup) : (whileRunning f s).sup = s.sup := by unfold whileRunning; split <;> simp [h]
@[simp] theorem whileRunning_pins (f : State → State) (s : State) (h : (f s).pins = s.pins) : (whileRunning f s).pins = s.pins := by unfold whileRunning; split <;> simp [h]
@[simp] theorem whileRunning_pending (f : State → State) (s : State) (h : (f s).pending = s.pending) : (whileRunning f s).pending = s.pending := by unfold whileRunning; split <;> simp [h]
@[simp] theorem whileRunning_free (f : State → State) (s : State) (h : (f s).free = s.free) : (whileRunning f s).free = s.free := by unfold whileRunning; split <;> simp [h]
/-! ### countStalls -/
@[simp] theorem countStalls_store (s : State) : (countStalls s).store = s.store := by unfold countStalls; first | with_reducible rfl | ((try dsimp only); (repeat' split) <;> simp)
@[simp] theorem countStalls_clock (s : State) : (countStalls s).clock = s.clock := by unfold countStalls; first | with_reducible rfl | ((try dsimp only); (repeat' split) <;> simp)
@[simp] theorem countStalls_tot (s : State) : (countStalls s).tot = s.tot := by unfold countStalls; first | with_reducible rfl | ((try dsimp only); (repeat' split) <;> simp)
@[simp] theorem countStalls_dem (s : State) : (countStalls s).dem = s.dem := by unfold countStalls; first | with_reducible rfl | ((try dsimp only); (repeat' split) <;> simp)
@[simp] theorem countStalls_per (s : State) : (countStalls s).per = s.per := by unfold countStalls; first | with_reducible rfl | ((try dsimp only); (repeat' split) <;> simp)
@[simp] theorem countStalls_log (s : State) : (countStalls s).log = s.log := by unfold countStalls; first | with_reducible rfl | ((try dsimp only); (repeat' split) <;> simp)
@[simp] theorem countStalls_lim (s : State) : (countStalls s).lim = s.lim := by unfold countStalls; first | with_reducible rfl | ((try dsimp only); (repeat' split) <;> simp)
@[simp] theorem countStalls_sup (s : State) : (countStalls s).sup = s.sup := by unfold countStalls; first | with_reducible rfl | ((try dsimp only); (repeat' split) <;> simp)
@[simp] theorem countStalls_pins (s : State) : (countStalls s).pins = s.pins := by unfold countStalls; first | with_reducible rfl | ((try dsimp only); (repeat' split) <;> simp)
@[simp] theorem countStalls_pending (s : State) : (countStalls s).pending = s.pending := by unfold countStalls; first | with_reducible rfl | ((try dsimp only); (repeat' split) <;> simp)
@[simp] theorem countStalls_free (s : State) : (countStalls s).free = s.free := by unfold countStalls; first | with_reducible rfl | ((try dsimp only); (repeat' split) <;> simp)
@[simp] theorem countStalls_sub_start (s : State) : (countStalls s).sub.start = s.sub.start := by unfold countStalls; first | with_reducible rfl | ((try dsimp only); (repeat' split) <;> simp)
@[simp] theorem countStalls_sub_nominalEnd (s : State) : (countStalls s).sub.nominalEnd = s.sub.nominalEnd := by unfold countStalls; first | with_reducible rfl | ((try dsimp only); (repeat' split) <;> simp)
@[simp] theorem countStalls_sub_elapsed (s : State) : (countStalls s).sub.elapsed = s.sub.elapsed := by unfold countStalls; first | with_reducible rfl | ((try dsimp only); (repeat' split) <;> simp)
@[simp] theorem countStalls_sub_rate (s : State) : (countStalls s).sub.rate = s.sub.rate := by unfold countStalls; first | with_reducible rfl | ((try dsimp only); (repeat' split) <;> simp)
/-! ### markHold -/
@[simp] theorem markHold_store (s : State) : (markHold s).store = s.store := by unfold markHold; first | with_reducible rfl | ((try dsimp only); (repeat' split) <;> simp)
@[simp] theorem markHold_clock (s : State) : (markHold s).clock = s.clock := by unfold markHold; first | with_reducible rfl | ((try dsimp only); (repeat' split) <;> simp)
@[simp] theorem markHold_due (s : State) : (markHold s).due = s.due := by unfold markHold; first | with_reducible rfl | ((try dsimp only); (repeat' split) <;> simp)
@[simp] theorem markHold_chans (s : State) : (markHold s).chans = s.chans := by unfold markHold; first | with_reducible rfl | ((try dsimp only); (repeat' split) <;> simp)
@[simp] theorem markHold_tot (s : State) : (markHold s).tot = s.tot := by unfold markHold; first | with_reducible rfl | ((try dsimp only); (repeat' split) <;> simp)
@[simp] theorem markHold_dem (s : State) : (markHold s).dem = s.dem := by unfold markHold; first | with_reducible rfl | ((try dsimp only); (repeat' split) <;> simp)
@[simp] theorem markHold_per (s : State) : (markHold s).per = s.per := by unfold markHold; first | with_reducible rfl | ((try dsimp only); (repeat' split) <;> simp)
@[simp] theorem markHold_log (s : State) : (markHold s).log = s.log := by unfold markHold; first | with_reducible rfl | ((try dsimp only); (repeat' split) <;> simp)
@[simp] theorem markHold_lim (s : State) : (markHold s).lim = s.lim := by unfold markHold; first | with_reducible rfl | ((try dsimp only); (repeat' split) <;> simp)
@[simp] theorem markHold_util (s : State) : (markHold s).util = s.util := by unfold markHold; first | with_reducible rfl | ((try dsimp only); (repeat' split) <;> simp)
@[simp] theorem markHold_cust (s : State) : (markHold s).cust = s.cust := by unfold markHold; first | with_reducible rfl | ((try dsimp only); (repeat' split) <;> simp)
@[simp] theorem markHold_sup (s : State) : (markHold s).sup = s.sup := by unfold markHold; first | with_reducible rfl | ((try dsimp only); (repeat' split) <;> simp)
@[simp] theorem markHold_pins (s : State) : (markHold s).pins = s.pins := by unfold markHold; first | with_reducible rfl | ((try dsimp only); (repeat' split) <;> simp)
@[simp] theorem markHold_pending (s : State) : (markHold s).pending = s.pending := by unfold markHold; first | with_reducible rfl | ((try dsimp only); (repeat' split) <;> simp)
@[simp] theorem markHold_free (s : State) : (markHold s).free = s.free := by unfold markHold; first | with_reducible rfl | ((try dsimp only); (repeat' split) <;> simp)
@[simp] theorem markHold_sub_start (s : State) : (markHold s).sub.start = s.sub.start := by unfold markHold; first | with_reducible rfl | ((try dsimp only); (repeat' split) <;> simp)
@[simp] theorem markHold_sub_nominalEnd (s : State) : (markHold s).sub.nominalEnd = s.sub.nominalEnd := by unfold markHold; first | with_reducible rfl | ((try dsimp only); (repeat' split) <;> simp)
@[simp] theorem markHold_sub_elapsed (s : State) : (markHold s).sub.elapsed = s.sub.elapsed := by unfold markHold; first | with_reducible rfl | ((try dsimp only); (repeat' split) <;> simp)
@[simp] theorem markHold_sub_rate (s : State) : (markHold s).sub.rate = s.sub.rate := by unfold markHold; first | with_reducible rfl | ((try dsimp only); (repeat' split) <;> simp)
/-! ### takeEnd -/
@[simp] theorem takeEnd_due (s : State) : (takeEnd s).due = s.due := by unfold takeEnd; first | with_reducible rfl | ((try dsimp only); (repeat' split) <;> simp)
@[simp] theorem takeEnd_per (s : State) : (takeEnd s).per = s.per := by unfold takeEnd; first | with_reducible rfl | ((try dsimp only); (repeat' split) <;> simp)
@[simp] theorem takeEnd_sup (s : State) : (takeEnd s).sup = s.sup := by unfold takeEnd; first | with_reducible rfl | ((try dsimp only); (repeat' split) <;> simp)
@[simp] theorem takeEnd_pins (s : State) : (takeEnd s).pins = s.pins := by unfold takeEnd; first | with_reducible rfl | ((try dsimp only); (repeat' split) <;> simp)
@[simp] theorem takeEnd_pending (s : State) : (takeEnd s).pending = s.pending := by unfold takeEnd; first | with_reducible rfl | ((try dsimp only); (repeat' split) <;> simp)
@[simp] theorem takeEnd_free (s : State) : (takeEnd s).free = s.free := by unfold takeEnd; first | with_reducible rfl | ((try dsimp only); (repeat' split) <;> simp)
@[simp] theorem takeEnd_store_config (s : State) : (takeEnd s).store.config = s.store.config := by unfold takeEnd; first | with_reducible rfl | ((try dsimp only); (repeat' split) <;> simp)
@[simp] theorem takeEnd_store_writing (s : State) : (takeEnd s).store.writing = s.store.writing := by unfold takeEnd; first | with_reducible rfl | ((try dsimp only); (repeat' split) <;> simp)
@[simp] theorem takeEnd_store_closeDates (s : State) : (takeEnd s).store.closeDates = s.store.closeDates := by unfold takeEnd; first | with_reducible rfl | ((try dsimp only); (repeat' split) <;> simp)
@[simp] theorem takeEnd_clock_now (s : State) : (takeEnd s).clock.now = s.clock.now := by unfold takeEnd; first | with_reducible rfl | ((try dsimp only); (repeat' split) <;> simp)
@[simp] theorem takeEnd_clock_timeValid (s : State) : (takeEnd s).clock.timeValid = s.clock.timeValid := by unfold takeEnd; first | with_reducible rfl | ((try dsimp only); (repeat' split) <;> simp)
@[simp] theorem takeEnd_log_clearBusy (s : State) : (takeEnd s).log.clearBusy = s.log.clearBusy := by unfold takeEnd; first | with_reducible rfl | ((try dsimp only); (repeat' split) <;> simp)
/-! ### secondTaken -/
@[simp] theorem secondTaken_pins (closeFirst : Bool) (s : State) : (secondTaken closeFirst s).pins = s.pins := by unfold secondTaken; first | with_reducible rfl | ((try dsimp only); (repeat' split) <;> simp)
@[simp] theorem secondTaken_pending (closeFirst : Bool) (s : State) : (secondTaken closeFirst s).pending = s.pending := by unfold secondTaken; first | with_reducible rfl | ((try dsimp only); (repeat' split) <;> simp)
@[simp] theorem secondTaken_store_config (closeFirst : Bool) (s : State) : (secondTaken closeFirst s).store.config = s.store.config := by unfold secondTaken; first | with_reducible rfl | ((try dsimp only); (repeat' split) <;> simp)
@[simp] theorem secondTaken_store_writing (closeFirst : Bool) (s : State) : (secondTaken closeFirst s).store.writing = s.store.writing := by unfold secondTaken; first | with_reducible rfl | ((try dsimp only); (repeat' split) <;> simp)
@[simp] theorem secondTaken_store_closeDates (closeFirst : Bool) (s : State) : (secondTaken closeFirst s).store.closeDates = s.store.closeDates := by unfold secondTaken; first | with_reducible rfl | ((try dsimp only); (repeat' split) <;> simp)
@[simp] theorem secondTaken_clock_timeValid (closeFirst : Bool) (s : State) : (secondTaken closeFirst s).clock.timeValid = s.clock.timeValid := by unfold secondTaken; first | with_reducible rfl | ((try dsimp only); (repeat' split) <;> simp)
@[simp] theorem secondTaken_per_history (closeFirst : Bool) (s : State) : (secondTaken closeFirst s).per.history = s.per.history := by unfold secondTaken; first | with_reducible rfl | ((try dsimp only); (repeat' split) <;> simp)
@[simp] theorem secondTaken_log_clearBusy (closeFirst : Bool) (s : State) : (secondTaken closeFirst s).log.clearBusy = s.log.clearBusy := by unfold secondTaken; first | with_reducible rfl | ((try dsimp only); (repeat' split) <;> simp)
@[simp] theorem secondTaken_sup_hold (closeFirst : Bool) (s : State) : (secondTaken closeFirst s).sup.hold = s.sup.hold := by unfold secondTaken; first | with_reducible rfl | ((try dsimp only); (repeat' split) <;> simp)
@[simp] theorem secondTaken_sup_mainSupply (closeFirst : Bool) (s : State) : (secondTaken closeFirst s).sup.mainSupply = s.sup.mainSupply := by unfold secondTaken; first | with_reducible rfl | ((try dsimp only); (repeat' split) <;> simp)
/-! ### secondStep -/
@[simp] theorem secondStep_pins (closeFirst : Bool) (s : State) : (secondStep closeFirst s).pins = s.pins := by unfold secondStep; first | with_reducible rfl | ((try dsimp only); (repeat' split) <;> simp)
@[simp] theorem secondStep_pending (closeFirst : Bool) (s : State) : (secondStep closeFirst s).pending = s.pending := by unfold secondStep; first | with_reducible rfl | ((try dsimp only); (repeat' split) <;> simp)
@[simp] theorem secondStep_store_config (closeFirst : Bool) (s : State) : (secondStep closeFirst s).store.config = s.store.config := by unfold secondStep; first | with_reducible rfl | ((try dsimp only); (repeat' split) <;> simp)
@[simp] theorem secondStep_store_writing (closeFirst : Bool) (s : State) : (secondStep closeFirst s).store.writing = s.store.writing := by unfold secondStep; first | with_reducible rfl | ((try dsimp only); (repeat' split) <;> simp)
@[simp] theorem secondStep_store_closeDates (closeFirst : Bool) (s : State) : (secondStep closeFirst s).store.closeDates = s.store.closeDates := by unfold secondStep; first | with_reducible rfl | ((try dsimp only); (repeat' split) <;> simp)
@[simp] theorem secondStep_clock_timeValid (closeFirst : Bool) (s : State) : (secondStep closeFirst s).clock.timeValid = s.clock.timeValid := by unfold secondStep; first | with_reducible rfl | ((try dsimp only); (repeat' split) <;> simp)
@[simp] theorem secondStep_per_history (closeFirst : Bool) (s : State) : (secondStep closeFirst s).per.history = s.per.history := by unfold secondStep; first | with_reducible rfl | ((try dsimp only); (repeat' split) <;> simp)
@[simp] theorem secondStep_log_clearBusy (closeFirst : Bool) (s : State) : (secondStep closeFirst s).log.clearBusy = s.log.clearBusy := by unfold secondStep; first | with_reducible rfl | ((try dsimp only); (repeat' split) <;> simp)
@[simp] theorem secondStep_sup_hold (closeFirst : Bool) (s : State) : (secondStep closeFirst s).sup.hold = s.sup.hold := by unfold secondStep; first | with_reducible rfl | ((try dsimp only); (repeat' split) <;> simp)
@[simp] theorem secondStep_sup_mainSupply (closeFirst : Bool) (s : State) : (secondStep closeFirst s).sup.mainSupply = s.sup.mainSupply := by unfold secondStep; first | with_reducible rfl | ((try dsimp only); (repeat' split) <;> simp)
/-! ### syncPulse -/
@[simp] theorem syncPulse_due (s : State) : (syncPulse s).due = s.due := by unfold syncPulse; first | with_reducible rfl | ((try dsimp only); (repeat' split) <;> simp)
@[simp] theorem syncPulse_per (s : State) : (syncPulse s).per = s.per := by unfold syncPulse; first | with_reducible rfl | ((try dsimp only); (repeat' split) <;> simp)
@[simp] theorem syncPulse_sup (s : State) : (syncPulse s).sup = s.sup := by unfold syncPulse; first | with_reducible rfl | ((try dsimp only); (repeat' split) <;> simp)
@[simp] theorem syncPulse_pending (s : State) : (syncPulse s).pending = s.pending := by unfold syncPulse; first | with_reducible rfl | ((try dsimp only); (repeat' split) <;> simp)
@[simp] theorem syncPulse_free (s : State) : (syncPulse s).free = s.free := by unfold syncPulse; first | with_reducible rfl | ((try dsimp only); (repeat' split) <;> simp)
@[simp] theorem syncPulse_store_config (s : State) : (syncPulse s).store.config = s.store.config := by unfold syncPulse; first | with_reducible rfl | ((try dsimp only); (repeat' split) <;> simp)
@[simp] theorem syncPulse_store_writing (s : State) : (syncPulse s).store.writing = s.store.writing := by unfold syncPulse; first | with_reducible rfl | ((try dsimp only); (repeat' split) <;> simp)
@[simp] theorem syncPulse_store_closeDates (s : State) : (syncPulse s).store.closeDates = s.store.closeDates := by unfold syncPulse; first | with_reducible rfl | ((try dsimp only); (repeat' split) <;> simp)
@[simp] theorem syncPulse_clock_now (s : State) : (syncPulse s).clock.now = s.clock.now := by unfold syncPulse; first | with_reducible rfl | ((try dsimp only); (repeat' split) <;> simp)
@[simp] theorem syncPulse_clock_timeValid (s : State) : (syncPulse s).clock.timeValid = s.clock.timeValid := by unfold syncPulse; first | with_reducible rfl | ((try dsimp only); (repeat' split) <;> simp)
@[simp] theorem syncPulse_log_clearBusy (s : State) : (syncPulse s).log.clearBusy = s.log.clearBusy := by unfold syncPulse; first | with_reducible rfl | ((try dsimp only); (repeat' split) <;> simp)
/-! ### buttonPress -/
@[simp] theorem buttonPress_store (s : State) : (buttonPress s).store = s.store := by unfold buttonPress; first | with_reducible rfl | ((try dsimp only); (repeat' split) <;> simp)
@[simp] theorem buttonPress_clock (s : State) : (buttonPress s).clock = s.clock := by unfold buttonPress; first | with_reducible rfl | ((try dsimp only); (repeat' split) <;> simp)
@[simp] theorem buttonPress_sub (s : State) : (buttonPress s).sub = s.sub := by unfold buttonPress; first | with_reducible rfl | ((try dsimp only); (repeat' split) <;> simp)
@[simp] theorem buttonPress_due (s : State) : (buttonPress s).due = s.due := by unfold buttonPress; first | with_reducible rfl | ((try dsimp only); (repeat' split) <;> simp)
@[simp] theorem buttonPress_chans (s : State) : (buttonPress s).chans = s.chans := by unfold buttonPress; first | with_reducible rfl | ((try dsimp only); (repeat' split) <;> simp)
@[simp] theorem buttonPress_lim (s : State) : (buttonPress s).lim = s.lim := by unfold buttonPress; first | with_reducible rfl | ((try dsimp only); (repeat' split) <;> simp)
@[simp] theorem buttonPress_sup (s : State) : (buttonPress s).sup = s.sup := by unfold buttonPress; first | with_reducible rfl | ((try dsimp only); (repeat' split) <;> simp)
@[simp] theorem buttonPress_pending (s : State) : (buttonPress s).pending = s.pending := by unfold buttonPress; first | with_reducible rfl | ((try dsimp only); (repeat' split) <;> simp)
@[simp] theorem buttonPress_free (s : State) : (buttonPress s).free = s.free := by unfold buttonPress; first | with_reducible rfl | ((try dsimp only); (repeat' split) <;> simp)
@[simp] theorem buttonPress_tot_lastSeq (s : State) : (buttonPress s).tot.lastSeq = s.tot.lastSeq := by unfold buttonPress; first | with_reducible rfl | ((try dsimp only); (repeat' split) <;> simp)
@[simp] theorem buttonPress_tot_acc (s : State) : (buttonPress s).tot.acc = s.tot.acc := by unfold buttonPress; first | with_reducible rfl | ((try dsimp only); (repeat' split) <;> simp)
@[simp] theorem buttonPress_dem_ring (s : State) : (buttonPress s).dem.ring = s.dem.ring := by unfold buttonPress; first | with_reducible rfl | ((try dsimp only); (repeat' split) <;> simp)
@[simp] theorem buttonPress_dem_window (s : State) : (buttonPress s).dem.window = s.dem.window := by unfold buttonPress; first | with_reducible rfl | ((try dsimp only); (repeat' split) <;> simp)
@[simp] theorem buttonPress_dem_pickup (s : State) : (buttonPress s).dem.pickup = s.dem.pickup := by unfold buttonPress; first | with_reducible rfl | ((try dsimp only); (repeat' split) <;> simp)
@[simp] theorem buttonPress_per_history (s : State) : (buttonPress s).per.history = s.per.history := by unfold buttonPress; first | with_reducible rfl | ((try dsimp only); (repeat' split) <;> simp)
@[simp] theorem buttonPress_log_clearBusy (s : State) : (buttonPress s).log.clearBusy = s.log.clearBusy := by unfold buttonPress; first | with_reducible rfl | ((try dsimp only); (repeat' split) <;> simp)
/-! ### finishReading -/
@[simp] theorem finishReading_store (p : Port) (k : Nat) (s : State) : (finishReading p k s).store = s.store := by unfold finishReading; first | with_reducible rfl | ((try dsimp only); (repeat' split) <;> simp)
@[simp] theorem finishReading_clock (p : Port) (k : Nat) (s : State) : (finishReading p k s).clock = s.clock := by unfold finishReading; first | with_reducible rfl | ((try dsimp only); (repeat' split) <;> simp)
@[simp] theorem finishReading_sub (p : Port) (k : Nat) (s : State) : (finishReading p k s).sub = s.sub := by unfold finishReading; first | with_reducible rfl | ((try dsimp only); (repeat' split) <;> simp)
@[simp] theorem finishReading_due (p : Port) (k : Nat) (s : State) : (finishReading p k s).due = s.due := by unfold finishReading; first | with_reducible rfl | ((try dsimp only); (repeat' split) <;> simp)
@[simp] theorem finishReading_chans (p : Port) (k : Nat) (s : State) : (finishReading p k s).chans = s.chans := by unfold finishReading; first | with_reducible rfl | ((try dsimp only); (repeat' split) <;> simp)
@[simp] theorem finishReading_tot (p : Port) (k : Nat) (s : State) : (finishReading p k s).tot = s.tot := by unfold finishReading; first | with_reducible rfl | ((try dsimp only); (repeat' split) <;> simp)
@[simp] theorem finishReading_dem (p : Port) (k : Nat) (s : State) : (finishReading p k s).dem = s.dem := by unfold finishReading; first | with_reducible rfl | ((try dsimp only); (repeat' split) <;> simp)
@[simp] theorem finishReading_per (p : Port) (k : Nat) (s : State) : (finishReading p k s).per = s.per := by unfold finishReading; first | with_reducible rfl | ((try dsimp only); (repeat' split) <;> simp)
@[simp] theorem finishReading_log (p : Port) (k : Nat) (s : State) : (finishReading p k s).log = s.log := by unfold finishReading; first | with_reducible rfl | ((try dsimp only); (repeat' split) <;> simp)
@[simp] theorem finishReading_lim (p : Port) (k : Nat) (s : State) : (finishReading p k s).lim = s.lim := by unfold finishReading; first | with_reducible rfl | ((try dsimp only); (repeat' split) <;> simp)
@[simp] theorem finishReading_sup (p : Port) (k : Nat) (s : State) : (finishReading p k s).sup = s.sup := by unfold finishReading; first | with_reducible rfl | ((try dsimp only); (repeat' split) <;> simp)
@[simp] theorem finishReading_pins (p : Port) (k : Nat) (s : State) : (finishReading p k s).pins = s.pins := by unfold finishReading; first | with_reducible rfl | ((try dsimp only); (repeat' split) <;> simp)
@[simp] theorem finishReading_pending (p : Port) (k : Nat) (s : State) : (finishReading p k s).pending = s.pending := by unfold finishReading; first | with_reducible rfl | ((try dsimp only); (repeat' split) <;> simp)
@[simp] theorem finishReading_free (p : Port) (k : Nat) (s : State) : (finishReading p k s).free = s.free := by unfold finishReading; first | with_reducible rfl | ((try dsimp only); (repeat' split) <;> simp)
/-! ### portReset -/
@[simp] theorem portReset_store (p : Port) (s : State) : (portReset p s).store = s.store := by unfold portReset; first | with_reducible rfl | ((try dsimp only); (repeat' split) <;> simp)
@[simp] theorem portReset_clock (p : Port) (s : State) : (portReset p s).clock = s.clock := by unfold portReset; first | with_reducible rfl | ((try dsimp only); (repeat' split) <;> simp)
@[simp] theorem portReset_sub (p : Port) (s : State) : (portReset p s).sub = s.sub := by unfold portReset; first | with_reducible rfl | ((try dsimp only); (repeat' split) <;> simp)
@[simp] theorem portReset_due (p : Port) (s : State) : (portReset p s).due = s.due := by unfold portReset; first | with_reducible rfl | ((try dsimp only); (repeat' split) <;> simp)
@[simp] theorem portReset_chans (p : Port) (s : State) : (portReset p s).chans = s.chans := by unfold portReset; first | with_reducible rfl | ((try dsimp only); (repeat' split) <;> simp)
@[simp] theorem portReset_tot (p : Port) (s : State) : (portReset p s).tot = s.tot := by unfold portReset; first | with_reducible rfl | ((try dsimp only); (repeat' split) <;> simp)
@[simp] theorem portReset_dem (p : Port) (s : State) : (portReset p s).dem = s.dem := by unfold portReset; first | with_reducible rfl | ((try dsimp only); (repeat' split) <;> simp)
@[simp] theorem portReset_per (p : Port) (s : State) : (portReset p s).per = s.per := by unfold portReset; first | with_reducible rfl | ((try dsimp only); (repeat' split) <;> simp)
@[simp] theorem portReset_log (p : Port) (s : State) : (portReset p s).log = s.log := by unfold portReset; first | with_reducible rfl | ((try dsimp only); (repeat' split) <;> simp)
@[simp] theorem portReset_lim (p : Port) (s : State) : (portReset p s).lim = s.lim := by unfold portReset; first | with_reducible rfl | ((try dsimp only); (repeat' split) <;> simp)
@[simp] theorem portReset_sup (p : Port) (s : State) : (portReset p s).sup = s.sup := by unfold portReset; first | with_reducible rfl | ((try dsimp only); (repeat' split) <;> simp)
@[simp] theorem portReset_pins (p : Port) (s : State) : (portReset p s).pins = s.pins := by unfold portReset; first | with_reducible rfl | ((try dsimp only); (repeat' split) <;> simp)
@[simp] theorem portReset_pending (p : Port) (s : State) : (portReset p s).pending = s.pending := by unfold portReset; first | with_reducible rfl | ((try dsimp only); (repeat' split) <;> simp)
@[simp] theorem portReset_free (p : Port) (s : State) : (portReset p s).free = s.free := by unfold portReset; first | with_reducible rfl | ((try dsimp only); (repeat' split) <;> simp)
/-! ### storeCompletion -/
@[simp] theorem storeCompletion_due (s : State) : (storeCompletion s).due = s.due := by unfold storeCompletion; first | with_reducible rfl | ((try dsimp only); (repeat' split) <;> simp)
@[simp] theorem storeCompletion_per (s : State) : (storeCompletion s).per = s.per := by unfold storeCompletion; first | with_reducible rfl | ((try dsimp only); (repeat' split) <;> simp)
@[simp] theorem storeCompletion_sup (s : State) : (storeCompletion s).sup = s.sup := by unfold storeCompletion; first | with_reducible rfl | ((try dsimp only); (repeat' split) <;> simp)
@[simp] theorem storeCompletion_pins (s : State) : (storeCompletion s).pins = s.pins := by unfold storeCompletion; first | with_reducible rfl | ((try dsimp only); (repeat' split) <;> simp)
@[simp] theorem storeCompletion_pending (s : State) : (storeCompletion s).pending = s.pending := by unfold storeCompletion; first | with_reducible rfl | ((try dsimp only); (repeat' split) <;> simp)
@[simp] theorem storeCompletion_free (s : State) : (storeCompletion s).free = s.free := by unfold storeCompletion; first | with_reducible rfl | ((try dsimp only); (repeat' split) <;> simp)
/-! ### closeCompletion -/
@[simp] theorem closeCompletion_store (s : State) : (closeCompletion s).store = s.store := by unfold closeCompletion; first | with_reducible rfl | ((try dsimp only); (repeat' split) <;> simp)
@[simp] theorem closeCompletion_clock (s : State) : (closeCompletion s).clock = s.clock := by unfold closeCompletion; first | with_reducible rfl | ((try dsimp only); (repeat' split) <;> simp)
@[simp] theorem closeCompletion_sub (s : State) : (closeCompletion s).sub = s.sub := by unfold closeCompletion; first | with_reducible rfl | ((try dsimp only); (repeat' split) <;> simp)
@[simp] theorem closeCompletion_due (s : State) : (closeCompletion s).due = s.due := by unfold closeCompletion; first | with_reducible rfl | ((try dsimp only); (repeat' split) <;> simp)
@[simp] theorem closeCompletion_chans (s : State) : (closeCompletion s).chans = s.chans := by unfold closeCompletion; first | with_reducible rfl | ((try dsimp only); (repeat' split) <;> simp)
@[simp] theorem closeCompletion_lim (s : State) : (closeCompletion s).lim = s.lim := by unfold closeCompletion; first | with_reducible rfl | ((try dsimp only); (repeat' split) <;> simp)
@[simp] theorem closeCompletion_sup (s : State) : (closeCompletion s).sup = s.sup := by unfold closeCompletion; first | with_reducible rfl | ((try dsimp only); (repeat' split) <;> simp)
@[simp] theorem closeCompletion_pins (s : State) : (closeCompletion s).pins = s.pins := by unfold closeCompletion; first | with_reducible rfl | ((try dsimp only); (repeat' split) <;> simp)
@[simp] theorem closeCompletion_pending (s : State) : (closeCompletion s).pending = s.pending := by unfold closeCompletion; first | with_reducible rfl | ((try dsimp only); (repeat' split) <;> simp)
@[simp] theorem closeCompletion_free (s : State) : (closeCompletion s).free = s.free := by unfold closeCompletion; first | with_reducible rfl | ((try dsimp only); (repeat' split) <;> simp)
@[simp] theorem closeCompletion_tot_lastSeq (s : State) : (closeCompletion s).tot.lastSeq = s.tot.lastSeq := by unfold closeCompletion; first | with_reducible rfl | ((try dsimp only); (repeat' split) <;> simp)
@[simp] theorem closeCompletion_tot_acc (s : State) : (closeCompletion s).tot.acc = s.tot.acc := by unfold closeCompletion; first | with_reducible rfl | ((try dsimp only); (repeat' split) <;> simp)
@[simp] theorem closeCompletion_dem_ring (s : State) : (closeCompletion s).dem.ring = s.dem.ring := by unfold closeCompletion; first | with_reducible rfl | ((try dsimp only); (repeat' split) <;> simp)
@[simp] theorem closeCompletion_dem_window (s : State) : (closeCompletion s).dem.window = s.dem.window := by unfold closeCompletion; first | with_reducible rfl | ((try dsimp only); (repeat' split) <;> simp)
@[simp] theorem closeCompletion_dem_pickup (s : State) : (closeCompletion s).dem.pickup = s.dem.pickup := by unfold closeCompletion; first | with_reducible rfl | ((try dsimp only); (repeat' split) <;> simp)
@[simp] theorem closeCompletion_log_clearBusy (s : State) : (closeCompletion s).log.clearBusy = s.log.clearBusy := by unfold closeCompletion; first | with_reducible rfl | ((try dsimp only); (repeat' split) <;> simp)
/-! ### previewCompletion -/
@[simp] theorem previewCompletion_store (p : Port) (s : State) : (previewCompletion p s).store = s.store := by unfold previewCompletion; first | with_reducible rfl | ((try dsimp only); (repeat' split) <;> simp)
@[simp] theorem previewCompletion_clock (p : Port) (s : State) : (previewCompletion p s).clock = s.clock := by unfold previewCompletion; first | with_reducible rfl | ((try dsimp only); (repeat' split) <;> simp)
@[simp] theorem previewCompletion_sub (p : Port) (s : State) : (previewCompletion p s).sub = s.sub := by unfold previewCompletion; first | with_reducible rfl | ((try dsimp only); (repeat' split) <;> simp)
@[simp] theorem previewCompletion_due (p : Port) (s : State) : (previewCompletion p s).due = s.due := by unfold previewCompletion; first | with_reducible rfl | ((try dsimp only); (repeat' split) <;> simp)
@[simp] theorem previewCompletion_chans (p : Port) (s : State) : (previewCompletion p s).chans = s.chans := by unfold previewCompletion; first | with_reducible rfl | ((try dsimp only); (repeat' split) <;> simp)
@[simp] theorem previewCompletion_tot (p : Port) (s : State) : (previewCompletion p s).tot = s.tot := by unfold previewCompletion; first | with_reducible rfl | ((try dsimp only); (repeat' split) <;> simp)
@[simp] theorem previewCompletion_dem (p : Port) (s : State) : (previewCompletion p s).dem = s.dem := by unfold previewCompletion; first | with_reducible rfl | ((try dsimp only); (repeat' split) <;> simp)
@[simp] theorem previewCompletion_per (p : Port) (s : State) : (previewCompletion p s).per = s.per := by unfold previewCompletion; first | with_reducible rfl | ((try dsimp only); (repeat' split) <;> simp)
@[simp] theorem previewCompletion_log (p : Port) (s : State) : (previewCompletion p s).log = s.log := by unfold previewCompletion; first | with_reducible rfl | ((try dsimp only); (repeat' split) <;> simp)
@[simp] theorem previewCompletion_lim (p : Port) (s : State) : (previewCompletion p s).lim = s.lim := by unfold previewCompletion; first | with_reducible rfl | ((try dsimp only); (repeat' split) <;> simp)
@[simp] theorem previewCompletion_sup (p : Port) (s : State) : (previewCompletion p s).sup = s.sup := by unfold previewCompletion; first | with_reducible rfl | ((try dsimp only); (repeat' split) <;> simp)
@[simp] theorem previewCompletion_pins (p : Port) (s : State) : (previewCompletion p s).pins = s.pins := by unfold previewCompletion; first | with_reducible rfl | ((try dsimp only); (repeat' split) <;> simp)
@[simp] theorem previewCompletion_pending (p : Port) (s : State) : (previewCompletion p s).pending = s.pending := by unfold previewCompletion; first | with_reducible rfl | ((try dsimp only); (repeat' split) <;> simp)
@[simp] theorem previewCompletion_free (p : Port) (s : State) : (previewCompletion p s).free = s.free := by unfold previewCompletion; first | with_reducible rfl | ((try dsimp only); (repeat' split) <;> simp)

end Sys2Proof.Machine
end

