-- ==== Sys2Proof/Laws/Operations.lean ====
section
/-! SUPPORT. What each shared operation can do, said once: the square root, saturation, the sums of a
close, the writing of the log, the raising of flags, the checks and ends of a transaction. -/

namespace Sys2Proof.Machine

/-! ### Arithmetic (R12, R66, R67) -/

/-- A saturated energy is the number, or the largest value where the number is larger (R12, R50). -/
theorem satEnergy_toNat (n : Nat) : (satEnergy n).toNat = min n (2 ^ 64 - 1) := by
  unfold satEnergy
  rw [BitVec.toNat_ofNat, Nat.mod_eq_of_lt (by omega)]

/-- A demand is within its cap (R66). -/
theorem demandOf_le (energy t : Nat) : demandOf energy t ≤ demandCap := Nat.min_le_left _ _

/-- The root from bit n − 1 down stays a root: at or below, and within 2^n of, the true one. -/
theorem sqrtFrom_spec (x : Nat) : ∀ n acc, acc * acc ≤ x → x < (acc + 2 ^ n) * (acc + 2 ^ n) →
    sqrtFrom x n acc * sqrtFrom x n acc ≤ x ∧ x < (sqrtFrom x n acc + 1) * (sqrtFrom x n acc + 1)
  | 0, acc, hlo, hhi => ⟨hlo, by simpa [sqrtFrom] using hhi⟩
  | n + 1, acc, hlo, hhi => by
    unfold sqrtFrom
    split
    · refine sqrtFrom_spec x n _ (by assumption) ?_
      rwa [Nat.add_assoc, ← Nat.two_mul, ← Nat.pow_succ']
    · exact sqrtFrom_spec x n _ hlo (by omega)

/-- The root of a number below 2^66 is the largest integer whose square does not exceed it (R67). -/
theorem isqrt_spec (x : Nat) (h : x < 2 ^ 66) : isqrt x * isqrt x ≤ x ∧ x < (isqrt x + 1) * (isqrt x + 1) :=
  sqrtFrom_spec x 33 0 (Nat.zero_le x) (lt_of_lt_of_eq h (by norm_num))

/-! ### Flags (R175, R176) -/

/-- A flag raised in the unit of one port: it is pending there, and nothing else is changed. -/
theorem State.raiseOn_has (s : State) (p q : Port) (f g : AttnFlag) :
    ((s.raiseOn p f).port q).attn.has g = ((s.port q).attn.has g || decide (q = p ∧ g = f)) := by
  cases p <;> cases q <;>
    simp [State.raiseOn, State.port, State.setPort, State.setUtil, State.setCust, AttentionUnit.has_raise]

/-- A flag raised: it is pending in both units, and the others are as they were (R175). -/
theorem State.raise_has (s : State) (q : Port) (f g : AttnFlag) :
    ((s.raise f).port q).attn.has g = ((s.port q).attn.has g || decide (g = f)) := by
  rw [State.raise, State.raiseOn_has, State.raiseOn_has]
  cases q <;> simp

/-! ### Stalls (R4, R7) -/

/-- The channel that enters STALLED: it keeps its energies and residues, and holds an expected number. -/
theorem enterStalled_chans (c : Fin 4) (s : State) : (enterStalled c s).chans = s.chans.set c
    { s.chans.get c with
      state := .stalled
      expected := (s.chans.get c).expectedStalled (unheardExpected s.free)
      timer := (s.chans.get c).timer + 1 } := by
  simp [enterStalled]

/-- A channel that stalls out of another state than WAITING draws no free value. -/
theorem enterStalled_free (c : Fin 4) {s : State} (h : (s.chans.get c).state ≠ .waiting) : (enterStalled c s).free = s.free := by
  unfold enterStalled
  cases hs : (s.chans.get c).state <;> simp_all [Channel.drawnStalled]

/-- Out of WAITING a channel holds the number drawn, and otherwise the one it held (assumption 16). -/
@[simp] theorem Channel.expectedStalled_waiting {ch : Channel} (d : BitVec 4) (h : ch.state = .waiting) :
    ch.expectedStalled d = some d := by simp [Channel.expectedStalled, h]
@[simp] theorem Channel.expectedStalled_active {ch : Channel} (d : BitVec 4) (h : ch.state = .active) :
    ch.expectedStalled d = ch.expected := by simp [Channel.expectedStalled, h]

/-! ### The Profile Log (R133, R142) -/

/-- Making room removes whole records from the oldest end, and no other (R133). -/
theorem trimFor_eq_drop (need : Nat) : ∀ l : List LogRecord, ∃ k, trimFor need l = l.drop k
  | [] => ⟨0, rfl⟩
  | r :: rest => by
    unfold trimFor
    split
    · obtain ⟨k, hk⟩ := trimFor_eq_drop need rest
      exact ⟨k + 1, hk⟩
    · exact ⟨0, rfl⟩

/-- After room is made the record fits, or no record is left (R133). -/
theorem trimFor_fits (need : Nat) : ∀ l : List LogRecord,
    trimFor need l = [] ∨ wordsOf (trimFor need l) + need ≤ logWords
  | [] => .inl rfl
  | r :: rest => by
    unfold trimFor
    split
    · exact trimFor_fits need rest
    · exact .inr (by omega)

/-- No record leaves that need not: with one fewer gone, the record would not fit (R133). -/
theorem trimFor_least (need : Nat) (l : List LogRecord) : ∃ k, trimFor need l = l.drop k
    ∧ ∀ j, j < k → logWords < wordsOf (l.drop j) + need := by
  induction l with
  | nil => exact ⟨0, rfl, fun j h => absurd h (Nat.not_lt_zero j)⟩
  | cons r rest ih =>
    unfold trimFor
    split
    · obtain ⟨k, hk, hj⟩ := ih
      refine ⟨k + 1, hk, fun j h => ?_⟩
      cases j with
      | zero => assumption
      | succ j => exact hj j (Nat.lt_of_succ_lt_succ h)
    · exact ⟨0, rfl, fun j h => absurd h (Nat.not_lt_zero j)⟩

/-- No room is made where the record fits (R133). -/
theorem trimFor_of_fits {need : Nat} {l : List LogRecord} (h : wordsOf l + need ≤ logWords) : trimFor need l = l := by
  cases l with
  | nil => rfl
  | cons r rest => unfold trimFor; rw [if_neg (by omega)]

/-- The log after a record is written (R133). -/
theorem writeRecord_log (b : LogBody) (s : State) : (writeRecord b s).log =
    { s.log with records := trimFor b.words s.log.records ++ [{ sequence := s.log.nextSeq, body := b }],
                 nextSeq := s.log.nextSeq + 1 } := rfl

/-- A record that comes to the log is logged as the rules have it: at the newest end, or in the holding
slot during a clear (R133, R142). -/
theorem logRecord_logged (b : LogBody) (s : State) : s.Logged (logRecord b s) b := by
  unfold State.Logged ProfileLog.logged logRecord
  by_cases h : s.log.clearBusy = true
  · rw [if_pos h, if_pos h]
    cases hs : s.log.slot.isSome <;> simp [slotRecord, StatusSet.markIf, hs]
  · rw [if_neg h, if_neg h, writeRecord_log]

/-! ### Write-class transactions (R162 to R165) -/

/-- With no transaction at its command byte, a write-class command does nothing. -/
theorem takeWrite_elsewhere {p : Port} {s : State} (code : Byte) (fr : Framing) (own : State → Result × State)
    (h : s.atCommand p = false) : takeWrite p code fr own s = s := by simp [takeWrite, h]

/-- A command that a check refuses leaves the end of its transaction with that result, and nothing else. -/
theorem takeWrite_refused {p : Port} {code : Byte} {fr : Framing} {s : State} {r : Result} (own : State → Result × State)
    (h : s.atCommand p = true) (hr : writeChecks p code fr s = some r) :
    takeWrite p code fr own s = endWriting p code fr r s := by simp [takeWrite, h, judgeWrite, hr]

/-- A command that passes the checks has its own effect, and then the end of its transaction. -/
theorem takeWrite_passed {p : Port} {code : Byte} {fr : Framing} {s : State} (own : State → Result × State)
    (h : s.atCommand p = true) (hr : writeChecks p code fr s = none) :
    takeWrite p code fr own s = endWriting p code fr (own s).1 (own s).2 := by simp [takeWrite, h, judgeWrite, hr]

/-- What passing the checks says (R162, R165). -/
theorem writeChecks_none {p : Port} {code : Byte} {fr : Framing} {s : State} (h : writeChecks p code fr s = none) :
    fr = .whole ∧ acceptedOn code p = true ∧ s.sup.hold = false
      ∧ (needsLatch code = true → (s.port p).latch = true)
      ∧ (commandClass code = some .config → s.lockAllows = true) := by
  unfold writeChecks at h
  split_ifs at h
  simp_all

/-! ### READ-class commands (R161, R184) -/

/-- With no transaction at its command byte, a READ-class command does nothing. -/
theorem snapshotRead_elsewhere {p : Port} {s : State} (code : Byte) (a : Answer) (h : s.atCommand p = false) :
    snapshotRead p code a s = s := by simp [snapshotRead, h]

/-- At its snapshot instant a READ-class command settles its reply, and changes nothing but its port. -/
theorem snapshotRead_taken {p : Port} {s : State} (code : Byte) (a : Answer) (h : s.atCommand p = true) :
    snapshotRead p code a s = s.setPort p ((s.port p).snapped code (replyOf s a) a.effect) := by simp [snapshotRead, h]

/-- A refused reply is the tag and the result alone (R161). -/
theorem replyOf_refuse (s : State) {r : Result} (h : r ≠ .ok) : replyOf s (Answer.refuse r) = [s.tag, r.code] := by
  simp [replyOf, Answer.refuse, h]

/-- An answered reply is the tag, OK and the data (R161). -/
theorem replyOf_ok (s : State) (d : List Byte) : replyOf s (Answer.ok d) = s.tag :: Result.ok.code :: d := by
  simp [replyOf, Answer.ok]

end Sys2Proof.Machine
end

