-- ==== Sys2Proof/Tests/Slice0.lean ====
section
/-! SUPPORT. Tests: ill-formed commands refused, the spec's worked figures, and a witness for the
hypotheses of each statement. Every expected value is the spec's, named in the test's comment. -/

namespace Sys2Proof.Tests

open Sys2Proof.Machine

-- one theorem at a time: each of them waits for the kernel, and a thread each is too much memory
set_option Elab.async false

/-! ## Helpers -/

/-- The state after one command. -/
def run (c : Instr) (s : State) : State :=
  match exec c s with
  | .next t => t
  | _ => s

/-- A six-byte record with the check byte that makes it pass (R2, section 12.2). -/
def frame (chan seq : Nat) (p q : Int) : LinkFrame :=
  let pw := BitVec.ofInt 16 p
  let qw := BitVec.ofInt 16 q
  let b0 := BitVec.ofNat 8 (16 * chan + seq)
  let check := 255#8 - b0 - pw.extractLsb' 8 8 - pw.extractLsb' 0 8 - qw.extractLsb' 8 8 - qw.extractLsb' 0 8
  { nbits := 48, bits := b0 ++ pw ++ qw ++ check, len := true, lval := true, straddles := false }

/-- The reset state with channel 1 ACTIVE, expecting 5, at K = 3333 and SS = −3 (section 1.7.1). -/
def metered (residue : Quad Nat) : State :=
  let s := State.reset
  { s with
    store := { s.store with config := { s.config with channels := { s.config.channels with
      c1 := { k := 3333, ss := -3, enabled := true, weight := .add, calLock := false } } } }
    chans := { s.chans with c1 := { Channel.cold .active with expected := some 5, residue := residue } } }

/-- The reset state with a configuration changed. -/
def withConfig (f : Config → Config) (s : State) : State := { s with store := { s.store with config := f s.config } }

/-- A state whose port has a transaction begun and its latch set. -/
def ready (p : Port) (s : State) : State := s.setPort p { s.port p with tx := .selected, latch := true }

/-- The open sub-interval at an instant, with an elapsed count and a nominal end. -/
def opened (now start stop : Instant) (elapsed : Nat) (s : State) : State :=
  { s with clock := { s.clock with now := now }
           sub := { s.sub with start := start, nominalEnd := stop, elapsed := elapsed, status := 0 } }

/-- The reset state at its first boundary. -/
def atBoundary : State := opened ⟨0, 900⟩ ⟨0, 0⟩ ⟨0, 900⟩ 900 State.reset

/-- The channel partials of section 3.8.1, with the weights of section 1.4.1. -/
def netted : State :=
  let s := withConfig (fun c => { c with channels :=
    ⟨⟨1, 0, true, .add, false⟩, ⟨1, 0, true, .add, false⟩, ⟨1, 0, true, .subtract, false⟩, ⟨1, 0, true, .omit, false⟩⟩ }) atBoundary
  { s with chans := ⟨{ Channel.cold .active with part := ⟨21400250, 0, 9120400, 310000⟩ },
                     { Channel.cold .active with part := ⟨18975125, 0, 8004700, 0⟩ },
                     { Channel.cold .active with part := ⟨2100000, 45000, 600500, 250000⟩ },
                     { Channel.cold .active with part := ⟨500000, 0, 0, 0⟩ }⟩
           sub := { s.sub with rate := .r2, status := StatusSet.single .skip } }

/-! ## Ill-formed commands, one for each check of WellFormed -/

theorem test_frame_of_no_bits_refused : (Instr.linkFrame { frame 0 0 1 1 with nbits := 0, bits := 0 }).wellFormed = false := by decide
theorem test_short_frame_with_bits_refused : (Instr.linkFrame { frame 0 0 1 1 with nbits := 47 }).wellFormed = false := by decide
theorem test_eight_partial_bits_refused : (Instr.selectRise .utility [] 8 false false).wellFormed = false := by decide
theorem test_known_code_is_not_unknown : (Instr.unknownCommand .utility 0x10).wellFormed = false := by decide
theorem test_no_word_spells_a_command : decodeTableWord 48 5 = none := by decide

/-! ## Chapter 1 -/

/-- Section 1.7.1, record 1. -/
theorem test_first_record_converts :
    let t := run (.linkFrame (frame 1 5 1234 517)) (metered (.all 0))
    (t.chans.c1.part, t.chans.c1.residue) = (⟨514115, 0, 215395, 0⟩, ⟨2, 0, 1, 0⟩) := by decide +kernel

/-- Section 1.7.1, record 3: −32768 is clipped to 32767. -/
theorem test_third_record_clips :
    let t := run (.linkFrame (frame 1 5 (-32768) 9)) (metered ⟨3, 0, 1, 0⟩)
    (t.chans.c1.part, t.chans.c1.residue, t.util.attn.has .countClip, t.sub.status.has .clip)
      = (⟨0, 13651551, 3749, 0⟩, ⟨3, 3, 6, 0⟩, true, true) := by decide +kernel

/-- Section 1.7.2, record 8: a bad check byte drops the record with LINK_CHECK and CHECK. -/
theorem test_bad_check_byte_dropped :
    let f := frame 1 5 7 7
    let t := run (.linkFrame { f with bits := f.bits + 1 }) (metered (.all 0))
    (t.chans == (metered (.all 0)).chans, t.cust.attn.has .linkCheck, t.sub.status.has .check) = (true, true, true) := by
  decide +kernel

/-- Section 1.7.2, record 3: 11 where 9 was expected, and the energy is still taken. -/
theorem test_sequence_gap_marked :
    let s := metered (.all 0)
    let t := run (.linkFrame (frame 1 11 8 0)) { s with chans := { s.chans with c1 := { s.chans.c1 with expected := some 9 } } }
    (t.chans.c1.expected, t.util.attn.has .seqGap, t.sub.status.has .gap, t.chans.c1.part.pp)
      = (some 12, true, true, 3333) := by decide +kernel

/-- Section 1.7.2, event 6: at a timeout of 3 s, the second event after a timer of 2 stalls the channel. -/
theorem test_stall_at_the_timeout :
    let s := withConfig (fun c => { c with stallTimeout := 3 }) (metered (.all 0))
    let s := { s with chans := { s.chans with c1 := { s.chans.c1 with timer := 2 } } }
    let t := run (.stallTimeout 1) (run (.secondEvent false) s)
    (t.chans.c1.state, t.chans.c1.timer, t.util.attn.has .linkFault, t.sub.status.has .stall)
      = (.stalled, 3, true, true) := by decide +kernel

/-- R4: a channel that stalls out of WAITING holds a number, the free one of assumption 16. -/
theorem test_stall_out_of_waiting_holds_a_number :
    let s := withConfig (fun c => { c with stallTimeout := 3 }) (metered (.all 0))
    let s := { s with chans := { s.chans with c1 := { Channel.cold .waiting with timer := 2 } } }
    let t := run (.stallTimeout 1) (run (.secondEvent false) s)
    (t.chans.c1.state, t.chans.c1.expected) = (.stalled, some (unheardExpected s.free)) ∧ t.free = s.free + 1 := ⟨rfl, rfl⟩

/-! ## Chapter 2 -/

/-- Section 2.5.1: day 812 is a Thursday of day type 0, and the rates of its evening. -/
theorem test_rates_over_an_evening :
    let t : Tables := { Tables.delivered with switches := .all [⟨0, 3⟩, ⟨420, 1⟩, ⟨1090, 2⟩, ⟨1320, 3⟩] }
    (weekdayOf 3 812, [63900, 64800, 65700, 78300, 79200].map (fun x => rateAt t 3 ⟨812, x⟩))
      = (3, [.r1, .r1, .r2, .r2, .r3]) := by decide +kernel

/-- Section 2.10.1: the forward adjustment closes the sub-interval SHORT, and leaves the date event due. -/
theorem test_forward_adjustment_crosses_the_end :
    let s := withConfig (fun c => { c with closeSecond := 44940 })
      (opened ⟨812, 44820⟩ ⟨812, 44100⟩ ⟨812, 45000⟩ 720 (ready .utility State.reset))
    let s := { s with store := { s.store with closeDates := [812] }, clock := { s.clock with pointer := some 0 } }
    let t := run (.adjustTime .utility .whole 240 false) s
    (t.sub.start, t.sub.nominalEnd, t.sub.elapsed, t.due.dates, t.clock.pointer, t.tot.last.map SubRecord.status)
      = (⟨812, 45060⟩, ⟨812, 45900⟩, 0, 1, none, some ((StatusSet.single .short).mark .timeAdj)) := by decide +kernel

/-- R117: where the freeze comes before the close, the closing sub-interval belongs to the new period, and
the CLOSE marker precedes the DATA record. -/
theorem test_freeze_before_the_close :
    let s := withConfig (fun c => { c with closeSecond := 44940 })
      (opened ⟨812, 44820⟩ ⟨812, 44100⟩ ⟨812, 45000⟩ 720 (ready .utility State.reset))
    let s := { s with store := { s.store with closeDates := [812] }, clock := { s.clock with pointer := some 0 }
                      chans := { s.chans with c0 := { Channel.cold .active with part := ⟨7000, 0, 0, 0⟩ } } }
    let of : Bool → State := fun b => run (.adjustTime .utility .whole 240 b) s
    let late := run .closeDateEvent (of false)
    ((of true).tot.period.rA.pp, (of true).per.number, (of true).due.dates, (of true).log.records.map (fun r => r.body.kind))
        = (7000, 2, 0, [.close, .data 0xF])
      ∧ (late.tot.period.rA.pp, late.per.number, late.log.records.map (fun r => r.body.kind))
        = (0, 2, [.data 0xF, .close]) := by decide +kernel

/-- The state of section 2.10.2 at an elapsed count. -/
def synced (elapsed : Nat) : State :=
  opened ⟨3, 298⟩ ⟨3, 0⟩ ⟨3, 300⟩ elapsed
    (withConfig (fun c => { c with syncMode := .external, subLen := 300, grace := 30 }) State.reset)

/-- Section 2.10.2, events 1, 2 and 4. -/
theorem test_sync_pulses_and_grace :
    [298, 250, 310].map (fun e => (run .syncPulse (synced e)).tot.last.map SubRecord.status)
      = [some 0, some (.single .short), some 0] := by decide +kernel

/-- Section 2.10.2, event 3. -/
theorem test_sync_expiry_at_the_grace :
    ((run .syncExpiry (synced 330)).tot.last.map SubRecord.status, (run .syncExpiry (synced 329)).tot.last)
      = (some ((StatusSet.single .noSync).mark .long), none) := by decide +kernel

/-- Section 2.10.3, event 7: the midnight of the effective day replaces the active schedule. -/
theorem test_armed_schedule_activates :
    let week : Week (Fin 3) := ⟨0, 0, 0, 0, 0, 1, 1⟩
    let s := opened ⟨904, 86399⟩ ⟨904, 85500⟩ ⟨905, 0⟩ 899 State.reset
    let s := { s with store := { s.store with pendSched := .armed { Tables.delivered with week := week } 905 } }
    let t := run .midnightEvent (run (.secondEvent false) s)
    (t.store.active.week, t.store.pendSched, t.cust.attn.has .scheduleSwitched, t.log.records.map (fun r => r.body.kind))
      = (week, .none, true, [.schedule]) := by decide +kernel

/-- Section 2.10.3, event 6: a pending write is refused BUSY while a schedule is armed. -/
theorem test_armed_schedule_refuses_writes :
    let s := ready .utility State.reset
    let s := { s with store := { s.store with pendSched := .armed .delivered 905 } }
    (run (.writeHolidayQuad .utility .whole 0 ⟨1, 2, 3, 4⟩) s).util.lastResult = .busy := by decide +kernel

/-! ## Chapters 3 and 4 -/

/-- Section 3.8.1: the totals, and NEGTOTAL beside the SKIP that stood. -/
theorem test_netted_close :
    (run .boundaryEvent netted).tot.last.map (fun r => (r.totals, r.rate, r.status))
      = some (⟨38275375, 0, 16524600, 60000, 16524600⟩, .r2, (StatusSet.single .skip).mark .negTotal) := by decide +kernel

/-- Section 3.8.2: registers, roll and the SATURATE case. -/
theorem test_registers_roll :
    ([999962104800, 1000000380175, 4210376826575].map (fun a =>
        (reportedValue .rollover 9 a, rolloverCount .rollover 9 a)),
      hasRolled .rollover 9 999962104800 1000000380175, hasRolled .rollover 9 4210338551200 4210376826575,
      hasRolled .saturate 9 999962104800 1000000380175, hasRolled .saturate 9 4210338551200 4210376826575)
      = ([(999962104, 0), (380, 1), (210376826, 4)], true, false, true, false) := by decide +kernel

/-- Section 3.8.4, event 1: a weight change closes the sub-interval under the old weight. -/
theorem test_weight_change_closes :
    let s := opened ⟨5, 43660⟩ ⟨5, 43200⟩ ⟨5, 44100⟩ 460 netted
    let t := run .storeCompletion { s with store := { s.store with writing := some ⟨.utility, .setting (.channelWeight 2 .omit)⟩ } }
    (t.tot.last.map (fun r => (r.totals.pp, r.status)), t.sub.start, t.config.channels.c2.weight)
      = (some (38275375, (((StatusSet.single .config).mark .short).mark .negTotal)), ⟨5, 43660⟩, .omit) := by decide +kernel

/-- Section 4.2.1: one window. -/
theorem test_window_figures :
    (demandOf 129750000 900, demandOf 58500000 900, apparentOf 519000 234000, windowPF 519000 569313)
      = (519000, 234000, 569313, 9116) := by decide +kernel

/-- Section 4.9.1, arrival 112: the root is not rounded up. -/
theorem test_root_not_rounded_up : (apparentOf 568000 240000, windowPF 568000 616623) = (616623, 9211) := by decide +kernel

/-- Section 4.9.1, arrival 104: the fourth record pushes out the first, and the window is eligible. -/
theorem test_window_slides_and_fills_maxima :
    let s := withConfig (fun c => { c with subLen := 300, windowLen := 3, bill := { c.bill with billable := 1 } })
      (opened ⟨7, 1200⟩ ⟨7, 900⟩ ⟨7, 1200⟩ 300 State.reset)
    let s := { s with
      chans := { s.chans with c0 := { Channel.cold .active with part := ⟨45000000, 0, 21000000, 0⟩ } }
      tot := { s.tot with lastSeq := 103 }
      dem := { s.dem with ring := [⟨101, .r1, .single .short, 30000000, 12000000⟩, ⟨102, .r1, 0, 41250000, 18000000⟩,
                                   ⟨103, .r1, 0, 43500000, 19500000⟩] } }
    let t := run .boundaryEvent s
    (t.dem.ring.map Summary.sequence, t.dem.maxima.r1.kw.map MaxRecord.value, t.dem.maxima.rA.kva.map MaxRecord.value,
      t.dem.maxima.r2.kw.isSome, t.util.attn.has .newMaxKW)
      = ([102, 103, 104], some 519000, some 569313, false, true) := by decide +kernel

/-! ## Chapters 5 and 6 -/

/-- A Maximum Record of a value. -/
def maxOf (v : Nat) : Option MaxRecord := some ⟨v, ⟨0, 0⟩, 0, 0, 0, 0, 0⟩

/-- The input set of section 5.10.1; energies in mWh, three digits below the floor of R85. -/
def period1 : Snapshot :=
  let r1 : Quint Energy := ⟨100000000999, 0, 0, 0, 90000000000⟩
  let r2 : Quint Energy := ⟨140000000000, 0, 0, 0, 90000000000⟩
  { energy := { PerRate.all (.all 0) with r1 := r1, r2 := r2, rA := ⟨240000000999, 0, 0, 0, 180000000000⟩ }
    maxima := { PerRate.all ⟨none, none⟩ with
      r1 := ⟨maxOf 519000, maxOf 569313⟩, r2 := ⟨maxOf 568000, maxOf 616623⟩, rA := ⟨maxOf 568000, maxOf 616623⟩ }
    ratePresent := 3, ratchet := [498000, 580000, 612000]
    settings := { basis := .kw, billable := 1, ratchetPct := 80, lookback := 11, contractMin := 450000, excessOn := true,
                  ratio := 31741, pfAdjustOn := true, pfRef := 9000, pfFloor := 5000 }
    number := 20, start := ⟨0, 0⟩, stop := ⟨30, 0⟩, cause := .command, partialMark := false }

/-- Section 5.10.1: the billing result. -/
theorem test_billing_result :
    let r := period1.record
    (r.pfAvg, r.pfUsed, r.blockA.excess) = (8000, 8000, 63760987)
      ∧ r.blocks.map RateBlock.excess = [41567078, 22193909]
      ∧ (r.base, r.floor, r.unadjusted, r.adjusted) = (519000, 489600, 519000, 583875)
      ∧ r.flags = ⟨false, false, true, false, false⟩ := by decide +kernel

/-- Section 5.10.1, the settings changed: the adjusted demand of each row. -/
theorem test_billing_other_settings :
    let st := period1.settings
    [{ st with billable := 0 }, { st with billable := 3 }, { st with pfAdjustOn := false }, { st with basis := .kva },
      { st with pfRef := 8000 }].map (fun b => ({ period1 with settings := b } : Snapshot).record.adjusted)
      = [639000, 639000, 519000, 569313, 519000] := by decide +kernel

/-- Section 5.10.2: the floors win, at each history of its table. -/
theorem test_light_period :
    let x : Snapshot := { period1 with
      energy := { PerRate.all (.all 0) with
        r1 := ⟨80000000000, 0, 0, 0, 72000000000⟩, r2 := ⟨112000000000, 0, 0, 0, 72000000000⟩
        rA := ⟨192000000000, 0, 0, 0, 144000000000⟩ }
      maxima := { PerRate.all ⟨none, none⟩ with r1 := ⟨maxOf 402500, none⟩ }
      settings := { period1.settings with pfFloor := 8500 } }
    [[519000, 498000, 580000, 612000], [519000, 498000, 580000], []].map (fun l =>
        let r := ({ x with ratchet := l } : Snapshot).record
        (r.floor, r.unadjusted, r.adjusted, r.flags.ratchetApplied, r.flags.minApplied))
      = [(489600, 489600, 518400, true, false), (464000, 464000, 491294, true, false), (0, 450000, 476471, false, true)] := by
  decide +kernel

/-- Section 5.10.4: the demand cap, and no energy at all. -/
theorem test_billing_limits :
    let x : Snapshot := { period1 with
      energy := .all (.all 0), maxima := .all ⟨none, none⟩, ratchet := []
      settings := { period1.settings with contractMin := 4000000000, pfRef := 10000 } }
    let y : Snapshot := { x with energy := { x.energy with rA := ⟨0, 0, 0, 0, 5000000000⟩ } }
    (x.record.pfAvg, x.record.adjusted, x.record.flags.noDemand, y.record.pfAvg, y.record.adjusted, y.record.flags.clamped)
      = (10000, 4000000000, true, 0, 4294967295, true) := by decide +kernel

/-- Period 20 of section 6.9.1, with thirteen records in the queue. -/
def fullQueue : State :=
  let s := ready .utility State.reset
  { s with per := { s.per with number := 20, partialMark := false
                               history := (List.range 13).map (fun i => { period1.record with number := BitVec.ofNat 32 (7 + i) }) } }

/-- Section 6.9.1, events 1 and 2: the freeze, and the completion that drops period 7. -/
theorem test_command_close_and_completion :
    let t := run (.billingClose .utility .whole) fullQueue
    let u := run .closeCompletion t
    (t.per.number, t.per.lockout, t.util.lastResult, u.per.close, u.per.history.map PeriodRecord.number, u.util.attn.has .closeDone)
      = (21, 3600, .ok, .idle, (List.range 13).map (fun i => BitVec.ofNat 32 (8 + i)), true) := by decide +kernel

/-- Section 6.9.1, events 3 to 6: under a lockout a press is ignored, a command refused, a date deferred
and carried out at the expiry. -/
theorem test_lockout_and_deferral :
    let s := { fullQueue with per := { fullQueue.per with lockout := 1800 }, due := { Due.nothing with dates := 1 } }
    let t := run .closeDateEvent s
    let u := run .lockoutExpiry { t with per := { t.per with lockout := 1 }, due := { Due.nothing with lockout := true } }
    ((run .buttonPress { s with pins := { s.pins with guard := true } }).per.number,
      (run (.billingClose .utility .whole) s).util.lastResult) = (20, .lockout)
      ∧ (t.per.deferred, t.cust.attn.has .closeDeferred) = (some .date, true)
      ∧ (u.per.number, u.per.lockout, u.per.deferred) = (21, 3600, none) := by decide +kernel

/-- Section 6.9.3, events 1 and 3: a Preview completes on its own copy, PREVIEW_READY on its port alone. -/
theorem test_preview_on_its_port :
    let s := { fullQueue with cust := { fullQueue.cust with tx := .selected } }
    let t := run (.previewCompletion .customer) (run (.billingClose .utility .whole) (run (.requestPreview .customer) s))
    (t.cust.previewRec.map (fun r => (r.number, r.cause)), t.cust.attn.has .previewReady, t.util.attn.has .previewReady, t.per.number)
      = (some (20, .preview), true, false, 21) := by decide +kernel

/-! ## Chapters 7 and 8 -/

/-- Section 7.8.1: carries across two DATA records. -/
theorem test_log_carries :
    [logWh 38275375 700, logWh 60000 999, logWh 16524600 450, logWh 1250 999]
      = [(38276, 75), (60, 999), (16525, 50), (2, 249)] := by decide +kernel

/-- The log of section 7.8.2 in small: two records of 8 words at the oldest end of a full log. -/
def smallLog (cursor : Seq) : State :=
  let body : Nat → LogBody := fun n => ⟨.data 0, .r1, 0, ⟨0, 0⟩, List.replicate n 0⟩
  let s := State.reset
  { s with log := { s.log with nextSeq := 8231
                               records := [⟨8229, body 4⟩, ⟨8230, body 16363⟩] }
           util := { s.util with cursor := ⟨cursor, .atRecord, .forward, none⟩ }
           cust := { s.cust with cursor := ⟨8231, .atEnd, .forward, none⟩ } }

/-- Section 7.8.2: a cursor on a removed record is in OVERRUN, and one at the end takes the new record. -/
theorem test_overwrite_and_overrun :
    let t := writeRecord ⟨.data 3, .r1, 0, ⟨0, 0⟩, List.replicate 12 0⟩ (smallLog 8229)
    (t.log.records.map LogRecord.sequence, t.util.cursor.state, t.util.cursor.position, t.util.attn.has .logOverrun,
      t.cust.cursor.state, t.cust.cursor.position, t.cust.attn.has .logOverrun)
      = ([8230, 8231], .overrun, 8229, true, .atRecord, 8231, false) := by decide +kernel

/-- Section 7.8.3: the second record of a clear is kept with GAP, after the CLEARED marker. -/
theorem test_clear_with_two_records :
    let s := { fullQueue with log := { fullQueue.log with clearBusy := true, nextSeq := 9000 } }
    let s := opened ⟨9, 45000⟩ ⟨9, 44100⟩ ⟨9, 45000⟩ 900 s
    let t := run .clearProfileCompletion (run (.billingClose .utility .whole) (run .boundaryEvent s))
    (t.log.records.map (fun r => (r.sequence, r.body.kind, r.body.status)), wordsOf t.log.records, t.util.cursor.position)
      = ([(9000, .cleared, 0), (9001, .close, .single .gap)], 9, 9000) := by decide +kernel

/-- The intake of section 8.8 one second before an elapsed count, with a partial and a comparator state. -/
def limited (ring : List Nat) (elapsed : Nat) (part : Energy) (c : Comparator) : State :=
  let s := withConfig (fun g => { g with subLen := 300, windowLen := 3, limits := { g.limits with
    c0 := { enabled := true, quantity := .kw, threshold := 550000, hysteresis := 20000, minHold := 300, shed := 0 } } })
      (opened ⟨7, 1000⟩ ⟨7, 900⟩ ⟨7, 1200⟩ (elapsed - 1) State.reset)
  { s with chans := { s.chans with c0 := { Channel.cold .active with part := ⟨part, 0, 0, 0⟩ } }
           dem := { s.dem with ring := ring.map (fun e => ⟨0, .r1, 0, BitVec.ofNat 64 e, 0⟩) }
           lim := { s.lim with comparators := { s.lim.comparators with c0 := c } } }

/-- Section 8.8: the projections at 120 and 180 s of A, and the alert at 180. -/
theorem test_limit_alert :
    let ring := [41250000, 43500000, 45000000]
    let a := run (.secondEvent false) (limited ring 120 19500000 ⟨.clear, 0⟩)
    let b := run (.secondEvent false) (limited ring 180 30000000 ⟨.clear, 0⟩)
    (a.lim.projection.dp, a.lim.comparators.c0, b.lim.projection.dp, b.lim.comparators.c0, b.lim.shed.c0, b.util.attn.has .limitAlert)
      = (549000, ⟨.clear, 0⟩, 554000, ⟨.alert, 300⟩, true, true) := by decide +kernel

/-- Section 8.8: B at 120 s goes back to ALERT with no event, and at 180 s to CLEAR with LIMIT_RELEASE. -/
theorem test_limit_release :
    let ring := [43500000, 45000000, 45000000]
    let a := run (.secondEvent false) (limited ring 120 18000000 ⟨.releasing, 61⟩)
    let b := run (.secondEvent false) (limited ring 180 21000000 ⟨.releasing, 1⟩)
    (a.lim.comparators.c0, a.util.attn.has .limitAlert, b.lim.projection.dp, b.lim.comparators.c0, b.lim.shed.c0,
      b.cust.attn.has .limitRelease) = (⟨.alert, 60⟩, false, 500000, ⟨.clear, 0⟩, false, true) := by decide +kernel

/-! ## Chapters 9 to 11 -/

/-- Section 9.12.1, events 2 and 4: GUARDED without GUARD is refused LOCKED, and the latch is cleared. -/
theorem test_guarded_write :
    let s := withConfig (fun c => { c with lockMode := .guarded }) (ready .utility State.reset)
    let t := run (.writeConfigItem .utility .whole 0x060A 7200) s
    let u := run (.writeConfigItem .utility .whole 0x060A 7200) { s with pins := { s.pins with guard := true } }
    (t.util.lastResult, t.util.latch, u.util.lastResult, u.store.writing)
      = (.locked, false, .ok, some ⟨.utility, .setting (.lockoutLen 7200)⟩) := by decide +kernel

/-- Section 9.12.1, event 6: the store of one port refuses the other BUSY, and its latch is cleared. -/
theorem test_store_race :
    let s := ready .customer State.reset
    let t := run (.writeLimit .customer .whole ⟨1, 1, 0, 5, 0, 0, 1⟩)
      { s with store := { s.store with writing := some ⟨.utility, .setting (.lockoutLen 7200)⟩ } }
    (t.cust.lastResult, t.cust.latch, t.cust.lastCommand) = (.busy, false, 0x49) := by decide +kernel

/-- R162 and R191: a write-class transaction meets filler throughout on data out. -/
theorem test_filler_throughout_a_write :
    let t := run (.selectRise .utility [0x51, 0, 0] 3 false false) (run (.selectFall .utility) State.reset)
    (t.util.dataOut, t.util.lastResult) = ([0xFF, 0xFF, 0xFF], .malformed) := by decide +kernel

/-- Section 9.12.2, events 3 and 4: a read clears the arm, and the Reset is refused DENIED. -/
theorem test_read_clears_the_arm :
    let s := ready .utility { State.reset with util := { State.reset.util with arm := true } }
    let t := run (.selectRise .utility [0x11, 0, 0] 0 false false) s
    let u := run (.reset .utility .whole) { t with util := { t.util with tx := .selected } }
    (t.util.latch, t.util.arm, u.util.lastResult, u.util.latch) = (true, false, .denied, false) := by decide +kernel

/-- Section 9.12.2, event 7: an armed Reset is OK, and the start cause is RESTART. -/
theorem test_reset_restarts :
    let s := ready .utility { State.reset with util := { State.reset.util with arm := true } }
    let t := run (.reset .utility .whole) s
    (t.util.lastResult, t.sup.startCause, t.log.records.map (fun r => r.body.kind), t.tot.lastSeq)
      = (.ok, .restart, [.data 0xF, .restart], 1) := by decide +kernel

/-- Section 9.13, step 1: four void transactions with data in low, high, low, high reset the port. -/
theorem test_port_reset_pattern :
    let void : Bool → State → State := fun d s => run (.selectRise .utility [] 0 d false) (run (.selectFall .utility) s)
    let s := { State.reset with util := { State.reset.util with latch := true, arm := true } }
    let t := void true (void false (void true (void false s)))
    (t.util.latch, t.util.arm, t.util.pattern, (void true (void false (void true (void true s)))).util.latch)
      = (false, false, 0, true) := by decide +kernel

/-- Section 10.6, events 3 and 5: one unmasked member is cleared with the enable, two are not. -/
theorem test_attention_fetch_groups :
    let fetch : State → State := fun s => run (.selectRise .utility [0x22, 0, 0, 0] 0 false false) s
    let s := { State.reset with util := { State.reset.util with
      tx := .selected, attn := { flags := 0xA0, mask := 0x3F2F, enable := true, fresh := 0 } } }
    let t := fetch s
    let v := fetch { t with util := { t.util with tx := .selected } }
    (t.util.dataOut, t.util.attn.flags, t.util.attn.enable, v.util.dataOut.getLast?, v.util.attn.flags)
      = ([0xFF, 0, 0, 4], 0x80, false, some 5, 0x80) := by decide +kernel

/-- Section 11.4, events 1 to 3: Hold entry, and the freeze whose completion is not taken. -/
theorem test_hold_entry :
    let t := run .holdEntry (opened ⟨1200, 49929⟩ ⟨1200, 49500⟩ ⟨1200, 50400⟩ 429 (ready .utility State.reset))
    (t.sup.hold, t.sup.outageStart, t.util.attn.has .supplyWarn, t.sub.status, t.util.latch, t.attnAsserted .utility)
      = (true, ⟨1200, 49929⟩, true, .single .outage, false, true) := by decide +kernel

/-- Section 11.4, event 4: the state at the warm start, day 1201 at 54,600. -/
def afterOutage : State :=
  let s := withConfig (fun c => { c with pickupLength := 4, closeSecond := 49930 })
    (opened ⟨1201, 54600⟩ ⟨1200, 49500⟩ ⟨1200, 50400⟩ 91500 State.reset)
  { s with sub := { s.sub with status := .single .outage }
           store := { s.store with closeDates := [1200, 1201] }
           sup := { s.sup with mainSupply := false, hold := true, outageStart := ⟨1200, 49929⟩, outageValid := true,
                               lossInstant := ⟨1200, 49930⟩ }
           per := { s.per with number := 32, close := .closing period1, lockout := 3600 } }

/-- Section 11.4, steps 3 to 7 of the warm start. -/
theorem test_warm_start_after_an_outage :
    let t := run (.warmStart ⟨false, false, false⟩) afterOutage
    t.tot.last.map (fun r => (r.start, r.stop, r.status)) = some (⟨1200, 49500⟩, ⟨1200, 50400⟩, .single .outage)
      ∧ (t.sub.start, t.sub.nominalEnd) = (⟨1201, 54600⟩, ⟨1201, 54900⟩)
      ∧ (t.dem.pickup, t.per.deferred, t.per.close == .resuming period1) = (4, some .dateLate, true)
      ∧ (t.log.records.map (fun r => (r.body.kind, r.body.payload))).getLast? = some (.outage, [1200, 49929]) := by
  decide +kernel

/-! ## Witnesses: for each statement, states and operands that meet its hypotheses -/

/-- A part whose main supply is lost, with or without its retained blocks. -/
def dark (retained : Bool) (s : State) : State :=
  { s with sup := { s.sup with mainSupply := false, retentionValid := retained } }

/-- The reset state with a command waiting. -/
def queued (c : Instr) (s : State) : State := { s with pending := [c] }

/-- A state with a store write of the Utility Port in flight. -/
def storingItem (i : StoreItem) (s : State) : State := { s with store := { s.store with writing := some ⟨.utility, i⟩ } }

/-- A state with an armed schedule. -/
def armedFor (day : Nat) (s : State) : State := { s with store := { s.store with pendSched := .armed .delivered day } }

/-- A state with a pending schedule being loaded. -/
def loadingWith (t : Tables) (s : State) : State := { s with store := { s.store with pendSched := .loading t } }

/-- A state in Hold. -/
def held (s : State) : State := { s with sup := { s.sup with hold := true }, pins := { s.pins with pfail := true } }

/-- The Utility Port ready to take a command on the reset state. -/
def utilReady : State := ready .utility State.reset

theorem utilReady_selected : utilReady.Selected .utility := ⟨rfl, rfl⟩
theorem utilReady_takesPort : utilReady.TakesPort .utility := ⟨utilReady_selected, rfl⟩
theorem utilReady_takesOperation : utilReady.TakesOperation .utility := ⟨utilReady_takesPort, rfl⟩
theorem utilReady_takesConfig : utilReady.TakesConfig := ⟨utilReady_takesOperation, .inl rfl⟩

theorem witness_StepTakesFrontCommand :
    (queued .boundaryEvent State.reset).pending = .boundaryEvent :: [] ∧ State.reset.pending = [] := ⟨rfl, rfl⟩

/-- ColdStartValues, at a schedule armed for day 0, one armed for day 1, and none. -/
theorem witness_ColdStartValues :
    (∀ s ∈ [dark false (armedFor 0 State.reset), dark false (armedFor 1 State.reset), dark false State.reset],
      s.sup.mainSupply = false ∧ s.sup.retentionValid = false)
      ∧ (dark false (armedFor 0 State.reset)).store.pendSched = .armed .delivered 0 := by decide

theorem witness_ResetIsFirstColdStart :
    let s := dark false { fullQueue with clock := { fullQueue.clock with now := ⟨77, 5⟩ } }
    s.store = Store.delivered ∧ s.pending = [] ∧ s.sup.mainSupply = false ∧ s.sup.retentionValid = false := by decide

/-- Configuration values at the edges of their ranges. -/
def edgeConfig : State :=
  withConfig (fun c => { c with
    subLen := 3600, windowLen := 1, stallTimeout := 60, grace := 60, weekdayOffset := 6, closeSecond := 86399, digits := 12,
    pickupThreshold := 65535, pickupLength := 63, lockoutLen := 86400
    channels := .all ⟨65535, -6, true, .subtract, true⟩, lockMode := .permanent }) State.reset

theorem witness_ConfigStaysInRange :
    (queued .storeCompletion (storingItem (.setting (.windowLen 1)) edgeConfig)).ConfigSafe
      ∧ ∃ t, step (queued .storeCompletion (storingItem (.setting (.windowLen 1)) edgeConfig)) = .next t := by
  refine ⟨?_, _, rfl⟩
  refine ⟨?_, ?_⟩
  · unfold Config.InRange Config.WindowInRange ChannelConfig.InRange LimitConfig.InRange BillSettings.InRange
    decide +kernel
  · intro w hw
    cases hw
    show Config.InRange _
    unfold Config.InRange Config.WindowInRange ChannelConfig.InRange LimitConfig.InRange BillSettings.InRange
    decide +kernel

/-- The last second of the cycle, on a nominal end that comes next. -/
def cycleEnd : State := opened ⟨65535, 86399⟩ ⟨65535, 85500⟩ ⟨0, 0⟩ 899 State.reset

theorem witness_TimeStaysInCalendar :
    ((queued (.secondEvent true) cycleEnd).ClockSafe ∧ (queued (.secondEvent true) cycleEnd).EndOnMultiple)
      ∧ ∃ t, step (queued (.secondEvent true) cycleEnd) = .next t := by
  refine ⟨⟨?_, fun _ => rfl⟩, _, rfl⟩
  unfold State.ClockSafe Instant.InRange
  decide +kernel

theorem witness_TablesStayValid :
    let s := queued .midnightEvent { armedFor 0 State.reset with
      store := { (armedFor 0 State.reset).store with closeDates := [0, 65534], writing := some ⟨.utility, .closeDates [3, 4]⟩ } }
    (s.ScheduleSafe ∧ s.DatesSafe) ∧ ∃ t, step s = .next t := by
  refine ⟨⟨⟨by decide +kernel, ?_⟩, by decide +kernel, ?_⟩, _, rfl⟩
  · show validTables Tables.delivered = true
    decide +kernel
  intro w hw l hl
  cases hw
  cases hl
  decide +kernel

/-- A Totalizer whose rate-2 and rate-A registers stand at the top of their range. -/
def fullRegister : State :=
  let q : PerRate (Quint Energy) := { PerRate.all (.all 0) with r2 := .all 0xFFFFFFFFFFFFFFFF, rA := .all 0xFFFFFFFFFFFFFFFF }
  { netted with tot := { netted.tot with acc := q, period := q, present := 2 } }

theorem witness_RateAStaysTheSum :
    (queued .boundaryEvent fullRegister).tot.Balanced ∧ ∃ t, step (queued .boundaryEvent fullRegister) = .next t := by
  refine ⟨⟨by decide +kernel, by decide +kernel, ?_⟩, _, rfl⟩
  intro r
  cases r <;> decide +kernel

/-- A ring that is full, across the wrap of the sequence. -/
def fullRing : State :=
  let s := withConfig (fun c => { c with subLen := 60, windowLen := 2 }) atBoundary
  { s with tot := { s.tot with lastSeq := 0 }
           dem := { s.dem with ring := [⟨0xFFFFFFFF, .r1, 0, 5, 5⟩, ⟨0, .r1, 0, 5, 5⟩] } }

theorem witness_RingStaysConsecutive :
    ((queued .boundaryEvent fullRing).ConfigSafe ∧ (queued .boundaryEvent fullRing).RingSafe)
      ∧ ∃ t, step (queued .boundaryEvent fullRing) = .next t := by
  refine ⟨⟨⟨?_, by nofun⟩, ?_⟩, _, rfl⟩
  · unfold Config.InRange Config.WindowInRange ChannelConfig.InRange LimitConfig.InRange BillSettings.InRange
    decide +kernel
  · unfold State.RingSafe
    decide +kernel

/-- The queue of section 6.9.1 with a close in flight. -/
def closingQueue : State :=
  { fullQueue with per := { fullQueue.per with number := 21, close := .closing { period1 with number := 20 } } }

theorem witness_HistoryStaysOrdered :
    (queued .closeCompletion closingQueue).per.HistorySafe ∧ ∃ t, step (queued .closeCompletion closingQueue) = .next t := by
  refine ⟨?_, _, rfl⟩
  unfold PeriodUnit.HistorySafe
  decide +kernel

theorem witness_LogStaysConsecutive :
    let s := queued .boundaryEvent { atBoundary with
      log := { atBoundary.log with nextSeq := 0, records := [⟨0xFFFFFFFF, ⟨.restart, .r1, 0, ⟨0, 0⟩, []⟩⟩] } }
    s.log.Safe ∧ ∃ t, step s = .next t := by
  refine ⟨?_, _, rfl⟩
  unfold ProfileLog.Safe LogBody.LengthSafe
  decide +kernel

theorem witness_PortsStayClearInHold :
    (queued (.selectRise .utility [0x30] 0 false false) (held State.reset)).PortsSafe
      ∧ ∃ t, step (queued (.selectRise .utility [0x30] 0 false false) (held State.reset)) = .next t := by
  refine ⟨?_, _, rfl⟩
  unfold State.PortsSafe
  decide +kernel

theorem witness_LocksNeverLoosen :
    let s := queued (.coldStart ⟨false, false, false⟩) (dark false edgeConfig)
    (∃ t, step s = .next t) ∧ s.config.lockMode = .permanent ∧ (s.config.channels.get 3).calLock = true :=
  ⟨⟨_, rfl⟩, rfl, rfl⟩

theorem witness_PeriodNumberMovesByOne :
    exec (.billingClose .utility .whole) fullQueue = .next (run (.billingClose .utility .whole) fullQueue)
      ∧ (run (.billingClose .utility .whole) fullQueue).per.number = 21
      ∧ ∃ x, (run (.billingClose .utility .whole) fullQueue).per.close = .closing x ∧ fullQueue.per.close ≠ .closing x :=
  ⟨rfl, by decide +kernel, takeSnapshot .command fullQueue, by decide +kernel, by decide +kernel⟩

theorem witness_ChangesNeedTheLatch_cancel :
    let s := armedFor 5 utilReady
    s.store.pendSched ≠ .none ∧ (run (.selectRise .utility [0x47] 0 false false) s).store.pendSched = .none
      ∧ (run (.cancelPending .utility .whole) s).store.pendSched = .none := by decide +kernel

theorem witness_ChangesNeedTheLatch :
    exec (.setLockMode .utility .whole 3) utilReady = .next (run (.setLockMode .utility .whole 3) utilReady)
      ∧ (run (.setLockMode .utility .whole 3) utilReady).store.writing = some ⟨.utility, .lockMode .permanent⟩ :=
  ⟨rfl, by decide +kernel⟩

theorem witness_CustomerPortLeavesBilling :
    portOf (.writeLimit .customer .whole ⟨3, 1, 1, 5, 5, 0, 3⟩) = some .customer
      ∧ ∃ t, exec (.writeLimit .customer .whole ⟨3, 1, 1, 5, 5, 0, 3⟩) (ready .customer State.reset) = .next t := ⟨rfl, _, rfl⟩

/-! ### Chapters 1 and 2 -/

/-- LinkFramesAreClassified: a straddling frame; a cut frame, a channel number of 4; an OFF channel. -/
theorem witness_LinkFramesAreClassified_dropped :
    let s := State.reset
    (s.sup.mainSupply = true ∧ s.sup.hold = false)
      ∧ ({ frame 0 0 1 1 with straddles := true } : LinkFrame).straddles = true
      ∧ (dark true s).sup.mainSupply = false ∧ (held s).sup.hold = true
      ∧ (frame 4 0 1 1).nbits = 48 ∧ recordSum (frame 4 0 1 1) % 256 = 255 ∧ 3 < recordChannel (frame 4 0 1 1)
      ∧ ({ frame 0 0 1 1 with nbits := 47, bits := 0 } : LinkFrame).nbits ≠ 48
      ∧ recordSum { frame 0 0 1 1 with bits := (frame 0 0 1 1).bits + 1 } % 256 ≠ 255
      ∧ recordChannel (frame 3 0 1 1) = (3 : Fin 4).val ∧ recordSum (frame 3 0 1 1) % 256 = 255
      ∧ (s.chans.get 3).state = .off := by decide +kernel

/-- LinkFramesAreClassified: a record that passes, with ENABLE active and inactive, VALID 0, at −32768. -/
theorem witness_LinkFramesAreClassified_passes :
    (metered (.all 0)).Passes (frame 1 15 (-32768) 32767) 1 ∧ (metered (.all 0)).Enabled (frame 1 15 (-32768) 32767)
      ∧ (metered (.all 0)).Passes { frame 1 15 0 0 with len := false, lval := false } 1
      ∧ ¬ (metered (.all 0)).Enabled { frame 1 15 0 0 with len := false, lval := false } := by
  unfold State.Passes State.Enabled
  decide +kernel

/-- CountsConverted: a count of 0, a count of 32767 at SS = −3, and at SS = 6. -/
theorem witness_CountsConverted :
    let s := metered (.all 0)
    let u := withConfig (fun c => { c with channels := { c.channels with c1 := ⟨65535, 6, true, .add, false⟩ } }) s
    (s.Passes (frame 1 5 0 (-32768)) 1 ∧ s.Enabled (frame 1 5 0 (-32768)) ∧ (frame 1 5 0 (-32768)).lval = true)
      ∧ fedInto (frame 1 5 0 (-32768)) .impActive = 0 ∧ fedInto (frame 1 5 0 (-32768)) .leading = 32767
      ∧ (s.config.channels.get 1).ss < 0
      ∧ u.Passes (frame 1 5 0 (-32768)) 1 ∧ u.Enabled (frame 1 5 0 (-32768)) ∧ 0 ≤ (u.config.channels.get 1).ss := by
  unfold State.Passes State.Enabled
  decide +kernel

/-- StallTimeoutStalls: a channel in ACTIVE and one in WAITING, and a state that holds the invariant. -/
theorem witness_StallTimeoutStalls_kept :
    (queued (.stallTimeout 1) (metered (.all 0))).ExpectedHeld
      ∧ ∃ t, step (queued (.stallTimeout 1) (metered (.all 0))) = .next t := by
  refine ⟨?_, _, rfl⟩
  unfold State.ExpectedHeld
  decide +kernel

theorem witness_StallTimeoutStalls :
    let s := { metered (.all 0) with due := { Due.nothing with stall := .all true } }
    let s := { s with chans := { s.chans with c1 := { s.chans.c1 with timer := 9 } } }
    s.sup.mainSupply = true ∧ s.due.stall.get 1 = true ∧ (s.chans.get 1).state = .active
      ∧ s.config.stallTimeout ≤ (s.chans.get 1).timer + 1
      ∧ (let w := { s with chans := { s.chans with c1 := { Channel.cold .waiting with timer := 9 } } }
         w.due.stall.get 1 = true ∧ (w.chans.get 1).state = .waiting ∧ w.config.stallTimeout ≤ (w.chans.get 1).timer + 1) := by
  decide +kernel

/-- SecondEventCounts: with the supply lost; one second short of a nominal end and of an expiry; the
second that reaches each of them, close first. -/
theorem witness_SecondEventCounts :
    (dark true State.reset).sup.mainSupply = false
      ∧ (opened ⟨0, 898⟩ ⟨0, 0⟩ ⟨0, 900⟩ 898 State.reset).NothingWaits
      ∧ (opened ⟨0, 898⟩ ⟨0, 0⟩ ⟨0, 900⟩ 898 State.reset).clock.now.tick ≠ ⟨0, 900⟩
      ∧ (synced 328).NothingWaits ∧ (synced 328).sub.elapsed + 1 < 300 + 30
      ∧ (synced 329).NothingWaits ∧ cycleEnd.NothingWaits ∧ cycleEnd.sup.mainSupply = true
      ∧ cycleEnd.config.syncMode = .internal ∧ cycleEnd.clock.now.tick = cycleEnd.sub.nominalEnd
      ∧ (synced 329).config.syncMode = .external ∧ 300 + 30 ≤ (synced 329).sub.elapsed + 1 := by
  unfold State.NothingWaits
  decide +kernel

/-- SecondEventCounts: a close date reached, one not reached, and the first entry at the cycle's end. -/
theorem witness_SecondEventCounts_dates :
    let at_ := fun (s : State) => withConfig (fun c => { c with closeSecond := 44940 })
      { s with store := { s.store with closeDates := [812, 813] }, clock := { s.clock with pointer := some 0 } }
    let s := at_ (opened ⟨812, 44939⟩ ⟨812, 44100⟩ ⟨812, 45000⟩ 839 State.reset)
    let u := at_ cycleEnd
    s.NothingWaits ∧ s.clock.now.tick ≠ ⟨0, 0⟩ ∧ s.clock.pointer = some 0 ∧ 0 < s.store.closeDates.length
      ∧ s.clock.now.tick = ⟨812, s.config.closeSecond⟩
      ∧ u.NothingWaits ∧ u.clock.now.tick = ⟨0, 0⟩ ∧ u.clock.now.tick ≠ ⟨812, u.config.closeSecond⟩ := by
  unfold State.NothingWaits
  decide +kernel

theorem witness_MidnightEventTurnsTheDay :
    let s := { State.reset with due := { Due.nothing with midnight := true } }
    s.sup.mainSupply = true ∧ s.due.midnight = true ∧ (armedFor 0 s).store.pendSched = .armed .delivered 0
      ∧ s.clock.now.day = 0 ∧ (armedFor 1 s).due.midnight = true := by decide +kernel

/-- The statements EndEvents…: each cause of an end, at the edges of its flags. -/
theorem witness_EndEvents :
    atBoundary.endStatus .boundaryEvent = some [] ∧ netted.endStatus .boundaryEvent = some []
      ∧ (opened ⟨0, 900⟩ ⟨0, 1⟩ ⟨0, 900⟩ 899 State.reset).endStatus .boundaryEvent = some [.short]
      ∧ (opened ⟨0, 900⟩ ⟨0, 0⟩ ⟨0, 900⟩ 901 State.reset).endStatus .boundaryEvent = some [.long]
      ∧ (synced 269).endStatus .syncPulse = some [.short] ∧ (synced 270).endStatus .syncPulse = some []
      ∧ (synced 330).endStatus .syncExpiry = some [.noSync, .long]
      ∧ (withConfig (fun c => { c with grace := 0 }) (synced 300)).endStatus .syncExpiry = some [.noSync] := by decide +kernel

/-- EndEventsLogTheData: no schedule armed, one armed for a later day, one that the opening activates, and
a log being cleared. -/
theorem witness_EndEventsLogTheData :
    atBoundary.endStatus .boundaryEvent = some [] ∧ atBoundary.store.pendSched = .none
      ∧ (armedFor 1 atBoundary).endStatus .boundaryEvent = some [] ∧ atBoundary.clock.now.day < 1
      ∧ (armedFor 0 atBoundary).endStatus .boundaryEvent = some [] ∧ (armedFor 0 atBoundary).store.pendSched = .armed .delivered 0
      ∧ atBoundary.log.clearBusy = false
      ∧ ({ atBoundary with log := { atBoundary.log with clearBusy := true } } : State).endStatus .boundaryEvent = some [] := by
  decide +kernel

/-- EndEventsLogTheData: a cursor at the end of the log, one on a record, and one past the edge. -/
theorem witness_EndEventsLogTheData_cursors :
    let s := { atBoundary with log := { atBoundary.log with nextSeq := 1, records := [⟨0, ⟨.restart, .r1, 0, ⟨0, 0⟩, []⟩⟩] }
                               util := { atBoundary.util with cursor := ⟨0, .atRecord, .forward, none⟩ } }
    s.log.Safe ∧ s.log.clearBusy = false ∧ heldIn s.log.records s.util.cursor.position = true ∧ s.util.cursor.state = .atRecord
      ∧ s.cust.cursor.state = .atEnd ∧ s.cust.cursor.position = s.log.nextSeq := by
  unfold ProfileLog.Safe LogBody.LengthSafe
  decide +kernel

theorem witness_SetTimeMovesTheClock :
    utilReady.TakesConfig ∧ 86399 < (86400#24).toNat ∧ (86399#24).toNat ≤ 86399 ∧ utilReady.log.clearBusy = false :=
  ⟨utilReady_takesConfig, by decide, by decide, rfl⟩

/-- AdjustTimeMovesTheClock: out of range on both sides, out of the calendar, no move, back, short of the
end and on it, in EXTERNAL mode, and onto a close instant. -/
theorem witness_AdjustTimeMovesTheClock :
    let s := ready .utility (opened ⟨0, 899⟩ ⟨0, 0⟩ ⟨0, 900⟩ 899 State.reset)
    let e := ready .utility (synced 5)
    (s.TakesOperation .utility ∧ s.clock.now.InRange) ∧ (e.TakesOperation .utility ∧ e.clock.now.InRange)
      ∧ s.config.closeSecond ≤ 86399 ∧ e.config.closeSecond ≤ 86399
      ∧ (BitVec.ofInt 16 (-901)).toInt < -900 ∧ 900 < (901#16).toInt ∧ (s.clock.now.abs : Int) + (BitVec.ofInt 16 (-900)).toInt < 0
      ∧ (0#16).toInt = 0 ∧ 0 ≤ (s.clock.now.abs : Int) + (BitVec.ofInt 16 (-899)).toInt
      ∧ (s.clock.now.until s.sub.nominalEnd : Int) ≤ (1#16).toInt
      ∧ s.config.syncMode = .internal ∧ e.config.syncMode = .external
      ∧ (let d : State := withConfig (fun c => { c with closeSecond := 900 }) { s with store := { s.store with closeDates := [0] } }
         d.TakesOperation .utility ∧ d.config.closeSecond ≤ 86399 ∧ d.clock.now.abs < 0 * 86400 + d.config.closeSecond
           ∧ ((0 * 86400 + d.config.closeSecond : Nat) : Int) ≤ (d.clock.now.abs : Int) + (1#16).toInt
           ∧ d.per.close = .idle ∧ d.per.lockout = 0 ∧ d.per.number ≠ 0xFFFFFFFF ∧ d.log.clearBusy = false) := by
  unfold State.TakesOperation State.TakesPort State.Selected Instant.InRange
  decide +kernel

/-! ### Schedule, close dates and the store -/

/-- Tables at their edges: a list that begins at minute 0 and ends at 1439, and a holiday on day 65534. -/
def edgeTables : Tables :=
  { Tables.delivered with holidays := [0, 65534], switches := .all [⟨0, 6⟩, ⟨1439, 1⟩] }

theorem witness_RateComesFromTheSchedule :
    validTables edgeTables = true ∧ (⟨65534, 86399⟩ : Instant).day ∈ edgeTables.holidays
      ∧ (⟨65535, 0⟩ : Instant).day ∉ edgeTables.holidays := by decide +kernel

/-- ScheduleWritesStart: each refusal and each acceptance at the edges of its range. -/
theorem witness_ScheduleWritesStart :
    utilReady.TakesOperation .utility ∧ (armedFor 5 utilReady).TakesOperation .utility
      ∧ (storingItem (.lockMode .opened) utilReady).TakesOperation .utility
      ∧ (storingItem (.lockMode .opened) utilReady).store.writing ≠ none
      ∧ (∃ t d, (armedFor 5 utilReady).store.pendSched = .armed t d)
      ∧ (∀ t d, utilReady.store.pendSched ≠ .armed t d) ∧ utilReady.store.writing = none
      ∧ 3 < (4#8).toNat ∧ (3#8).toNat = (3 : Fin 4).val
      ∧ (0#8).toNat ∈ [0, 4, 8] ∧ (0#8).toNat ≤ (utilReady.store.pendingTables.switches.get 3).length
      ∧ 1 < (4#8).toNat ∧ (1439#16).toNat ≤ 1439
      ∧ 2 < (3#8).toNat ∧ (2#8).toNat = (2 : Fin 3).val :=
  ⟨utilReady_takesOperation, utilReady_takesOperation, utilReady_takesOperation, by decide, ⟨_, _, rfl⟩, nofun, rfl,
    by decide +kernel⟩

theorem witness_QuadsAreWrittenInPlace :
    6 ≤ [1, 2, 3, 4, 5, 6].length ∧ 0 ≤ [1, 2, 3, 4, 5, 6].length
      ∧ (storingItem (.switchQuad 3 0 [some ⟨0, 1⟩, none, none, none]) State.reset).store.writing
          = some ⟨.utility, .switchQuad 3 0 [some ⟨0, 1⟩, none, none, none]⟩
      ∧ (storingItem (.holidayQuad 0 [some 1, some 2, some 3, some 4]) (loadingWith edgeTables State.reset)).store.writing
          = some ⟨.utility, .holidayQuad 0 [some 1, some 2, some 3, some 4]⟩
      ∧ (storingItem (.weekTable ⟨0, 1, 2, 0, 1, 2, 0⟩) State.reset).store.writing = some ⟨.utility, .weekTable ⟨0, 1, 2, 0, 1, 2, 0⟩⟩
      ∧ State.reset.sup.mainSupply = true := by decide +kernel

/-- ActivateAndCancel: a store write, an armed schedule, none, a valid and an invalid one being loaded. -/
theorem witness_ActivateAndCancel :
    utilReady.TakesOperation .utility ∧ (storingItem (.lockMode .opened) utilReady).store.writing ≠ none
      ∧ utilReady.store.writing = none ∧ utilReady.store.pendSched = .none
      ∧ (armedFor 5 utilReady).store.pendSched = .armed .delivered 5
      ∧ (loadingWith edgeTables utilReady).store.pendSched = .loading edgeTables
      ∧ (∃ rest r, edgeTables.switches.get 3 = ⟨0, r⟩ :: rest)
      ∧ ((edgeTables.switches.get 3).map SwitchPoint.minute).Pairwise (· < ·) ∧ edgeTables.holidays.Pairwise (· < ·)
      ∧ ¬ ({ edgeTables with holidays := [3, 3] } : Tables).holidays.Pairwise (· < ·) :=
  ⟨utilReady_takesOperation, by decide, rfl, rfl, rfl, rfl, ⟨_, _, rfl⟩, by decide +kernel, by decide +kernel, by decide +kernel⟩

/-- StoreCompletionCommits: one write of each kind that changes a stored value, one of a value held in
each of the kinds, and a write in PERMANENT. -/
theorem witness_StoreCompletionCommits :
    let c := State.reset.config
    (∀ i ∈ [StoreItem.setting (.grace 60), .setting (.weekdayOffset 6), .setting (.closeSecond 86399),
        .limit 3 { LimitConfig.delivered 3 with enabled := true }, .closeDates [65534], .lockMode .permanent,
        .calibrationLock 3, .weekTable ⟨2, 2, 2, 2, 2, 2, 2⟩, .switchQuad 3 0 [none], .holidayQuad 0 [some 65534, none]],
      (storingItem i State.reset).sup.mainSupply = true ∧ (storingItem i State.reset).store.writing = some ⟨.utility, i⟩)
      ∧ (c.grace ≠ 60 ∧ c.weekdayOffset ≠ 6 ∧ c.closeSecond ≠ 86399 ∧ (c.limits.get 3).enabled = false
        ∧ State.reset.store.closeDates ≠ [65534] ∧ c.lockMode ≠ .permanent ∧ (c.channels.get 3).calLock = false)
      ∧ State.reset.store.pendSched = .none ∧ State.reset.store.active.week ≠ ⟨2, 2, 2, 2, 2, 2, 2⟩
      ∧ writeQuad (State.reset.store.active.switches.get 3) 0 [none] ≠ State.reset.store.active.switches.get 3
      ∧ writeQuad State.reset.store.active.holidays 0 [some 65534, none] ≠ State.reset.store.active.holidays
      ∧ c.grace = 5 ∧ writeQuad State.reset.store.active.holidays 0 [none] = State.reset.store.active.holidays
      ∧ (withConfig (fun c => { c with lockMode := .permanent }) State.reset).config.lockMode = .permanent
      ∧ State.reset.log.clearBusy = false := by decide +kernel

/-- StoreCompletionEffects: one write of each kind that changes a value, and one of the value held. -/
theorem witness_StoreCompletionEffects :
    (∀ v ∈ [Setting.subLen 60, .windowLen 4, .channelWeight 3 .omit, .channelK 0 65535, .channelSS 3 (-6), .channelEnable 3 true],
      (storingItem (.setting v) State.reset).store.writing = some ⟨.utility, .setting v⟩
        ∧ v.apply State.reset.config ≠ State.reset.config)
      ∧ (Setting.channelK 3 1).apply State.reset.config = State.reset.config ∧ State.reset.sup.mainSupply = true
      ∧ (∀ v ∈ [Setting.polarity .activeLow, .reactive .lagPlusLead, .syncMode .external, .grace 6, .logMask 0, .weekdayOffset 6,
            .closeSecond 86399],
          v.apply State.reset.config ≠ State.reset.config)
      ∧ (Setting.syncMode .internal).apply (synced 5).config ≠ (synced 5).config
      ∧ atBoundary.config.subLen + 5 ≤ ({ atBoundary with sub := { atBoundary.sub with elapsed := 905 } } : State).sub.elapsed
      ∧ (Setting.grace 29).apply (synced 329).config ≠ (synced 329).config ∧ 300 + 29 ≤ (synced 329).sub.elapsed
      ∧ (synced 329).sub.elapsed < 300 + 31
      ∧ (∀ i ∈ [StoreItem.limit 3 (LimitConfig.delivered 3), .closeDates [65534], .lockMode .permanent, .calibrationLock 3,
            .switchQuad 3 8 [none], .holidayQuad 28 [some 65534], .weekTable ⟨2, 2, 2, 2, 2, 2, 2⟩],
          (storingItem i State.reset).store.writing = some ⟨.utility, i⟩) := by
  decide +kernel

/-- ConfigWritesStart: BUSY, a number that is no writable item, a locked channel, and values on and past the
bounds of ranges and clamps. -/
theorem witness_ConfigWritesStart :
    (utilReady.TakesConfig ∧ utilReady.store.writing = none)
      ∧ (storingItem (.lockMode .opened) utilReady).TakesConfig
      ∧ (storingItem (.lockMode .opened) utilReady).store.writing ≠ none
      ∧ (0x0900#16).toNat ∉ [0x0103, 0x0700] ∧ (0x0103#16).toNat = 0x0100 + (3 : Fin 4).val
      ∧ ((withConfig (fun c => { c with channels := .all ⟨1, 0, true, .add, true⟩ }) utilReady).config.channels.get 3).calLock = true
      ∧ (utilReady.config.channels.get 3).calLock = false
      ∧ (65535#32).toNat ≤ 65535 ∧ ¬ (65536#32).toNat ≤ 65535
      ∧ ((0xFA#32).extractLsb' 0 8).toInt = -6 ∧ ((0xFFF9#32).extractLsb' 0 8).toInt = -7
      ∧ (3600#32).toNat = 3600 ∧ utilReady.config.windowLen * 3600 ≤ 3600 ∧ ¬ 5 * utilReady.config.subLen ≤ 3600
      ∧ 3 < (4#8).toNat ∧ (3#8).toNat = (3 : Fin 4).val
      ∧ (ready .customer State.reset).TakesOperation .customer ∧ 1 < (2#8).toNat ∧ (1#8).toNat ≤ 1 :=
  ⟨⟨utilReady_takesConfig, rfl⟩, utilReady_takesConfig, by decide, by decide, by decide, rfl,
    rfl, by decide, by decide, by decide, by decide, by decide, by decide, by decide, by decide, by decide,
    ⟨⟨⟨rfl, rfl⟩, rfl⟩, rfl⟩, by decide, by decide⟩

/-! ### Billing and periods -/

/-- DateRequestsAndTheLockout: a freeze, the last period number, a close in flight, a lockout, each expiry. -/
theorem witness_DateRequestsAndTheLockout :
    let s := { fullQueue with due := { Due.nothing with dates := 1, lockout := true } }
    let last := { s with per := { s.per with number := 0xFFFFFFFF } }
    let out := { s with per := { s.per with lockout := 1, deferred := some .dateLate } }
    s.sup.mainSupply = true ∧ s.due.dates ≠ 0 ∧ (s.per.close = .idle ∧ s.per.lockout = 0 ∧ s.per.number ≠ 0xFFFFFFFF)
      ∧ last.per.number = 0xFFFFFFFF ∧ last.per.close = .idle ∧ closingQueue.per.close ≠ .idle
      ∧ out.due.lockout = true ∧ out.per.lockout = 1 ∧ out.per.close = .idle ∧ out.per.deferred = some .dateLate
      ∧ s.per.deferred = none := by decide +kernel

/-- ApparentDemandAndPowerFactor: the cap on both sides, and 0 on each. -/
theorem witness_ApparentDemandAndPowerFactor :
    apparentOf 0 0 = 0 ∧ 0 < apparentOf 4294967295 0 ∧ 4294967295 ≤ (4294967295 : Nat)
      ∧ apparentOf 4294967295 4294967295 = 4294967295 := by decide +kernel

/-- AveragePowerFactor: no energy, reactive energy alone, active energy alone. -/
theorem witness_AveragePowerFactor :
    let x := fun (p q : Energy) => ({ period1 with energy := .all ⟨p, 0, 0, 0, q⟩ } : Snapshot)
    ((x 0 0).energy.rA.pp).toNat / 1000 = 0 ∧ ((x 0 0).energy.rA.eq).toNat / 1000 = 0
      ∧ 0 < ((x 0 1000).energy.rA.eq).toNat / 1000 ∧ 0 < ((x 1000 999).energy.rA.pp).toNat / 1000
      ∧ ((x 1000 999).energy.rA.eq).toNat / 1000 = 0 ∧ period1.record.pfAvg < 8001 := by decide +kernel

theorem witness_ExcessReactiveEnergy :
    period1.settings.excessOn = true ∧ ((period1.energy.get (.one .r6)).pp).toNat < 1000
      ∧ period1.ratePresent.has .r2 = true ∧ period1.record.blocks.length = 2 := by decide +kernel

/-- BaseDemand: a billable record present, and every record empty. -/
theorem witness_BaseDemand :
    period1.settings.billable.has .r1 = true ∧ period1.settings.basis = .kw ∧ ((period1.maxima.get (.one .r1)).kw).isSome = true
      ∧ ({ period1 with maxima := .all ⟨none, none⟩ } : Snapshot).maxima.get .all = ⟨none, none⟩ := by decide +kernel

/-- RatchetFloorAndUnadjusted: a list with its largest entry, an empty one, and the three rows of R98. -/
theorem witness_RatchetFloorAndUnadjusted :
    ((∀ v ∈ period1.ratchet, v ≤ 612000) ∧ 612000 ∈ period1.ratchet)
      ∧ ((∀ v ∈ ({ period1 with ratchet := [] } : Snapshot).ratchet, v ≤ 0) ∧ ({ period1 with ratchet := [] } : Snapshot).ratchet = [])
      ∧ (period1.record.floor ≤ period1.record.base ∧ period1.settings.contractMin ≤ period1.record.base)
      ∧ (let y : Snapshot := { period1 with maxima := .all ⟨none, none⟩ }
         y.record.base < y.record.floor ∧ y.settings.contractMin ≤ y.record.floor)
      ∧ (let z : Snapshot := { period1 with maxima := .all ⟨none, none⟩, ratchet := [] }
         z.record.base < z.settings.contractMin ∧ z.record.floor < z.settings.contractMin)
      ∧ ({ period1 with settings := { period1.settings with ratchetPct := 100 } } : Snapshot).settings.ratchetPct = 100 := by
  decide +kernel

/-- PowerFactorAdjustment: enabled on a kW basis, and each way it is not. -/
theorem witness_PowerFactorAdjustment :
    (period1.settings.InRange ∧ period1.record.unadjusted ≤ 4294967295)
      ∧ (period1.settings.pfAdjustOn = true ∧ period1.settings.basis = .kw)
      ∧ (let st : BillSettings := { period1.settings with basis := .kva, pfRef := 10000, pfFloor := 10000 }
         st.InRange ∧ st.basis = .kva)
      ∧ usedPF { period1.settings with pfRef := 8000 } 8000 = 8000 := by
  unfold BillSettings.InRange
  decide +kernel

/-- BillingCloseFreezes: each refusal and the freeze. -/
theorem witness_BillingCloseFreezes :
    (fullQueue.TakesOperation .utility ∧ fullQueue.per.close = .idle ∧ fullQueue.per.lockout = 0 ∧ fullQueue.per.number ≠ 0xFFFFFFFF)
      ∧ (closingQueue.TakesOperation .utility ∧ closingQueue.per.close ≠ .idle)
      ∧ (let s := { fullQueue with per := { fullQueue.per with lockout := 1 } }
         s.TakesOperation .utility ∧ s.per.close = .idle ∧ s.per.lockout ≠ 0)
      ∧ (let s := { fullQueue with per := { fullQueue.per with number := 0xFFFFFFFF } }
         s.TakesOperation .utility ∧ s.per.close = .idle ∧ s.per.lockout = 0 ∧ s.per.number = 0xFFFFFFFF)
      ∧ ((ready .customer fullQueue).Selected .customer ∧ (held fullQueue).Selected .utility ∧ (held fullQueue).sup.hold = true) := by
  unfold State.TakesOperation State.TakesPort State.Selected
  decide +kernel

/-- CloseCompletionFilesTheRecord: CLOSING with a full queue and RESUMING, with and without a deferred close. -/
theorem witness_CloseCompletionFilesTheRecord :
    let x : Snapshot := { period1 with number := 20 }
    let r := { closingQueue with per := { closingQueue.per with close := .resuming x, deferred := some .date } }
    closingQueue.sup.mainSupply = true ∧ closingQueue.per.close = .closing x ∧ 13 ≤ closingQueue.per.history.length
      ∧ closingQueue.per.deferred = none ∧ r.per.close = .resuming x ∧ r.per.lockout = 0 ∧ r.per.deferred = some .date
      ∧ r.per.number ≠ 0xFFFFFFFF := by decide +kernel

theorem witness_ButtonPressFreezes :
    let s := { fullQueue with pins := { fullQueue.pins with guard := true } }
    s.sup.mainSupply = true ∧ s.pins.close = false ∧ s.pins.guard = true ∧ s.sup.hold = false ∧ s.per.close = .idle
      ∧ s.per.lockout = 0 ∧ s.per.number ≠ 0xFFFFFFFF ∧ fullQueue.pins.guard = false
      ∧ ({ s with pins := { s.pins with close := true } } : State).pins.close = true := by decide +kernel

/-- PreviewRunsOnItsCopy: in Hold, in a close, accepted, and a copy to complete. -/
theorem witness_PreviewRunsOnItsCopy :
    (fullQueue.Selected .utility ∧ fullQueue.sup.hold = false ∧ fullQueue.per.close = .idle ∧ fullQueue.util.preview = none)
      ∧ ((held fullQueue).Selected .utility ∧ (held fullQueue).sup.hold = true)
      ∧ (closingQueue.Selected .utility ∧ closingQueue.per.close ≠ .idle)
      ∧ ({ fullQueue with util := { fullQueue.util with preview := some period1 } } : State).util.preview = some period1 := by
  unfold State.Selected
  decide +kernel

/-- ClearsEmptyTheirRecord: each refusal and acceptance, and a completion with and without a record held. -/
theorem witness_ClearsEmptyTheirRecord :
    let s := { fullQueue with log := { fullQueue.log with clearBusy := true } }
    let u := { s with log := { s.log with slot := some ⟨.close, .r1, 0, ⟨0, 0⟩, [20]⟩ } }
    (fullQueue.TakesConfig ∧ fullQueue.per.close = .idle ∧ fullQueue.log.clearBusy = false) ∧ closingQueue.per.close ≠ .idle
      ∧ (s.log.Safe ∧ s.log.clearBusy = true ∧ s.log.slot = none) ∧ (u.log.Safe ∧ u.log.slot ≠ none) := by
  unfold State.TakesConfig State.Unlocked State.TakesOperation State.TakesPort State.Selected ProfileLog.Safe LogBody.LengthSafe
  decide +kernel

/-! ### Profile Log, Limit Monitor, ports and supply -/

/-- A log of three records with a cursor on one of them, and a port with a transaction begun. -/
def threeRecords (i : Nat) : State :=
  let b : LogBody := ⟨.restart, .r1, 0, ⟨0, 0⟩, []⟩
  { utilReady with log := { utilReady.log with nextSeq := 1, records := [⟨0xFFFFFFFE, b⟩, ⟨0xFFFFFFFF, b⟩, ⟨0, b⟩] }
                   util := { utilReady.util with cursor := ⟨0xFFFFFFFE + BitVec.ofNat 32 i, .atRecord, .forward, none⟩ } }

/-- ReadProfileWalksTheLog: from the oldest record and from the newest one, out of OVERRUN in both directions
and with a window, from each end, and with no record in the window; one record in full, and none; and a record
with the longest payload. -/
theorem witness_ReadProfileWalksTheLog :
    let s := threeRecords 0
    let at_ := fun (c : Cursor) => ({ s with util := { s.util with cursor := c } } : State)
    (s.TakesPort .utility ∧ s.log.Safe ∧ s.log.clearBusy = false)
      ∧ (s.util.cursor.state = .atRecord ∧ s.util.cursor.position = s.log.records[0].sequence)
      ∧ (threeRecords 2).util.cursor.position = (threeRecords 2).log.records[2].sequence
      ∧ (let o := at_ ⟨7, .overrun, .forward, some (0xFFFFFFFF, 0)⟩
         inWindow o.util.cursor.window o.log.records[1].sequence = true
           ∧ ∀ r ∈ o.log.records.take 1, inWindow o.util.cursor.window r.sequence = false)
      ∧ (let o := at_ ⟨7, .overrun, .backward, some (0xFFFFFFFE, 0xFFFFFFFF)⟩
         inWindow o.util.cursor.window o.log.records[1].sequence = true
           ∧ ∀ r ∈ o.log.records.drop 2, inWindow o.util.cursor.window r.sequence = false)
      ∧ (at_ ⟨1, .atEnd, .forward, none⟩).log.records ≠ [] ∧ (at_ ⟨1, .atEdge, .backward, none⟩).util.cursor.state = .atEdge
      ∧ (∀ r ∈ (at_ ⟨7, .overrun, .forward, some (5, 9)⟩).log.records, inWindow (some (5, 9)) r.sequence = false)
      ∧ 3 + 4 * ((s.log.records.take 1).map (fun r => r.body.words)).sum ≤ (List.replicate 19 (0#8)).length
      ∧ (List.replicate 19 (0#8)).length < 3 + 4 * ((s.log.records.take 2).map (fun r => r.body.words)).sum
      ∧ (⟨.data 15, .r6, 0x7FFF, ⟨65535, 86399⟩, List.replicate 20 0xFFFFFFFF⟩ : LogBody).payload.length ≤ 20 := by
  unfold State.TakesPort State.Selected ProfileLog.Safe LogBody.LengthSafe
  decide +kernel

/-- R136 and R137: BACKWARD out of OVERRUN, the newest record of the window is read, with GAP; its cursor then
stands on the record before it. -/
theorem test_backward_out_of_overrun :
    let s := threeRecords 0
    let s := { s with util := { s.util with cursor := ⟨7, .overrun, .backward, some (0xFFFFFFFE, 0xFFFFFFFF)⟩ } }
    let t := run (.selectRise .utility (0x1B :: 1 :: List.replicate 20 0) 0 false false) s
    (t.util.dataOut.getLast?, (t.util.dataOut.drop 9).take 4, t.util.cursor)
      = (some 3, [0xFF, 0xFF, 0xFF, 0xFF], ⟨0xFFFFFFFE, .atRecord, .backward, some (0xFFFFFFFE, 0xFFFFFFFF)⟩) := by
  decide +kernel

/-- R139: the placement of Set Profile Cursor is made once tag and result have been clocked out. -/
theorem test_cursor_placed_after_tag_and_result :
    [1, 2].map (fun n => (run (.selectRise .utility ([0x1F, 1, 0, 0, 0, 0, 0] ++ List.replicate n 0) 0 false false)
        (threeRecords 1)).util.cursor.position) = [0xFFFFFFFF, 0xFFFFFFFE] := by decide +kernel

/-- CursorCommandsPlace: unknown codes, a sequence outside a window, a clear, and a place for each target: the
oldest and the newest of a window, a held record, one before the oldest and one after the newest, none. -/
theorem witness_CursorCommandsPlace :
    let s := threeRecords 1
    let w := { s with util := { s.util with cursor := { s.util.cursor with window := some (0xFFFFFFFD, 0xFFFFFFFF) } } }
    let none_ := { s with util := { s.util with cursor := { s.util.cursor with window := some (5, 9) } } }
    (s.TakesPort .utility ∧ s.log.clearBusy = false ∧ s.log.records.head? = some ⟨0xFFFFFFFE, ⟨.restart, .r1, 0, ⟨0, 0⟩, []⟩⟩)
      ∧ 1 < (2#8).toNat ∧ 2 < (3#8).toNat ∧ inWindow none_.util.cursor.window 0 = false
      ∧ (1#8).toNat = Direction.backward.code ∧ (1#8).toNat ≤ 1 ∧ (0#8).toNat = Direction.forward.code
      ∧ (∀ r ∈ none_.log.records, inWindow none_.util.cursor.window r.sequence = false)
      ∧ (inWindow w.util.cursor.window w.log.records[1].sequence = true
          ∧ ∀ r ∈ w.log.records.drop 2, inWindow w.util.cursor.window r.sequence = false)
      ∧ (inWindow w.util.cursor.window w.log.records[0].sequence = true ∧ w.log.records.take 0 = [])
      ∧ (inWindow w.util.cursor.window 0xFFFFFFFD = true ∧ (∀ r ∈ w.log.records, r.sequence ≠ 0xFFFFFFFD)
          ∧ 2 ^ 31 ≤ ((0xFFFFFFFD : Seq) - 0xFFFFFFFE).toNat)
      ∧ (inWindow s.util.cursor.window 6 = true ∧ (∀ r ∈ s.log.records, r.sequence ≠ 6) ∧ ((6 : Seq) - 0xFFFFFFFE).toNat < 2 ^ 31)
      ∧ heldIn s.log.records 0xFFFFFFFF = true := by
  unfold State.TakesPort State.Selected
  decide +kernel

/-- CursorCommandsPlace: a placement to make whose record is held, whose end is, or whose record has left. -/
theorem witness_CursorCommandsPlace_checked :
    let s := threeRecords 1
    let of := fun (q : Seq) (x : CursorState) => ({ s with util := { s.util with
      tx := .replying 0x1F [0, 0] (.place 2 ⟨q, x, .forward, none⟩) } } : State)
    (of 0 .atRecord).sup.mainSupply = true ∧ 2 ≤ [(0#8), 0].length
      ∧ (of 0 .atRecord).util.tx = .replying 0x1F [0, 0] (.place 2 ⟨0, .atRecord, .forward, none⟩)
      ∧ heldIn s.log.records 0 = true ∧ s.log.nextSeq = 1 ∧ heldIn s.log.records 5 = false ∧ (5 : Seq) ≠ s.log.nextSeq := by
  decide +kernel

/-- SecondEventProjectsAndCompares: in Hold, at 29 and at 30 s, with too few entries in the ring, and at the
second that reaches each end. -/
theorem witness_SecondEventProjectsAndCompares :
    let ok := limited [1, 2] 30 5 ⟨.releasing, 1⟩
    let few := limited [1] 60 5 ⟨.clear, 0⟩
    (ok.NothingWaits ∧ ok.sup.mainSupply = true ∧ ok.sup.hold = false ∧ ok.config.windowLen - 1 ≤ ok.dem.ring.length
        ∧ 30 ≤ ok.sub.elapsed + 1)
      ∧ (limited [1, 2] 29 5 ⟨.clear, 0⟩).sub.elapsed + 1 < 30
      ∧ (few.NothingWaits ∧ few.dem.ring.length < few.config.windowLen - 1)
      ∧ ((held ok).NothingWaits ∧ (held ok).sup.hold = true)
      ∧ (cycleEnd.NothingWaits ∧ cycleEnd.sup.mainSupply = true ∧ cycleEnd.clock.now.tick = cycleEnd.sub.nominalEnd)
      ∧ ((synced 329).NothingWaits ∧ (synced 329).config.syncMode = .external) := by
  unfold State.NothingWaits
  decide +kernel

/-- WriteChecksInOrder: one command for each check, at the edges of the code ranges. -/
theorem witness_WriteChecksInOrder :
    (Instr.unknownCommand .utility 0x4A).wellFormed = true
      ∧ writeBytes (.unknownCommand .utility 0x4A) = some (.utility, .whole, 0x4A, [])
      ∧ writeBytes (.setEventMask .utility (.broken 1) 0x3FFF) = some (.utility, .broken 1, 0x33, [0x3F, 0xFF])
      ∧ writeBytes (.billingClose .customer .whole) = some (.customer, .whole, 0x40, [])
      ∧ writeBytes (.lockCalibration .utility .whole 3) = some (.utility, .whole, 0x55, [3])
      ∧ (utilReady.Selected .utility ∧ utilReady.sup.hold = false ∧ (utilReady.port .utility).latch = true)
      ∧ (¬ State.reset.Selected .utility) ∧ (held utilReady).sup.hold = true
      ∧ ¬ (withConfig (fun c => { c with lockMode := .guarded }) utilReady).Unlocked := by
  refine ⟨by decide, by decide +kernel, by decide +kernel, by decide +kernel, by decide +kernel, ⟨utilReady_selected, rfl, rfl⟩,
    ?_, rfl, ?_⟩
  · unfold State.Selected
    decide +kernel
  · unfold State.Unlocked
    decide +kernel

theorem witness_PortCommandsTakeEffect :
    utilReady.TakesPort .utility ∧ (ready .customer State.reset).TakesPort .customer := ⟨utilReady_takesPort, ⟨rfl, rfl⟩, rfl⟩

/-- ReadCommandsAnswer: each code at its edges, in and out of Hold. -/
theorem witness_ReadCommandsAnswer :
    (utilReady.Selected .utility ∧ utilReady.sup.hold = false) ∧ (held utilReady).sup.hold = true
      ∧ readBytes (.readDemand .utility) = some (.utility, 0x17, []) ∧ (0x17#8).toNat ∉ [0x10, 0x11, 0x15, 0x16]
      ∧ (7 ≤ (0x1F#8).toNat ∧ (0x1F#8).toNat ≠ 0x0A ∧ (0x1F#8).toNat < 0x20) ∧ 0x23 < (0x24#8).toNat
      ∧ (0x0A#8).toNat = RateSet.all.code ∧ (6#8).toNat = (RateSet.one .r6).code ∧ (0x23#8).toNat = 0x20 + (3 : Fin 4).val
      ∧ 12 < (13#8).toNat ∧ (13#8).toNat ≠ 0x80 ∧ (12#8).toNat ≤ 12 ∧ (12#8).toNat < fullQueue.per.history.length
      ∧ fullQueue.per.close = .idle ∧ closingQueue.per.close ≠ .idle ∧ utilReady.per.history.length ≤ (0#8).toNat
      ∧ utilReady.log.clearBusy = false ∧ utilReady.log.records = [] := by
  unfold State.Selected
  decide +kernel

/-- TransactionBytesRunTheirCommand: a whole command, a broken one, a read and a read cut short. -/
theorem witness_TransactionBytesRunTheirCommand :
    utilReady.Selected .utility
      ∧ writeBytes (.adjustTime .utility .whole 0xFC7C true) = some (.utility, .whole, 0x41, [0xFC, 0x7C])
      ∧ (Instr.adjustTime .utility .whole 0xFC7C true).wellFormed = true
      ∧ writeBytes (.adjustTime .utility (.broken 1) 0 false) = some (.utility, .broken [(0xFC#8)].length, 0x41, [0, 0])
      ∧ [0xFC].length ≠ [0, 0].length
      ∧ readBytes (.readSchedule .utility 1 5) = some (.utility, 0x12, [1, 5]) ∧ [1].length < [1, 5].length
      ∧ ∃ t, exec (.readSchedule .utility 1 5) utilReady = .next t :=
  ⟨utilReady_selected, by decide +kernel, rfl, by decide +kernel, by decide, by decide +kernel, by decide, _, rfl⟩

/-- SelectAndPortReset: a port at rest, each pattern count, and a reply due. -/
theorem witness_SelectAndPortReset :
    (State.reset.sup.mainSupply = true ∧ (State.reset.port .utility).tx = .idle)
      ∧ (∀ n ∈ [0, 1, 2, 3], ({ utilReady with util := { utilReady.util with pattern := n } } : State).Selected .utility
          ∧ (({ utilReady with util := { utilReady.util with pattern := n } } : State).port .utility).pattern = n)
      ∧ ((run (.readTime .utility) utilReady).sup.mainSupply = true
          ∧ ∃ r e, ((run (.readTime .utility) utilReady).port .utility).tx = .replying 0x11 r e) := by
  refine ⟨by decide +kernel, ?_, by decide +kernel, _, _, rfl⟩
  unfold State.Selected
  decide +kernel

/-- AttentionFetchClears: no flag that counts, SUPPLY_WARN, and group 8 alone. -/
theorem witness_AttentionFetchClears :
    let u := fun (fl : BitVec 20) (m : BitVec 14) => ({ flags := fl, mask := m, enable := true, fresh := 0 } : AttentionUnit)
    utilReady.TakesPort .utility
      ∧ (u 0x80000 0).has .supplyWarn = false ∧ (u 1 0x3FFF).has .supplyWarn = true
      ∧ (u 0x4000 0x1FFF).has .scheduleSwitched = true ∧ AttnFlag.scheduleSwitched.bit = 2 * 8 - 2
      ∧ (u 0x4000 0x1FFF).mask.getLsbD (14 - 1) = false ∧ (u 0x4000 0x1FFF).mask.getLsbD (13 - 1) = true :=
  ⟨utilReady_takesPort, by decide +kernel⟩

theorem witness_EventTestClears :
    utilReady.TakesPort .utility ∧ (0#8).toNat = 0 ∧ 21 < (22#8).toNat ∧ (1#8).toNat = AttnFlag.supplyWarn.bit + 1
      ∧ (20#8).toNat = AttnFlag.startCold.bit + 1 := ⟨utilReady_takesPort, by decide +kernel⟩

theorem witness_HoldLevelsAndSupplyLoss :
    (State.reset.sup.mainSupply = true ∧ State.reset.pins.pfail = false) ∧ (held State.reset).pins.pfail = true
      ∧ (dark true State.reset).sup.mainSupply = false ∧ State.reset.config.syncMode = .internal
      ∧ (∀ b, Instr.boundaryEvent ≠ .secondEvent b) ∧ Instr.boundaryEvent ≠ .retentionInvalid := by decide +kernel

/-- WarmStartResumes: an outage past the nominal end over a close date, and one that ends before it. -/
theorem witness_WarmStartResumes :
    (afterOutage.sup.mainSupply = false ∧ afterOutage.sup.retentionValid = true ∧ afterOutage.config.syncMode = .internal)
      ∧ afterOutage.sup.lossInstant.until afterOutage.sub.nominalEnd ≤ afterOutage.sup.lossInstant.until afterOutage.clock.now
      ∧ passedInOutage afterOutage.sup.lossInstant afterOutage.clock.now ⟨1201, afterOutage.config.closeSecond⟩ = true
      ∧ afterOutage.config.pickupThreshold ≤ (afterOutage.sup.outageStart).until afterOutage.clock.now
      ∧ (let s := { afterOutage with clock := { afterOutage.clock with now := ⟨1200, 50399⟩ } }
         s.sup.lossInstant.until s.clock.now < s.sup.lossInstant.until s.sub.nominalEnd
           ∧ (s.sup.outageStart).until s.clock.now < s.config.pickupThreshold
           ∧ passedInOutage s.sup.lossInstant s.clock.now ⟨1201, s.config.closeSecond⟩ = false)
      ∧ (∃ x, afterOutage.per.close = .closing x) ∧ State.reset.per.close = .idle :=
  ⟨by decide +kernel, by decide +kernel, by decide +kernel, by decide +kernel, by decide +kernel, ⟨_, rfl⟩, rfl⟩

/-- WarmStartResumes: a late close that freezes; EXTERNAL mode on both sides of S + G; a clear in progress. -/
theorem witness_WarmStartResumes_frozen :
    (let s := { afterOutage with per := { afterOutage.per with close := .idle, lockout := 0 } }
     s.sup.mainSupply = false ∧ s.sup.retentionValid = true ∧ s.per.close = .idle ∧ s.per.lockout = 0
        ∧ s.per.number ≠ 0xFFFFFFFF ∧ (∃ d ∈ s.store.closeDates,
          passedInOutage s.sup.lossInstant s.clock.now ⟨d, s.config.closeSecond⟩ = true))
      ∧ (withConfig (fun c => { c with syncMode := .external }) afterOutage).config.syncMode = .external
      ∧ (synced 329).sub.elapsed < 300 + 30 ∧ ¬ (synced 330).sub.elapsed < 300 + 30
      ∧ ({ afterOutage with log := { afterOutage.log with clearBusy := true } } : State).sup.retentionValid = true := by
  decide +kernel

theorem witness_ResetRestarts :
    let s := { utilReady with util := { utilReady.util with arm := true } }
    (utilReady.TakesOperation .utility ∧ utilReady.util.arm = false)
      ∧ (s.TakesOperation .utility ∧ s.util.arm = true ∧ s.per.close = .idle ∧ s.store.writing = none)
      ∧ (storingItem (.lockMode .opened) s).store.writing ≠ none := by
  unfold State.TakesOperation State.TakesPort State.Selected
  decide +kernel

/-- ResetRestarts: a RESTART record whose window is eligible, and one that the pickup counter keeps out. -/
theorem witness_ResetRestarts_windows :
    let s := { utilReady with util := { utilReady.util with arm := true }, sub := { utilReady.sub with elapsed := 900 } }
    (run (.reset .utility .whole) s).dem.window.map Window.eligible = some true
      ∧ (run (.reset .utility .whole) { s with dem := { s.dem with pickup := 1 } }).dem.window.map Window.eligible
          = some false := by decide +kernel

end Sys2Proof.Tests
end

section
/-! PROOFS. The close of a sub-interval by its end events: sums, status sets, flags and the record (R22, R46 to R52). -/

namespace Sys2Proof.Machine

/-! ### The sums of a close (R50, R51) -/

/-- The sum over a list of four, as a sum over the channels. -/
theorem PerFour.toList_sum (x : PerFour Nat) : x.toList.sum = ∑ i, x.get i := by
  simp [PerFour.toList, PerFour.get, Fin.sum_univ_four, Nat.add_assoc]

/-- The weighted sum over the partials as they stand, channel by channel (R50). -/
theorem weightedSum_partials (s : State) (w : Weight) (q : Quantity) :
    weightedSum w s.config s.partials q = s.sumOver w q := by
  rw [weightedSum, PerFour.toList_sum]
  exact Finset.sum_congr rfl fun i _ => by simp only [PerFour.get_zipWith, State.partials, PerFour.get_map]

/-- A total is the exact difference, taken as 0 below 0 and as 2^64 − 1 above it (R50). -/
theorem totalOf_toNat (s : State) (q : Quantity) :
    (totalOf s.config s.partials q).toNat = min (s.sumOver .add q - s.sumOver .subtract q) (2 ^ 64 - 1) := by
  rw [totalOf, satEnergy_toNat, weightedSum_partials, weightedSum_partials]

/-- NEGTOTAL's condition: some quantity's subtracted sum exceeds its added one (R50). -/
theorem anyNegative_iff (s : State) :
    anyNegative s.config s.partials = true ↔ ∃ q, s.sumOver .add q < s.sumOver .subtract q := by
  have every : ∀ q : Quantity, q ∈ [Quantity.impActive, .expActive, .lagging, .leading] := fun q => by cases q <;> decide
  simp only [anyNegative, List.any_eq_true, every, true_and, totalNegative, decide_eq_true_eq, weightedSum_partials]

/-- Eq from the clamped totals, by the reactive mode (R51). -/
theorem reactiveOf_toNat (mode : ReactiveMode) (qp qm : Energy) :
    (reactiveOf mode qp qm).toNat = match mode with
      | .lagOnly => qp.toNat
      | .lagPlusLead => min (qp.toNat + qm.toNat) (2 ^ 64 - 1)
      | .lagMinusLead => qp.toNat - qm.toNat := by
  cases mode with
  | lagOnly => rfl
  | lagPlusLead => exact satEnergy_toNat _
  | lagMinusLead =>
    by_cases h : qm.toNat ≤ qp.toNat
    · simp only [reactiveOf, if_pos h]
      exact BitVec.toNat_sub_of_le h
    · simp only [reactiveOf, if_neg h]
      exact (Nat.sub_eq_zero_of_le (Nat.le_of_not_le h)).symm

/-! ### The status of a record, and the status the next sub-interval opens with (R46, R49, R185) -/

/-- What the record's status set holds (R46, R50, R185). -/
theorem closingStatus_has (cause : StatusSet) (s : State) (f : StatusFlag) :
    (closingStatus cause s).has f = true ↔ s.sub.status.has f = true ∨ cause.has f = true
      ∨ (f = .outage ∧ s.sup.hold = true) ∨ (f = .negTotal ∧ ∃ q, s.sumOver .add q < s.sumOver .subtract q) := by
  rw [← anyNegative_iff]
  simp only [closingStatus, StatusSet.has_markIf, StatusSet.has_or, Bool.or_eq_true, Bool.and_eq_true, decide_eq_true_eq]
  tauto

/-- What the status set of a new sub-interval holds (R49). -/
theorem openingStatus_has (s : State) (f : StatusFlag) :
    (openingStatus s).has f = true ↔ (f = .noTime ∧ s.clock.timeValid = false)
      ∨ (f = .stall ∧ ∃ d, (s.chans.get d).state = .stalled) := by
  have stalled : (s.chans.toList.any fun ch => ch.state == .stalled) = true ↔ ∃ d, (s.chans.get d).state = .stalled := by
    simp [PerFour.toList, PerFour.get, Fin.exists_fin_succ]
  simp only [openingStatus, StatusSet.has_markIf, StatusSet.has_zero, Bool.or_eq_true, Bool.and_eq_true, stalled,
    decide_eq_true_eq, Bool.not_eq_true', Bool.false_eq_true, false_or]
  tauto

/-! ### The flags that the parts of a close raise (R52, R78, R135, R175) -/

/-- A flag raised on a condition. -/
theorem State.raiseIf_has (s : State) (c : Bool) (p : Port) (f g : AttnFlag) :
    ((s.raiseIf c f).port p).attn.has g = ((s.port p).attn.has g || (c && decide (g = f))) := by
  cases c <;> simp [State.raiseIf, State.raise_has]

/-- A port at a write of the log takes no flag but LOG_OVERRUN (R135). -/
theorem PortState.afterWrite_has (x : PortState) (before kept : List LogRecord) (new : Seq) {g : AttnFlag}
    (h : g ≠ .logOverrun) : (x.afterWrite before kept new).attn.has g = x.attn.has g := by
  unfold PortState.afterWrite
  split
  · split
    · simp [AttentionUnit.has_raise, h]
    · rfl
  · split <;> rfl
  · rfl

/-- A record that comes to the log raises no flag but LOG_OVERRUN (R135, R142). -/
theorem logRecord_has (b : LogBody) (s : State) (p : Port) {g : AttnFlag} (h : g ≠ .logOverrun) :
    ((logRecord b s).port p).attn.has g = (s.port p).attn.has g := by
  unfold logRecord
  split
  · rw [slotRecord, State.setLog_port]
  · cases p <;> exact PortState.afterWrite_has _ _ _ _ h

/-- An arrival at the Demand Engine raises no flag but NEW_MAX_KW and NEW_MAX_KVA (R78). -/
theorem demandArrival_has (r : SubRecord) (s : State) (p : Port) {g : AttnFlag} (hw : g ≠ .newMaxKW) (hva : g ≠ .newMaxKVA) :
    ((demandArrival r s).port p).attn.has g = (s.port p).attn.has g := by
  simp [demandArrival, State.raiseIf_has, hw, hva]

/-- A SCHEDULE marker raises no flag but LOG_OVERRUN (R135). -/
theorem scheduleMarker_has (effective : Option Nat) (s : State) (p : Port) {g : AttnFlag} (h : g ≠ .logOverrun) :
    ((scheduleMarker effective s).port p).attn.has g = (s.port p).attn.has g := by
  cases effective with
  | none => rfl
  | some day => exact logRecord_has _ s p h

/-- A record handed on raises no flag but those of the maxima and of the log (R52, R78, R135). -/
theorem handOn_has (r : SubRecord) (effective : Option Nat) (s : State) (p : Port) {g : AttnFlag}
    (hw : g ≠ .newMaxKW) (hva : g ≠ .newMaxKVA) (hlog : g ≠ .logOverrun) :
    ((handOn r effective s).port p).attn.has g = (s.port p).attn.has g := by
  rw [handOn, resetProjection, setProjection, State.setLim_port, scheduleMarker_has _ _ p hlog, logData,
    logRecord_has _ _ p hlog, State.setLog_port, demandArrival_has r s p hw hva]

/-- An activation at a start raises no flag but SCHEDULE_SWITCHED (R39). -/
theorem activateAtStart_has (s : State) (p : Port) {g : AttnFlag} (h : g ≠ .scheduleSwitched) :
    ((activateAtStart s).port p).attn.has g = (s.port p).attn.has g := by
  unfold activateAtStart
  split
  · simp [activateSchedule, refreshDayType, State.raise_has, h]
  · rfl

/-- The sub-interval that an opening places: the activation that is due comes first (R33, R39, R49). -/
theorem openNext_sub (start : Instant) (s : State) : (openNext start s).sub = (placeSub start (activateAtStart s)).sub := by
  rw [openNext, State.raiseIf_sub]

/-- The flags after an opening: RATE_CHANGE where the rate differs, and SCHEDULE_SWITCHED (R39, R49). -/
theorem openNext_has (start : Instant) (s : State) (p : Port) {g : AttnFlag} (h : g ≠ .scheduleSwitched) :
    ((openNext start s).port p).attn.has g
      = ((s.port p).attn.has g || ((openNext start s).sub.rate != s.sub.rate && decide (g = .rateChange))) := by
  rw [openNext_sub, openNext, State.raiseIf_has, placeSub, State.setSub_port, activateAtStart_has s p h]

/-- Steps 1 to 7 of a close, as updates: the Totalizer files the record, the partials are cleared, and the
two flags follow (R52). -/
theorem takeClose_eq (cause : StatusSet) (stop : Instant) (s : State) :
    takeClose cause stop s
      = (((s.setTot (s.tot.filed (closingRecord cause stop s) s.cumulative)).setChans
            (s.chans.map fun ch => { ch with part := .all 0 })).raiseIf
          (anyTotalRolled s.config s.tot.acc (s.tot.filed (closingRecord cause stop s) s.cumulative).acc
            || anyChannelRolled s.config s.tot.marks s.cumulative) .regRollover).raise .subintEnd := rfl

@[simp] theorem takeClose_tot (cause : StatusSet) (stop : Instant) (s : State) :
    (takeClose cause stop s).tot = s.tot.filed (closingRecord cause stop s) s.cumulative := by
  simp [takeClose_eq]

@[simp] theorem takeClose_chans (cause : StatusSet) (stop : Instant) (s : State) :
    (takeClose cause stop s).chans = s.chans.map fun ch => { ch with part := .all 0 } := by
  simp [takeClose_eq]

/-- The flags after steps 1 to 7 of a close: SUBINT_END, and REG_ROLLOVER where a register rolled (R52). -/
theorem takeClose_has (cause : StatusSet) (stop : Instant) (s : State) (p : Port) (g : AttnFlag) :
    ((takeClose cause stop s).port p).attn.has g = ((s.port p).attn.has g
      || ((anyTotalRolled s.config s.tot.acc (takeClose cause stop s).tot.acc
          || anyChannelRolled s.config s.tot.marks s.cumulative) && decide (g = .regRollover))
      || decide (g = .subintEnd)) := by
  rw [takeClose_tot, takeClose_eq, State.raise_has, State.raiseIf_has, State.setChans_port, State.setTot_port]

/-! ### A close at the present instant (R46 to R52) -/

@[simp] theorem closeNow_tot (cause : StatusSet) (s : State) :
    (closeNow cause s).tot = s.tot.filed (closingRecord cause s.clock.now s) s.cumulative := by
  simp [closeNow, closeWith]

@[simp] theorem closeNow_chans (cause : StatusSet) (s : State) :
    (closeNow cause s).chans = s.chans.map fun ch => { ch with part := .all 0 } := by
  simp [closeNow, closeWith]

/-- What the next sub-interval is after a close: opened at the present instant, with the rate of the schedule
then active (R33, R49). -/
theorem closeNow_sub (cause : StatusSet) (s : State) :
    (closeNow cause s).sub =
      { start := s.clock.now, nominalEnd := nominalEndOf s.config s.clock.now, elapsed := 0,
        rate := rateAt (closeNow cause s).store.active s.config.weekdayOffset s.clock.now,
        status := openingStatus (takeClose cause s.clock.now s) } := by
  simp [closeNow, closeWith, openNext, placeSub, State.rateFor, openingStatus]

/-- The flags after a close, but for those of the log, the maxima, the registers and the schedule: SUBINT_END,
and RATE_CHANGE where the rate differs (R49, R52). -/
theorem closeNow_has (cause : StatusSet) (s : State) (p : Port) {g : AttnFlag}
    (h : g ∉ [.newMaxKW, .newMaxKVA, .logOverrun, .scheduleSwitched, .regRollover]) :
    ((closeNow cause s).port p).attn.has g = ((s.port p).attn.has g || decide (g = .subintEnd)
      || ((closeNow cause s).sub.rate != s.sub.rate && decide (g = .rateChange))) := by
  simp only [List.mem_cons, List.not_mem_nil, or_false, not_or] at h
  obtain ⟨hw, hva, hlog, hswitch, hroll⟩ := h
  rw [closeNow, closeWith, handOn_has _ _ _ p hw hva hlog, openNext_has _ _ p hswitch, id_eq, takeClose_has, handOn_sub,
    takeClose_sub]
  simp [hroll]

/-! ### The three events that end a sub-interval (R22, R26, R27) -/

/-- What the lengths give at a boundary (R22, R23). -/
theorem lengthStatus_internal {cfg : Config} (h : cfg.syncMode = .internal) (elapsed : Nat) (f : StatusFlag) :
    (lengthStatus cfg elapsed).has f = true ↔
      f ∈ (if elapsed < cfg.subLen then [.short] else if cfg.subLen < elapsed then [.long] else [] : List StatusFlag) := by
  simp only [lengthStatus, h, StatusSet.has_markIf, StatusSet.has_zero]
  rcases Nat.lt_trichotomy elapsed cfg.subLen with hlt | heq | hgt
  · simp [hlt, Nat.lt_asymm hlt]
  · simp [heq]
  · simp [hgt, Nat.lt_asymm hgt]

/-- What the length gives at a sync pulse (R26). -/
theorem lengthStatus_external {cfg : Config} (h : cfg.syncMode = .external) (elapsed : Nat) (f : StatusFlag) :
    (lengthStatus cfg elapsed).has f = true ↔
      f ∈ (if elapsed < cfg.subLen - cfg.grace then [.short] else [] : List StatusFlag) := by
  simp only [lengthStatus, h, StatusSet.has_markIf, StatusSet.has_zero]
  by_cases hlt : elapsed < cfg.subLen - cfg.grace <;> simp [hlt]

/-- What a sync expiry gives (R27). -/
theorem expiryStatus_has (cfg : Config) (f : StatusFlag) :
    (expiryStatus cfg).has f = true ↔ f ∈ (if 0 < cfg.grace then [.noSync, .long] else [.noSync] : List StatusFlag) := by
  by_cases hg : 0 < cfg.grace <;> simp [expiryStatus, StatusSet.has_markIf, StatusSet.has_single, hg]

/-- A sync pulse in EXTERNAL mode sets its pin and closes the open sub-interval (R26). -/
theorem syncPulse_external {s : State} (h : s.config.syncMode = .external) :
    syncPulse s = closeNow (lengthStatus s.config s.sub.elapsed) (s.setPins { s.pins with sync := true }) := by
  unfold syncPulse
  dsimp only
  split
  next hmode => exact SyncMode.noConfusion (hmode.symm.trans h)
  next => rfl

/-- A command that is an end event closes the open sub-interval at the present instant, with the status of its
cause; a sync pulse first sets its own pin (R22, R26, R27). -/
theorem exec_of_endStatus {c : Instr} {s : State} {cause : List StatusFlag} (h : s.endStatus c = some cause) :
    ∃ status pins, exec c s = .next (closeNow status (s.setPins pins)) ∧ ∀ f, status.has f = true ↔ f ∈ cause := by
  cases c with
  | boundaryEvent =>
    obtain ⟨⟨hrun, hmode, hend⟩, hcause⟩ := Option.ite_none_right_eq_some.mp h
    obtain rfl := Option.some.inj hcause
    refine ⟨lengthStatus s.config s.sub.elapsed, s.pins, ?_, lengthStatus_internal hmode _⟩
    show Host.Outcome.next (whileRunning takeBoundary s) = _
    simp [whileRunning, takeBoundary, State.boundaryDue, hrun, hmode, hend]
  | syncPulse =>
    obtain ⟨⟨hrun, hmode, hpin⟩, hcause⟩ := Option.ite_none_right_eq_some.mp h
    obtain rfl := Option.some.inj hcause
    refine ⟨lengthStatus s.config s.sub.elapsed, { s.pins with sync := true }, ?_, lengthStatus_external hmode _⟩
    show Host.Outcome.next (whileRunning (fun s => if s.pins.sync then s else syncPulse s) s) = _
    simp [whileRunning, syncPulse_external hmode, hrun, hpin]
  | syncExpiry =>
    obtain ⟨⟨hrun, hmode, hover⟩, hcause⟩ := Option.ite_none_right_eq_some.mp h
    obtain rfl := Option.some.inj hcause
    refine ⟨expiryStatus s.config, s.pins, ?_, expiryStatus_has _⟩
    show Host.Outcome.next (whileRunning takeExpiry s) = _
    simp [whileRunning, takeExpiry, State.expiryDue, closeExpired, hrun, hmode, hover]
  | _ => cases h

/-! ### The nominal end (R22) -/

/-- The nominal end, spelled in days of 86400 seconds and a cycle of 65536 days (R19, R22). -/
theorem nominalEndOf_eq (cfg : Config) (start : Instant) :
    nominalEndOf cfg start = match cfg.syncMode with
      | .internal =>
        if (start.sec / cfg.subLen + 1) * cfg.subLen < 86400 then
          ⟨start.day, (start.sec / cfg.subLen + 1) * cfg.subLen⟩
        else ⟨(start.day + 1) % 65536, 0⟩
      | .external =>
        ⟨(start.day * 86400 + start.sec + cfg.subLen) / 86400 % 65536,
          (start.day * 86400 + start.sec + cfg.subLen) % 86400⟩ := by
  unfold nominalEndOf
  cases cfg.syncMode with
  | internal => rfl
  | external =>
    show Instant.ofAbs (cfg.subLen + (start.day * 86400 + start.sec)) = _
    rw [Nat.add_comm cfg.subLen]
    rfl

/-- Settles O22: each end event is a close at the present instant, whose record, opening and totals the lemmas
about `closeNow` and `closingRecord` give. -/
theorem endEventsBuildTheRecord : Obligations.EndEventsBuildTheRecord := by
  unfold Obligations.EndEventsBuildTheRecord
  refine ⟨fun c s cause h => ?_, fun c s cause h => ?_, nominalEndOf_eq⟩
  · obtain ⟨status, pins, hexec, hcause⟩ := exec_of_endStatus h
    have htot := closeNow_tot status (s.setPins pins)
    have hsub := closeNow_sub status (s.setPins pins)
    refine ⟨_, _, hexec, congrArg Totalizer.last htot, congrArg Totalizer.lastSeq htot, rfl, rfl, rfl, rfl,
      PerFour.get_map Channel.part s.chans, fun f => ?_, congrArg OpenSub.start hsub, congrArg OpenSub.elapsed hsub,
      congrArg OpenSub.nominalEnd hsub, congrArg OpenSub.rate hsub, fun f => ?_, fun d => ?_, fun p => ?_, fun p => ?_,
      closeNow_clock_now _ _, closeNow_per _ _, closeNow_sup _ _, closeNow_store_config _ _⟩
    · rw [← hcause]
      exact closingStatus_has status (s.setPins pins) f
    · rw [hsub]
      exact (openingStatus_has _ f).trans (by simp)
    · rw [closeNow_chans, PerFour.get_map, State.setPins_chans]
    · simp [closeNow_has _ _ p]
    · simp [closeNow_has _ _ p]
  · obtain ⟨status, pins, hexec, -⟩ := exec_of_endStatus h
    exact ⟨_, _, hexec, congrArg Totalizer.last (closeNow_tot _ _), totalOf_toNat s _, totalOf_toNat s _, totalOf_toNat s _,
      totalOf_toNat s _, reactiveOf_toNat s.config.reactive _ _⟩

end Sys2Proof.Machine
end

section
/-! PROOFS. The demand arithmetic: the apparent demand and the power factor of a window (R67, R68). -/

namespace Sys2Proof.Machine

/-! ### The rounded root (R67) -/

/-- The root of R67 is the library's, for every number that two demands can give. -/
theorem isqrt_eq_sqrt {x : Nat} (h : x < 2 ^ 66) : isqrt x = Nat.sqrt x := Nat.eq_sqrt.mpr (isqrt_spec x h)

/-- The squares of two demands within the cap sum to less than 2^65. -/
theorem sumSquares_lt {dp dq : Nat} (hp : dp ≤ demandCap) (hq : dq ≤ demandCap) : dp * dp + dq * dq < 2 ^ 65 :=
  calc dp * dp + dq * dq ≤ demandCap * demandCap + demandCap * demandCap :=
        Nat.add_le_add (Nat.mul_self_le_mul_self hp) (Nat.mul_self_le_mul_self hq)
    _ < 2 ^ 65 := by decide

/-- The apparent demand from the root `f` of the sum: the remainder says whether it rounds up (R67). -/
theorem apparentOf_eq {dp dq f : Nat} (hp : dp ≤ demandCap) (hq : dq ≤ demandCap) (hf : f = Nat.sqrt (dp * dp + dq * dq)) :
    apparentOf dp dq = min demandCap (if f < dp * dp + dq * dq - f * f then f + 1 else f) := by
  rw [apparentOf, isqrt_eq_sqrt ((sumSquares_lt hp hq).trans (by decide)), hf]

/-- The two demands count alike (R67). -/
theorem apparentOf_comm (dp dq : Nat) : apparentOf dp dq = apparentOf dq dp := by
  rw [apparentOf, apparentOf, Nat.add_comm]

/-- The apparent demand is not below the active one: the root of the sum is not below the root of a part. -/
theorem le_apparentOf {dp dq : Nat} (hp : dp ≤ demandCap) (hq : dq ≤ demandCap) : dp ≤ apparentOf dp dq := by
  have root : dp ≤ Nat.sqrt (dp * dp + dq * dq) := Nat.le_sqrt.mpr (Nat.le_add_right _ _)
  rw [apparentOf_eq hp hq rfl]
  refine le_min hp ?_
  split
  · exact Nat.le_succ_of_le root
  · exact root

/-- With no other demand, the apparent demand is the demand: the root of a square leaves no remainder. -/
theorem apparentOf_zero {d : Nat} (h : d ≤ demandCap) : apparentOf d 0 = d := by
  have root : d = Nat.sqrt (d * d + 0 * 0) := (Nat.sqrt_eq d).symm
  rw [apparentOf_eq h (Nat.zero_le _) root, Nat.mul_zero, Nat.add_zero, Nat.sub_self, if_neg (Nat.not_lt_zero d)]
  exact Nat.min_eq_right h

/-! ### The power factor (R68) -/

/-- Where the active demand does not exceed the apparent one, the power factor does not exceed 1. -/
theorem windowPF_le {dp dva : Nat} (h : dp ≤ dva) : windowPF dp dva ≤ 10000 := by
  unfold windowPF
  split
  · exact Nat.lt_succ_iff.mp ((Nat.div_lt_iff_lt_mul (by omega)).mpr (by omega))
  · exact le_rfl

/-- Settles O37: the apparent demand is the library's root of the sum, rounded by its remainder. -/
theorem apparentDemandAndPowerFactor : Obligations.ApparentDemandAndPowerFactor := by
  unfold Obligations.ApparentDemandAndPowerFactor
  intro dp dq hp hq
  have hle : dp ≤ apparentOf dp dq := le_apparentOf hp hq
  refine ⟨sumSquares_lt hp hq, ⟨_, Nat.sqrt_le _, Nat.lt_succ_sqrt _, apparentOf_eq hp hq rfl⟩, hle, ?_, ?_, ?_,
    fun hzero => ?_, fun hpos => if_pos hpos, windowPF_le hle⟩
  · exact apparentOf_comm dq dp ▸ le_apparentOf hq hp
  · rintro rfl
    exact apparentOf_zero hp
  · rintro rfl
    exact (apparentOf_comm 0 dq).trans (apparentOf_zero hq)
  · rw [hzero]
    rfl

end Sys2Proof.Machine
end

section
/-! PROOFS. The arrival of a record at the Demand Engine: the window, the Maximum Records and their flags (R64,
R76 to R78). -/

namespace Sys2Proof.Machine

/-! ### The window of an arrival (R64, R70) -/

/-- The window that the arrival of a record makes (R64 steps 1 to 4). -/
def Demand.nextWindow (d : Demand) (cfg : Config) (r : SubRecord) : Window :=
  windowOf cfg (pushRing cfg.windowLen d.ring r.summary) d.pickup r

@[simp] theorem Demand.arrived_window (d : Demand) (cfg : Config) (r : SubRecord) :
    (d.arrived cfg r).window = some (d.nextWindow cfg r) := rfl

/-- The Maximum Records move at an eligible window alone (R76). -/
theorem Demand.arrived_maxima (d : Demand) (cfg : Config) (r : SubRecord) :
    (d.arrived cfg r).maxima =
      if (d.nextWindow cfg r).eligible then updateMaxima d.maxima (d.nextWindow cfg r) r.status else d.maxima := rfl

/-- A window is eligible where none of the three conditions fails (R70). -/
theorem Window.eligible_iff (w : Window) :
    w.eligible = true ↔ w.failFill = false ∧ w.failPickup = false ∧ w.failFlagged = false := by
  simp [Window.eligible, and_assoc]

/-- A window is not eligible where one of the three conditions fails (R70). -/
theorem Window.not_eligible_iff (w : Window) :
    ¬ w.eligible = true ↔ w.failFill = true ∨ w.failPickup = true ∨ w.failFlagged = true := by
  rw [Window.eligible_iff]
  simp only [not_and_or, Bool.not_eq_false]

/-! ### The Maximum Records (R76, R77) -/

/-- A value replaces a record that is empty or strictly smaller (R76). -/
theorem replacedBy_iff (old : Option MaxRecord) (value : Nat) :
    replacedBy old value = true ↔ ∀ m ∈ old, m.value < value := by
  cases old <;> simp [replacedBy]

/-- A rate set that is neither the window's rate nor rate A keeps its records (R76). -/
theorem updateMaxima_get_other (x : PerRate MaxPair) (w : Window) (st : StatusSet) {y : RateSet} (hone : y ≠ .one w.rate)
    (hall : y ≠ .all) : (updateMaxima x w st).get y = x.get y := by
  rw [updateMaxima, PerRate.get_set_other _ _ hall, PerRate.get_set_other _ _ hone]

/-- The window's rate and rate A are each judged by the window (R76). -/
theorem updateMaxima_get (x : PerRate MaxPair) (w : Window) (st : StatusSet) {y : RateSet} (h : y = .one w.rate ∨ y = .all) :
    (updateMaxima x w st).get y = (x.get y).updated w st := by
  obtain rfl | rfl := h
  · rw [updateMaxima, PerRate.get_set_other _ _ (by simp), PerRate.get_set_same]
  · rw [updateMaxima, PerRate.get_set_same]

/-- The kW record after a window (R76, R77). -/
theorem MaxPair.updated_kw (m : MaxPair) (w : Window) (st : StatusSet) :
    (m.updated w st).kw = if ∀ x ∈ m.kw, x.value < w.dp then
      some ⟨w.dp, w.stop, w.sequence, w.dq, w.dva, w.pf, st⟩ else m.kw := by
  simp only [← replacedBy_iff]
  rfl

/-- The kVA record after a window (R76, R77). -/
theorem MaxPair.updated_kva (m : MaxPair) (w : Window) (st : StatusSet) :
    (m.updated w st).kva = if ∀ x ∈ m.kva, x.value < w.dva then
      some ⟨w.dva, w.stop, w.sequence, w.dq, w.dp, w.pf, st⟩ else m.kva := by
  simp only [← replacedBy_iff]
  rfl

/-! ### NEW_MAX_KW and NEW_MAX_KVA (R78) -/

/-- A kW record replaced in rate A or in a billable rate (R78). -/
theorem newMaxKW_iff (billable : RateMask) (x : PerRate MaxPair) (w : Window) :
    newMaxKW billable x w = true ↔ (∀ m ∈ x.rA.kw, m.value < w.dp)
      ∨ (billable.has w.rate = true ∧ ∀ m ∈ (x.get (.one w.rate)).kw, m.value < w.dp) := by
  rw [newMaxKW, Bool.or_eq_true, Bool.and_eq_true, replacedBy_iff, replacedBy_iff]

/-- A kVA record replaced in rate A or in a billable rate (R78). -/
theorem newMaxKVA_iff (billable : RateMask) (x : PerRate MaxPair) (w : Window) :
    newMaxKVA billable x w = true ↔ (∀ m ∈ x.rA.kva, m.value < w.dva)
      ∨ (billable.has w.rate = true ∧ ∀ m ∈ (x.get (.one w.rate)).kva, m.value < w.dva) := by
  rw [newMaxKVA, Bool.or_eq_true, Bool.and_eq_true, replacedBy_iff, replacedBy_iff]

/-- An arrival, as updates of the Demand Engine and of the two flags (R64, R78). -/
theorem demandArrival_eq (r : SubRecord) (s : State) :
    demandArrival r s = ((s.setDem (s.dem.arrived s.config r)).raiseIf
        ((s.dem.nextWindow s.config r).eligible
          && newMaxKW s.config.bill.billable s.dem.maxima (s.dem.nextWindow s.config r)) .newMaxKW).raiseIf
        ((s.dem.nextWindow s.config r).eligible
          && newMaxKVA s.config.bill.billable s.dem.maxima (s.dem.nextWindow s.config r)) .newMaxKVA := rfl

/-- The Demand Engine after an arrival (R64). -/
theorem demandArrival_dem (r : SubRecord) (s : State) : (demandArrival r s).dem = s.dem.arrived s.config r := by
  rw [demandArrival_eq, State.raiseIf_dem, State.raiseIf_dem, State.setDem_dem]

/-- The flags after an arrival: NEW_MAX_KW and NEW_MAX_KVA, where an eligible window calls for them (R78). -/
theorem demandArrival_flags (r : SubRecord) (s : State) (p : Port) (g : AttnFlag) :
    let w := s.dem.nextWindow s.config r
    ((demandArrival r s).port p).attn.has g = ((s.port p).attn.has g
      || (w.eligible && newMaxKW s.config.bill.billable s.dem.maxima w && decide (g = .newMaxKW))
      || (w.eligible && newMaxKVA s.config.bill.billable s.dem.maxima w && decide (g = .newMaxKVA))) := by
  rw [demandArrival_eq, State.raiseIf_has, State.raiseIf_has, State.setDem_port]

/-! ### The arrival within a close (R52) -/

/-- The Demand Engine takes the record before the log and the Limit Monitor, which leave it (R52). -/
theorem handOn_dem (r : SubRecord) (effective : Option Nat) (s : State) :
    (handOn r effective s).dem = s.dem.arrived s.config r := by
  rw [handOn, resetProjection, setProjection, State.setLim_dem, scheduleMarker_dem, logData_dem, demandArrival_dem]

/-- What follows the arrival raises no flag but LOG_OVERRUN (R135). -/
theorem handOn_has_of_arrival (r : SubRecord) (effective : Option Nat) (s : State) (p : Port) {g : AttnFlag}
    (h : g ≠ .logOverrun) : ((handOn r effective s).port p).attn.has g = ((demandArrival r s).port p).attn.has g := by
  rw [handOn, resetProjection, setProjection, State.setLim_port, scheduleMarker_has _ _ p h, logData,
    logRecord_has _ _ p h, State.setLog_port]

/-- The state that a close at the present instant hands the record on to. -/
def closedAndOpened (cause : StatusSet) (s : State) : State := openNext s.clock.now (takeClose cause s.clock.now s)

theorem closeNow_eq (cause : StatusSet) (s : State) :
    closeNow cause s = handOn (closingRecord cause s.clock.now s) (takeClose cause s.clock.now s).activationAtStart
      (closedAndOpened cause s) := rfl

@[simp] theorem closedAndOpened_dem (cause : StatusSet) (s : State) : (closedAndOpened cause s).dem = s.dem := by
  simp [closedAndOpened]

@[simp] theorem closedAndOpened_config (cause : StatusSet) (s : State) : (closedAndOpened cause s).config = s.config := by
  simp [closedAndOpened, State.config]

/-- The Demand Engine after a close is that of an arrival of the record (R52, R64). -/
theorem closeNow_dem (cause : StatusSet) (s : State) :
    (closeNow cause s).dem = s.dem.arrived s.config (closingRecord cause s.clock.now s) := by
  rw [closeNow_eq, handOn_dem, closedAndOpened_dem, closedAndOpened_config]

/-- Of the flags of R78, the opening and the close itself raise none. -/
theorem closedAndOpened_has (cause : StatusSet) (s : State) (p : Port) {g : AttnFlag} (h : g = .newMaxKW ∨ g = .newMaxKVA) :
    ((closedAndOpened cause s).port p).attn.has g = (s.port p).attn.has g := by
  obtain rfl | rfl := h <;> simp [closedAndOpened, openNext_has, takeClose_has]

/-- The flags of R78 after a close: those that the arrival raises (R52, R78). -/
theorem closeNow_maxFlags (cause : StatusSet) (s : State) (p : Port) {g : AttnFlag} (h : g = .newMaxKW ∨ g = .newMaxKVA) :
    let w := s.dem.nextWindow s.config (closingRecord cause s.clock.now s)
    ((closeNow cause s).port p).attn.has g = ((s.port p).attn.has g
      || (w.eligible && newMaxKW s.config.bill.billable s.dem.maxima w && decide (g = .newMaxKW))
      || (w.eligible && newMaxKVA s.config.bill.billable s.dem.maxima w && decide (g = .newMaxKVA))) := by
  have notLog : g ≠ .logOverrun := by obtain rfl | rfl := h <;> decide
  rw [closeNow_eq, handOn_has_of_arrival _ _ _ p notLog, demandArrival_flags, closedAndOpened_has _ _ p h,
    closedAndOpened_dem, closedAndOpened_config]

/-- Settles O25: each end event is a close at the present instant, and its record arrives at the Demand Engine as
it stood before. -/
theorem endEventsSetTheMaxima : Obligations.EndEventsSetTheMaxima := by
  unfold Obligations.EndEventsSetTheMaxima
  intro c s cause h
  obtain ⟨status, pins, hexec, -⟩ := exec_of_endStatus h
  have hdem := closeNow_dem status (s.setPins pins)
  have hmax := (congrArg Demand.maxima hdem).trans (Demand.arrived_maxima _ _ _)
  have hwin := (congrArg Demand.window hdem).trans (Demand.arrived_window _ _ _)
  refine ⟨_, _, _, hexec, congrArg Totalizer.last (closeNow_tot status _), hwin, fun hfail => ?_,
    fun hok x => ⟨fun ⟨hone, hall⟩ => ?_, fun hjudged => ?_⟩, fun p => ?_, fun p => ?_⟩
  · rw [hmax, if_neg ((Window.not_eligible_iff _).mpr hfail)]
    rfl
  · rw [hmax, if_pos ((Window.eligible_iff _).mpr hok)]
    exact updateMaxima_get_other _ _ _ hone hall
  · rw [hmax, if_pos ((Window.eligible_iff _).mpr hok), updateMaxima_get _ _ _ hjudged]
    exact ⟨MaxPair.updated_kw _ _ _, MaxPair.updated_kva _ _ _⟩
  · rw [closeNow_maxFlags _ _ p (.inl rfl)]
    simp [State.config, newMaxKW_iff]
  · rw [closeNow_maxFlags _ _ p (.inr rfl)]
    simp [State.config, newMaxKVA_iff]

end Sys2Proof.Machine
end

section
/-! PROOFS. The billing computation: the average power factor, the excess reactive energy, the base demand, the
ratchet floor and the power-factor adjustment (R90 to R101). -/

namespace Sys2Proof.Machine

/-! ### The average power factor (R90, R91) -/

theorem averagePF_le (ep eq : Nat) : averagePF ep eq ≤ 10000 := Nat.findGreatest_le _

/-- PF_avg passes the test of R90. -/
theorem averagePF_passes (ep eq : Nat) : averagePF ep eq = 0 ∨
    (2 * averagePF ep eq - 1) * (2 * averagePF ep eq - 1) * (ep * ep + eq * eq) ≤ 400000000 * (ep * ep) :=
  Nat.findGreatest_spec (P := fun k => k = 0 ∨ (2 * k - 1) * (2 * k - 1) * (ep * ep + eq * eq) ≤ 400000000 * (ep * ep))
    (Nat.zero_le 10000) (.inl rfl)

/-- Above PF_avg nothing passes the test of R90. -/
theorem fails_of_averagePF_lt {ep eq j : Nat} (h : averagePF ep eq < j) (hj : j ≤ 10000) :
    400000000 * (ep * ep) < (2 * j - 1) * (2 * j - 1) * (ep * ep + eq * eq) :=
  not_le.mp (not_or.mp (Nat.findGreatest_is_greatest h hj)).2

/-- Without reactive energy 10000 passes the test, since 19999² is below 400,000,000 (R91). -/
theorem averagePF_no_reactive (ep : Nat) : averagePF ep 0 = 10000 := by
  by_contra hne
  have hfail := fails_of_averagePF_lt (lt_of_le_of_ne (averagePF_le ep 0) hne) le_rfl
  omega

/-- With reactive energy alone nothing above 0 passes the test (R91). -/
theorem averagePF_no_active {eq : Nat} (h : 0 < eq) : averagePF 0 eq = 0 := by
  by_contra hne
  have hpass := (averagePF_passes 0 eq).resolve_left hne
  have hodd : 0 < 2 * averagePF 0 eq - 1 := by omega
  have hpos : 0 < (2 * averagePF 0 eq - 1) * (2 * averagePF 0 eq - 1) * (0 * 0 + eq * eq) := by positivity
  exact hpass.not_gt hpos

/-- Settles O38: the search of R90 gives the largest number that passes, and R91 reads off the test. -/
theorem averagePowerFactor : Obligations.AveragePowerFactor := by
  unfold Obligations.AveragePowerFactor
  intro x ep eq k
  have hnoReactive : eq = 0 → k = 10000 := fun hq => (congrArg (averagePF ep) hq).trans (averagePF_no_reactive ep)
  have hnoActive : ep = 0 → 0 < eq → k = 0 := fun hp hq => (congrArg (averagePF · eq) hp).trans (averagePF_no_active hq)
  exact ⟨averagePF_le ep eq, averagePF_passes ep eq, fun j => fails_of_averagePF_lt, fun _ => hnoReactive, hnoActive,
    fun _ => hnoReactive⟩

/-! ### The excess reactive energy (R92, R93) -/

theorem mem_allRates (r : Rate) : r ∈ allRates := by cases r <;> decide

/-- The excess of a rate is no more than its reactive energy (R92). -/
theorem Snapshot.excess_le (x : Snapshot) (r : Rate) : x.excess r ≤ x.eq (.one r) := by
  unfold Snapshot.excess excessOf
  split
  · exact Nat.sub_le _ _
  · exact Nat.zero_le _

/-- With nothing allowed, all the reactive energy is excess (R92). -/
theorem Snapshot.excess_of_allowance_zero {x : Snapshot} {r : Rate} (hon : x.settings.excessOn = true)
    (h : x.settings.ratio = 0 ∨ x.ep (.one r) = 0) : x.excess r = x.eq (.one r) := by
  have hallowed : x.ep (.one r) * x.settings.ratio = 0 := mul_eq_zero.mpr h.symm
  rw [Snapshot.excess, excessOf, if_pos hon, hallowed, Nat.zero_div, Nat.sub_zero]

/-- The blocks of a record are those of the present rates (R118). -/
theorem Snapshot.mem_record_blocks {x : Snapshot} {b : RateBlock} :
    b ∈ x.record.blocks ↔ ∃ r, x.ratePresent.has r = true ∧ x.block r = b := by
  simp [Snapshot.record, mem_allRates]

/-- The blocks of a record stand in ascending order of their rates (R118). -/
theorem Snapshot.record_blocks_ascending (x : Snapshot) :
    (x.record.blocks.map fun b => b.rate.code).Pairwise (· < ·) := by
  have hall : allRates.Pairwise fun q r => q.number < r.number := by decide
  rw [Snapshot.record, List.map_map, List.pairwise_map]
  exact hall.filter _

/-- Settles O39: each clause reads off X(r), or off the blocks of the present rates. -/
theorem excessReactiveEnergy : Obligations.ExcessReactiveEnergy := by
  unfold Obligations.ExcessReactiveEnergy
  intro x
  refine ⟨fun r => rfl, fun r hon h => ?_, ?_, ?_, fun r hr => ?_, fun b hb => ?_, x.record_blocks_ascending⟩
  · exact Snapshot.excess_of_allowance_zero hon (h.imp_right Nat.div_eq_of_lt)
  · show (allRates.map x.excess).sum = _
    simp [allRates, Nat.add_assoc]
  · exact List.sum_le_sum fun r _ => x.excess_le r
  · exact ⟨x.block r, Snapshot.mem_record_blocks.mpr ⟨r, hr, rfl⟩, rfl, rfl⟩
  · obtain ⟨r, hr, rfl⟩ := Snapshot.mem_record_blocks.mp hb
    exact ⟨r, rfl, hr⟩

/-! ### The largest of a list of values -/

/-- The largest value is the library's maximum of the list with a 0 before it. -/
theorem max?_zero_cons_eq_largest (l : List Nat) : (0 :: l).max? = some (largest l) := rfl

theorem le_largest {l : List Nat} {v : Nat} (h : v ∈ l) : v ≤ largest l :=
  (List.max?_eq_some_iff.mp (max?_zero_cons_eq_largest l)).2 v (List.mem_cons_of_mem 0 h)

theorem largest_mem {l : List Nat} (h : l ≠ []) : largest l ∈ l := by
  obtain hzero | hmem := List.mem_cons.mp (List.max?_eq_some_iff.mp (max?_zero_cons_eq_largest l)).1
  · obtain ⟨v, hv⟩ := List.exists_mem_of_ne_nil l h
    have hle : v ≤ 0 := hzero ▸ le_largest hv
    rwa [hzero, ← Nat.le_zero.mp hle]
  · exact hmem

/-- A bound that the list holds is its largest value, and 0 is that of the empty list (R96). -/
theorem largest_eq {l : List Nat} {b : Nat} (hle : ∀ v ∈ l, v ≤ b) (hnil : l = [] → b = 0) (hmem : l ≠ [] → b ∈ l) :
    largest l = b := by
  by_cases h : l = []
  · rw [hnil h, h]
    rfl
  · exact le_antisymm (hle _ (largest_mem h)) (le_largest (hmem h))

/-! ### The base demand (R94, R95) -/

/-- The rate sets considered: rate A for an empty billable set, and otherwise the billable rates (R94). -/
theorem mem_consideredSets {billable : RateMask} {r : RateSet} : r ∈ consideredSets billable ↔
    if billable = 0 then r = .all else ∃ q, r = .one q ∧ billable.has q = true := by
  unfold consideredSets
  split
  · exact List.mem_singleton
  · simp only [List.mem_map, List.mem_filter, mem_allRates, true_and]
    exact exists_congr fun q => and_comm.trans (and_congr_left' eq_comm)

/-- The record that the basis considers (R94). -/
theorem Snapshot.basisRecord_eq (x : Snapshot) (r : RateSet) :
    x.basisRecord r = if x.settings.basis = .kw then (x.maxima.get r).kw else (x.maxima.get r).kva := by
  unfold Snapshot.basisRecord
  cases x.settings.basis <;> rfl

/-- The base values are those of the considered records present (R94). -/
theorem Snapshot.mem_baseValues {x : Snapshot} {v : Nat} : v ∈ x.baseValues ↔
    ∃ r ∈ consideredSets x.settings.billable, ∃ m ∈ x.basisRecord r, m.value = v := by
  simp [Snapshot.baseValues]

/-- Settles O40: the base is the largest of the base values, which are those of the considered records. -/
theorem baseDemand : Obligations.BaseDemand := by
  unfold Obligations.BaseDemand
  intro x considered held
  have hheld : ∀ r, x.basisRecord r = held r := x.basisRecord_eq
  have hvalues : ∀ v, v ∈ x.baseValues ↔ ∃ r, considered r ∧ ∃ m ∈ held r, m.value = v := fun v => by
    simp only [Snapshot.mem_baseValues, mem_consideredSets, hheld, considered]
  refine ⟨fun r hr m hm => le_largest ((hvalues _).mpr ⟨r, hr, m, hm, rfl⟩), fun ⟨r, hr, hsome⟩ => ?_, fun hnone => ?_⟩
  · obtain ⟨m, hm⟩ := Option.isSome_iff_exists.mp hsome
    have hne : x.baseValues ≠ [] := List.ne_nil_of_mem ((hvalues _).mpr ⟨r, hr, m, hm, rfl⟩)
    exact ⟨(hvalues _).mp (largest_mem hne), List.isEmpty_eq_false_iff.mpr hne⟩
  · have hnil : x.baseValues = [] := List.eq_nil_iff_forall_not_mem.mpr fun v hv => by
      obtain ⟨r, hr, m, hm, -⟩ := (hvalues v).mp hv
      simp [hnone r hr] at hm
    have hbase : x.base = 0 := congrArg largest hnil
    refine ⟨hbase, List.isEmpty_iff.mpr hnil, ?_⟩
    show max x.base (max x.floor x.settings.contractMin) = _
    rw [hbase, Nat.zero_max]
    rfl

/-! ### The ratchet floor and the unadjusted demand (R96 to R98) -/

/-- A share of at most 100 percent, rounded half up, is at most the whole (R96). -/
theorem share_le {b pct : Nat} (h : pct ≤ 100) : (2 * b * pct + 100) / 200 ≤ b := by
  have hmul : 2 * b * pct ≤ 2 * b * 100 := Nat.mul_le_mul_left _ h
  omega

/-- The unadjusted demand is one of the three values it is the greatest of (R97). -/
theorem Snapshot.unadjusted_cases (x : Snapshot) :
    x.unadjusted = x.base ∨ x.unadjusted = x.floor ∨ x.unadjusted = x.settings.contractMin := by
  unfold Snapshot.unadjusted
  omega

/-- RATCHET_APPLIED: the floor exceeds the base and is not below the contract minimum (R98). -/
theorem Snapshot.ratchetApplied_iff (x : Snapshot) :
    x.flags.ratchetApplied = true ↔ x.base < x.floor ∧ x.settings.contractMin ≤ x.floor := decide_eq_true_iff

/-- MIN_APPLIED: the contract minimum exceeds the base and the floor (R98). -/
theorem Snapshot.minApplied_iff (x : Snapshot) :
    x.flags.minApplied = true ↔ x.base < x.settings.contractMin ∧ x.floor < x.settings.contractMin := decide_eq_true_iff

/-- Settles O41: the floor is the share of the largest basis, and each row of R98 meets the condition of its flag
and not that of the other. -/
theorem ratchetFloorAndUnadjusted : Obligations.RatchetFloorAndUnadjusted := by
  unfold Obligations.RatchetFloorAndUnadjusted
  intro x b hle hnil hmem
  have hfloor : x.record.floor = (2 * b * x.settings.ratchetPct + 100) / 200 := by
    rw [← largest_eq hle hnil hmem]
    rfl
  refine ⟨hfloor, fun h => ?_, fun h => ?_, fun h => hfloor ▸ share_le h, le_max_left _ _,
    (le_max_left _ _).trans (le_max_right _ _), (le_max_right _ _).trans (le_max_right _ _), x.unadjusted_cases,
    fun ⟨hb, hc⟩ => ?_, fun ⟨hb, hc⟩ => ?_, fun ⟨hb, hf⟩ => ?_⟩
  · rw [hfloor, h]
    omega
  · rw [hfloor, h, Nat.mul_zero]
  · exact ⟨Bool.eq_false_iff.mpr fun h => hb.not_gt (x.ratchetApplied_iff.mp h).1,
      Bool.eq_false_iff.mpr fun h => hc.not_gt (x.minApplied_iff.mp h).1⟩
  · exact ⟨x.ratchetApplied_iff.mpr ⟨hb, hc⟩, Bool.eq_false_iff.mpr fun h => hc.not_gt (x.minApplied_iff.mp h).2⟩
  · exact ⟨Bool.eq_false_iff.mpr fun h => hf.not_ge (x.ratchetApplied_iff.mp h).2, x.minApplied_iff.mpr ⟨hb, hf⟩⟩

/-! ### The power-factor adjustment (R99 to R101) -/

/-- PF_used does not exceed PF_ref (R99). -/
theorem usedPF_le (st : BillSettings) (avg : Nat) : usedPF st avg ≤ st.pfRef :=
  max_le (min_le_right _ _) (min_le_right _ _)

/-- PF_used is at least 1000, by the ranges of its settings (R99). -/
theorem le_usedPF {st : BillSettings} (h : st.InRange) (avg : Nat) : 1000 ≤ usedPF st avg := by
  obtain ⟨-, -, -, -, href, -, hfloor, -⟩ := h
  exact le_max_of_le_left (le_min hfloor (by omega))

/-- With a divisor within PF_ref, the adjusted demand is not below U (R100). -/
theorem le_adjustedRaw {st : BillSettings} (u : Nat) {used : Nat} (hpos : 0 < used) (hle : used ≤ st.pfRef) :
    u ≤ adjustedRaw st u used := by
  refine (Nat.le_div_iff_mul_le (by omega)).mpr ?_
  calc u * (2 * used) = 2 * u * used := by ring
    _ ≤ 2 * u * st.pfRef := Nat.mul_le_mul_left _ hle
    _ ≤ 2 * u * st.pfRef + used := Nat.le_add_right _ _

/-- At the reference the adjusted demand is U and a half, rounded down (R100). -/
theorem adjustedRaw_at_reference {st : BillSettings} (u : Nat) (hpos : 0 < st.pfRef) : adjustedRaw st u st.pfRef = u := by
  have hsum : 2 * u * st.pfRef + st.pfRef = st.pfRef + 2 * st.pfRef * u := by ring
  rw [adjustedRaw, hsum, Nat.add_mul_div_left _ _ (by omega), Nat.div_eq_of_lt (by omega), Nat.zero_add]

/-- Stage 6 adjusts with the enable ON and a kW basis (R100). -/
theorem BillSettings.adjusts_iff (st : BillSettings) : st.adjusts = true ↔ st.pfAdjustOn = true ∧ st.basis = .kw := by
  simp [BillSettings.adjusts]

/-- Stage 6 does not adjust with the enable OFF or a kVA basis (R101). -/
theorem BillSettings.adjusts_eq_false {st : BillSettings} (h : st.pfAdjustOn = false ∨ st.basis = .kva) :
    st.adjusts = false := by
  obtain h | h := h <;> simp [BillSettings.adjusts, h]

/-- Where stage 6 adjusts: the adjusted demand, capped, and its two flags (R100). -/
theorem Snapshot.adjusted_of_adjusts {x : Snapshot} (h : x.settings.adjusts = true) :
    x.adjusted = min demandCap (adjustedRaw x.settings x.unadjusted x.usedPF)
      ∧ (x.flags.clamped = true ↔ demandCap < adjustedRaw x.settings x.unadjusted x.usedPF)
      ∧ (x.flags.pfAdjusted = true ↔ x.unadjusted < x.adjusted) := by
  simp [Snapshot.adjusted, Snapshot.flags, h]

/-- Where stage 6 does not adjust: U, and neither flag (R101). -/
theorem Snapshot.adjusted_of_not_adjusts {x : Snapshot} (h : x.settings.adjusts = false) :
    x.adjusted = x.unadjusted ∧ x.flags.clamped = false ∧ x.flags.pfAdjusted = false := by
  simp [Snapshot.adjusted, Snapshot.flags, h]

/-- The adjusted demand lies between U and the cap (R100, R101). -/
theorem Snapshot.adjusted_bounds {x : Snapshot} (hst : x.settings.InRange) (hu : x.unadjusted ≤ demandCap) :
    x.unadjusted ≤ x.adjusted ∧ x.adjusted ≤ demandCap := by
  have hpos : 0 < x.usedPF := Nat.lt_of_lt_of_le (by decide) (le_usedPF hst x.avgPF)
  unfold Snapshot.adjusted
  split
  · exact ⟨le_min hu (le_adjustedRaw x.unadjusted hpos (usedPF_le _ _)), min_le_left _ _⟩
  · exact ⟨le_rfl, hu⟩

/-- Settles O42: the bounds of PF_used make the quotient of R100 at least U, and the two cases of stage 6 give
the flags. -/
theorem powerFactorAdjustment : Obligations.PowerFactorAdjustment := by
  unfold Obligations.PowerFactorAdjustment
  intro x hst hu used u raw
  obtain ⟨hlow, hcap⟩ := Snapshot.adjusted_bounds hst hu
  refine ⟨rfl, le_usedPF hst _, usedPF_le _ _, fun hon => ?_, fun hoff => ?_, hlow, hcap, ?_⟩
  · obtain ⟨hadj, hclamped, hflag⟩ := Snapshot.adjusted_of_adjusts ((BillSettings.adjusts_iff _).mpr hon)
    refine ⟨hadj, hclamped, hflag, fun href => ?_⟩
    have hpos : 0 < x.settings.pfRef := Nat.lt_of_lt_of_le (by decide) ((le_usedPF hst x.avgPF).trans (usedPF_le _ _))
    have hraw : adjustedRaw x.settings x.unadjusted x.usedPF = x.unadjusted :=
      (congrArg (adjustedRaw x.settings x.unadjusted) href).trans (adjustedRaw_at_reference _ hpos)
    exact hadj.trans (hraw.symm ▸ min_eq_right hu)
  · exact Snapshot.adjusted_of_not_adjusts (BillSettings.adjusts_eq_false hoff)
  · refine (min_le_right _ _).trans (max_le ?_ ?_)
    · exact (le_max_right _ _).trans (le_max_right _ _)
    · exact (le_max_left _ _).trans (le_max_right _ _)

end Sys2Proof.Machine
end

section
/-! PROOFS. Billing Close: the end of a write-class transaction, the freeze of a period, and the checks before it
(R109, R115, R162). -/

namespace Sys2Proof.Machine

/-! ### Write-class transactions as the statements spell them (R162 to R164) -/

/-- With the main domain running and no byte taken yet, a command finds its transaction (R162). -/
theorem State.Selected.atCommand {s : State} {p : Port} (h : s.Selected p) : s.atCommand p = true := by
  obtain ⟨hmain, htx⟩ := h
  simp [State.atCommand, State.running, hmain, htx]

/-- The end of a transaction of exactly its bytes, which clears the latch but for the PORT class, and which only a
Reset Enable taken with OK leaves armed (R162, R164, R171). -/
theorem endWriting_whole (p : Port) (code : Byte) (r : Result) (s : State) : endWriting p code .whole r s =
    s.finish p code r ((s.port p).latch && !clearsLatch code) (p == .utility && code == 0x34 && r == .ok) := rfl

/-! ### The freeze (R115) -/

theorem State.closeIdle_iff (s : State) : s.closeIdle = true ↔ s.per.close = .idle := by
  unfold State.closeIdle
  cases s.per.close <;> simp

/-- The Period Unit after a freeze; the marker leaves it alone (R115). -/
@[simp] theorem freeze_per (cause : Cause) (clearDeferred : Bool) (s : State) : (freeze cause clearDeferred s).per =
    { s.per with
      close := .closing (takeSnapshot cause s), number := s.per.number + 1, start := s.clock.now, partialMark := false
      lockout := s.config.lockoutLen, deferred := if clearDeferred then none else s.per.deferred } := by
  simp [freeze, freezePeriod]

/-- A freeze that is to clear no deferred close keeps what is deferred (R109, R112). -/
theorem freeze_per_deferred (cause : Cause) (s : State) : (freeze cause false s).per.deferred = s.per.deferred := by
  simp

@[simp] theorem freeze_tot (cause : Cause) (clearDeferred : Bool) (s : State) :
    (freeze cause clearDeferred s).tot = { s.tot with period := .all (.all 0), present := 0 } := by
  simp [freeze, freezePeriod]

@[simp] theorem freeze_dem (cause : Cause) (clearDeferred : Bool) (s : State) :
    (freeze cause clearDeferred s).dem = { s.dem with maxima := .all ⟨none, none⟩ } := by
  simp [freeze, freezePeriod]

/-- The CLOSE marker of a freeze carries the number of the period that ends (R115, R131). -/
theorem freeze_logged (cause : Cause) (clearDeferred : Bool) (s : State) : s.Logged (freeze cause clearDeferred s)
    { kind := .close, rate := s.sub.rate, status := 0, stamp := s.clock.now, payload := [s.per.number] } := by
  have hlogged := logRecord_logged (markerBody .close s.clock.now [s.per.number.toNat] s) (freezePeriod cause clearDeferred s)
  simpa [State.Logged, freeze, logMarker, markerBody] using hlogged

/-- A freeze leaves what R115 states, with or without a deferred close to clear. -/
theorem freeze_frozenInto (cause : Cause) (clearDeferred : Bool) (s : State) :
    s.FrozenInto (freeze cause clearDeferred s) cause := by
  have hper := freeze_per cause clearDeferred s
  exact ⟨congrArg PeriodUnit.close hper, freeze_tot _ _ s, freeze_dem _ _ s, congrArg PeriodUnit.number hper,
    congrArg PeriodUnit.start hper, congrArg PeriodUnit.partialMark hper, congrArg PeriodUnit.lockout hper,
    freeze_per_history _ _ s, freeze_logged _ _ s, freeze_store _ _ s, freeze_clock _ _ s, freeze_sub _ _ s,
    freeze_chans _ _ s, freeze_lim _ _ s, freeze_sup _ _ s⟩

/-- A freeze is no matter of a port: it stands whatever becomes of one. -/
theorem State.FrozenInto.setPort {s t : State} {cause : Cause} (h : s.FrozenInto t cause) (p : Port) (x : PortState) :
    s.FrozenInto (t.setPort p x) cause := by
  simpa [State.FrozenInto, State.Logged] using h

/-! ### Billing Close (R109) -/

/-- In a close Billing Close is refused BUSY, before any other check of its own (R109). -/
theorem ownBillingClose_busy {s : State} (h : s.per.close ≠ .idle) : ownBillingClose s = (.busy, s) := by
  simp [ownBillingClose, State.closeIdle_iff, h, refuse]

/-- Under a lockout it is refused LOCKOUT (R109). -/
theorem ownBillingClose_lockout {s : State} (hidle : s.per.close = .idle) (h : s.per.lockout ≠ 0) :
    ownBillingClose s = (.lockout, s) := by
  simp [ownBillingClose, (State.closeIdle_iff s).mpr hidle, h, refuse]

/-- At the last period number it is refused RANGE (R109). -/
theorem ownBillingClose_range {s : State} (hidle : s.per.close = .idle) (hlock : s.per.lockout = 0)
    (h : s.per.number = lastPeriod) : ownBillingClose s = (.range, s) := by
  simp [ownBillingClose, (State.closeIdle_iff s).mpr hidle, hlock, h, refuse]

/-- Past its checks it freezes the period with cause COMMAND, and keeps a deferred close (R109). -/
theorem ownBillingClose_freezes {s : State} (hidle : s.per.close = .idle) (hlock : s.per.lockout = 0)
    (h : s.per.number ≠ lastPeriod) : ownBillingClose s = (.ok, freeze .command false s) := by
  simp [ownBillingClose, (State.closeIdle_iff s).mpr hidle, hlock, h]

/-- Billing Close is a write-class transaction (R162). -/
theorem exec_billingClose (p : Port) (fr : Framing) (s : State) :
    exec (.billingClose p fr) s = .next (takeWrite p 0x40 fr ownBillingClose s) := rfl

/-- The end of Billing Close clears the latch, and leaves no arm (R164, R171). -/
theorem endWriting_billingClose (p : Port) (r : Result) (s : State) :
    endWriting p 0x40 .whole r s = s.finish p 0x40 r false false := by
  simp [endWriting_whole, clearsLatch, commandClass]

/-- Billing Close refused by a check of R162 leaves that result on its port, and changes nothing else. -/
theorem exec_billingClose_refused {p : Port} {s : State} {r : Result} (hsel : s.Selected p)
    (hr : writeChecks p 0x40 .whole s = some r) : exec (.billingClose p .whole) s = .next (s.finish p 0x40 r false false) := by
  rw [exec_billingClose, takeWrite_refused _ hsel.atCommand hr, endWriting_billingClose]

/-- On the Customer Port R162 refuses Billing Close DENIED, whatever the state (R160). -/
theorem writeChecks_billingClose_customer (s : State) : writeChecks .customer 0x40 .whole s = some .denied := by
  simp [writeChecks, commandClass, acceptedOn]

/-- On the Utility Port R162 refuses Billing Close HOLD in Hold (R184). -/
theorem writeChecks_billingClose_hold {s : State} (h : s.sup.hold = true) :
    writeChecks .utility 0x40 .whole s = some .hold := by
  simp [writeChecks, commandClass, acceptedOn, h]

/-- On the Utility Port, out of Hold and with the latch set, no check of R162 refuses Billing Close. -/
theorem writeChecks_billingClose_passed {s : State} (hhold : s.sup.hold = false) (hlatch : (s.port .utility).latch = true) :
    writeChecks .utility 0x40 .whole s = none := by
  rw [State.port_utility] at hlatch
  simp [writeChecks, commandClass, acceptedOn, hhold, hlatch]

/-- Billing Close that R162 lets pass does what it finds of its own, and its transaction ends with that result. -/
theorem exec_billingClose_passed {s : State} (h : s.TakesOperation .utility) : exec (.billingClose .utility .whole) s
    = .next ((ownBillingClose s).2.finish .utility 0x40 (ownBillingClose s).1 false false) := by
  obtain ⟨⟨hsel, hhold⟩, hlatch⟩ := h
  rw [exec_billingClose, takeWrite_passed _ hsel.atCommand (writeChecks_billingClose_passed hhold hlatch),
    endWriting_billingClose]

/-- Settles O43: R162 refuses on the Customer Port and in Hold; a command that it lets pass meets the checks of R109
in their order, and past them the period is frozen. -/
theorem billingCloseFreezes : Obligations.BillingCloseFreezes := by
  unfold Obligations.BillingCloseFreezes
  refine ⟨fun s hsel => exec_billingClose_refused hsel (writeChecks_billingClose_customer s),
    fun s hsel hhold => exec_billingClose_refused hsel (writeChecks_billingClose_hold hhold), fun s htakes => ?_⟩
  have hexec := exec_billingClose_passed htakes
  refine ⟨fun hclose => ?_, fun hidle hlock => ?_, fun hidle hlock hlast => ?_, fun hidle hlock hlast => ?_⟩
  · rw [hexec, ownBillingClose_busy hclose]
  · rw [hexec, ownBillingClose_lockout hidle hlock]
  · rw [hexec, ownBillingClose_range hidle hlock hlast]
  · rw [ownBillingClose_freezes hidle hlock hlast] at hexec
    exact ⟨_, hexec, (freeze_frozenInto .command false s).setPort _ _,
      freeze_per_deferred .command s, freeze_due .command false s, rfl, rfl, rfl, rfl⟩

end Sys2Proof.Machine
end

section
/-! PROOFS. The clears: Clear History, Clear Profile, and the completion of a Clear Profile (R121, R141, R143). -/

namespace Sys2Proof.Machine

/-! ### CONFIG-class commands (R162, R164, R165) -/

/-- A lock mode that lets CONFIG-class commands through passes the check of R165. -/
theorem State.Unlocked.lockAllows {s : State} (h : s.Unlocked) : s.lockAllows = true := by
  obtain hopen | ⟨hguarded, hguard⟩ := h
  · simp [State.lockAllows, hopen]
  · simp [State.lockAllows, hguarded, hguard]

/-- No check of R162 refuses a CONFIG-class command on the Utility Port with the latch set, out of Hold and unlocked. -/
theorem writeChecks_config_passed {code : Byte} {s : State} (hclass : commandClass code = some .config)
    (h : s.TakesConfig) : writeChecks .utility code .whole s = none := by
  obtain ⟨⟨⟨-, hhold⟩, hlatch⟩, hlock⟩ := h
  rw [State.port_utility] at hlatch
  simp [writeChecks, acceptedOn, hclass, hhold, hlatch, hlock.lockAllows]

/-- The end of a CONFIG-class command clears the latch, and leaves no arm (R164, R171). -/
theorem endWriting_config {code : Byte} (hclass : commandClass code = some .config) (p : Port) (r : Result) (s : State) :
    endWriting p code .whole r s = s.finish p code r false false := by
  have hcode : (code == 0x34) = false := by
    rw [beq_eq_false_iff_ne]
    rintro rfl
    exact absurd hclass (by decide)
  rw [endWriting_whole, hcode]
  simp [clearsLatch, hclass]

/-- A CONFIG-class command that R162 lets pass does what it finds of its own, and its transaction ends with that
result. -/
theorem takeWrite_config_passed {code : Byte} {s : State} (own : State → Result × State)
    (hclass : commandClass code = some .config) (h : s.TakesConfig) :
    takeWrite .utility code .whole own s = (own s).2.finish .utility code (own s).1 false false := by
  have ⟨⟨⟨hsel, _⟩, _⟩, _⟩ := h
  rw [takeWrite_passed _ hsel.atCommand (writeChecks_config_passed hclass h), endWriting_config hclass]

/-! ### Clear History and Clear Profile (R121, R141) -/

/-- Clear History is refused BUSY in a close (R121). -/
theorem ownClearHistory_busy {s : State} (h : s.per.close ≠ .idle) : ownClearHistory s = (.busy, s) := by
  simp [ownClearHistory, State.closeIdle_iff, h, refuse]

/-- In IDLE Clear History empties the history, and nothing else (R121). -/
theorem ownClearHistory_idle {s : State} (h : s.per.close = .idle) :
    ownClearHistory s = (.ok, s.setPer { s.per with history := [] }) := by
  simp [ownClearHistory, (State.closeIdle_iff s).mpr h]

/-- Clear Profile is refused BUSY in a clear (R141). -/
theorem ownClearProfile_busy {s : State} (h : s.log.clearBusy = true) : ownClearProfile s = (.busy, s) := by
  simp [ownClearProfile, h, refuse]

/-- Clear Profile starts a clear where none runs (R141). -/
theorem ownClearProfile_starts {s : State} (h : s.log.clearBusy = false) : ownClearProfile s = (.ok, startClear s) := by
  simp [ownClearProfile, h]

/-- Clear History that R162 lets pass ends with what it finds of its own. -/
theorem exec_clearHistory_passed {s : State} (h : s.TakesConfig) : exec (.clearHistory .utility .whole) s
    = .next ((ownClearHistory s).2.finish .utility 0x53 (ownClearHistory s).1 false false) :=
  congrArg Host.Outcome.next (takeWrite_config_passed ownClearHistory (by decide) h)

/-- Clear Profile that R162 lets pass ends with what it finds of its own. -/
theorem exec_clearProfile_passed {s : State} (h : s.TakesConfig) : exec (.clearProfile .utility .whole) s
    = .next ((ownClearProfile s).2.finish .utility 0x52 (ownClearProfile s).1 false false) :=
  congrArg Host.Outcome.next (takeWrite_config_passed ownClearProfile (by decide) h)

/-! ### A record written where it fits (R133 to R135) -/

/-- A write that removes no record changes nothing of a port but its cursor: no LOG_OVERRUN (R134, R135). -/
theorem PortState.afterWrite_of_kept (x : PortState) (rs : List LogRecord) (new : Seq) :
    ∃ c, x.afterWrite rs rs new = { x with cursor := c } := by
  unfold PortState.afterWrite
  split
  · rw [Bool.and_not_self, if_neg Bool.false_ne_true]
    exact ⟨x.cursor, rfl⟩
  · split
    · exact ⟨_, rfl⟩
    · exact ⟨x.cursor, rfl⟩
  · exact ⟨x.cursor, rfl⟩

/-- A record that fits joins the newest end, and none leaves (R133). -/
theorem writeRecord_log_of_fits {b : LogBody} {s : State} (h : wordsOf s.log.records + b.words ≤ logWords) :
    (writeRecord b s).log =
      { s.log with records := s.log.records ++ [⟨s.log.nextSeq, b⟩], nextSeq := s.log.nextSeq + 1 } := by
  rw [writeRecord_log, trimFor_of_fits h]

/-- A record that fits changes nothing of a port but its cursor (R134, R135). -/
theorem writeRecord_port_of_fits {b : LogBody} {s : State} (h : wordsOf s.log.records + b.words ≤ logWords) (p : Port) :
    ∃ c, (writeRecord b s).port p = { s.port p with cursor := c } := by
  have hport : (writeRecord b s).port p
      = (s.port p).afterWrite s.log.records (trimFor b.words s.log.records) s.log.nextSeq := by cases p <;> rfl
  rw [hport, trimFor_of_fits h]
  exact PortState.afterWrite_of_kept ..

/-! ### The completion of a clear (R143) -/

/-- The CLEARED marker of a completion at the present instant (R143 step 2). -/
def State.clearedMarker (s : State) : LogRecord := ⟨s.log.nextSeq, markerBody .cleared s.clock.now [] s⟩

/-- A completion after its first two steps: every record has left, the clear and the holding slot are over, and the
CLEARED marker is written (R143). -/
def State.clearedAndMarked (s : State) : State :=
  writeRecord s.clearedMarker.body (s.setLog { s.log with records := [], clearBusy := false, slot := none })

/-- A completion writes the held record after its first two steps, and then places the cursors (R143). -/
theorem completeClear_eq (s : State) : completeClear s =
    let written := writeHeld s.log.slot s.clearedAndMarked
    (written.setUtil (written.util.afterClear s.log.nextSeq)).setCust (written.cust.afterClear s.log.nextSeq) := rfl

/-- After the first two steps the log holds the CLEARED marker alone (R143). -/
theorem clearedAndMarked_log (s : State) : s.clearedAndMarked.log =
    { s.log with records := [s.clearedMarker], nextSeq := s.log.nextSeq + 1, clearBusy := false, slot := none } := rfl

/-- The CLEARED marker fits an emptied log, so it changes nothing of a port but its cursor. -/
theorem clearedAndMarked_port (s : State) (p : Port) : ∃ c, s.clearedAndMarked.port p = { s.port p with cursor := c } := by
  obtain ⟨c, hc⟩ := writeRecord_port_of_fits (b := s.clearedMarker.body)
    (s := s.setLog { s.log with records := [], clearBusy := false, slot := none }) (show 4 ≤ logWords by decide) p
  exact ⟨c, hc.trans (by rw [State.setLog_port])⟩

/-- A record of at most 24 words fits beside the CLEARED marker (R127). -/
theorem fits_beside_clearedMarker {b : LogBody} (h : b.LengthSafe) (s : State) :
    wordsOf s.clearedAndMarked.log.records + b.words ≤ logWords := by
  obtain ⟨-, hmax⟩ := h
  have hmarker : wordsOf s.clearedAndMarked.log.records = 4 := rfl
  rw [hmarker, logWords]
  omega

/-- The held record leaves the carries as they were. -/
@[simp] theorem writeHeld_log_carries (held : Option LogBody) (s : State) :
    (writeHeld held s).log.carries = s.log.carries := by cases held <;> rfl

/-- A completion ends the clear (R143). -/
@[simp] theorem completeClear_log_clearBusy (s : State) : (completeClear s).log.clearBusy = false := by
  simp [completeClear_eq, clearedAndMarked_log]

/-- A completion leaves the holding slot empty (R143). -/
@[simp] theorem completeClear_log_slot (s : State) : (completeClear s).log.slot = none := by
  simp [completeClear_eq, clearedAndMarked_log]

/-- A completion keeps the carries that stand since the clear began (R141, R143). -/
@[simp] theorem completeClear_log_carries (s : State) : (completeClear s).log.carries = s.log.carries := by
  simp [completeClear_eq, clearedAndMarked_log]

/-- With the holding slot empty, the log holds the CLEARED marker alone (R143). -/
theorem completeClear_records_of_none {s : State} (h : s.log.slot = none) :
    (completeClear s).log.records = [s.clearedMarker] ∧ (completeClear s).log.nextSeq = s.log.nextSeq + 1 := by
  rw [completeClear_eq, h]
  exact ⟨rfl, rfl⟩

/-- With a record held, the log holds the CLEARED marker and then that record (R143). -/
theorem completeClear_records_of_some {s : State} {b : LogBody} (h : s.log.slot = some b) (hb : b.LengthSafe) :
    (completeClear s).log.records = [s.clearedMarker, ⟨s.log.nextSeq + 1, b⟩]
      ∧ (completeClear s).log.nextSeq = s.log.nextSeq + 2 := by
  have hlog : (completeClear s).log = (writeRecord b s.clearedAndMarked).log := by
    rw [completeClear_eq, h]
    rfl
  rw [hlog, writeRecord_log_of_fits (fits_beside_clearedMarker hb s), clearedAndMarked_log]
  exact ⟨rfl, BitVec.add_assoc s.log.nextSeq 1 1⟩

/-- Until the cursors are placed, a completion changes nothing of a port but its cursor: no LOG_OVERRUN (R143). -/
theorem writeHeld_clearedAndMarked_port {s : State} (h : ∀ b ∈ s.log.slot, b.LengthSafe) (p : Port) :
    ∃ c, (writeHeld s.log.slot s.clearedAndMarked).port p = { s.port p with cursor := c } := by
  obtain ⟨c, hc⟩ := clearedAndMarked_port s p
  cases hslot : s.log.slot with
  | none => exact ⟨c, hc⟩
  | some b =>
    obtain ⟨c', hc'⟩ := writeRecord_port_of_fits (fits_beside_clearedMarker (h b hslot) s) p
    exact ⟨c', hc'.trans (by rw [hc])⟩

/-- A completion leaves each port as it was but for its cursor, placed on the CLEARED marker, and for a placement in
its transaction, which is not made (R143). -/
theorem completeClear_port {s : State} (h : ∀ b ∈ s.log.slot, b.LengthSafe) (p : Port) :
    (completeClear s).port p = (s.port p).afterClear s.log.nextSeq := by
  have hplaced : (completeClear s).port p
      = ((writeHeld s.log.slot s.clearedAndMarked).port p).afterClear s.log.nextSeq := by cases p <;> rfl
  obtain ⟨c, hc⟩ := writeHeld_clearedAndMarked_port h p
  rw [hplaced, hc]
  rfl

/-- The first two steps are a matter of the log and of the two ports alone. -/
theorem clearedAndMarked_frame (s : State) : s.clearedAndMarked =
    { s with log := s.clearedAndMarked.log, util := s.clearedAndMarked.util, cust := s.clearedAndMarked.cust } := rfl

/-- The held record is a matter of the log and of the two ports alone. -/
theorem writeHeld_frame (held : Option LogBody) (s : State) : writeHeld held s =
    { s with log := (writeHeld held s).log, util := (writeHeld held s).util, cust := (writeHeld held s).cust } := by
  cases held <;> rfl

/-- A completion is a matter of the log and of the two ports alone (R143). -/
theorem completeClear_frame (s : State) : completeClear s =
    { s with log := (completeClear s).log, util := (completeClear s).util, cust := (completeClear s).cust } := by
  rw [completeClear_eq, writeHeld_frame, clearedAndMarked_frame]
  rfl

/-- The completion row completes a clear in progress while the main domain runs. -/
theorem exec_clearProfileCompletion {s : State} (hrun : s.sup.mainSupply = true) (hbusy : s.log.clearBusy = true) :
    exec .clearProfileCompletion s = .next (completeClear s) := by
  show Host.Outcome.next (whileRunning finishClear s) = _
  simp [whileRunning, State.running, finishClear, hrun, hbusy]

/-- Settles O47: the two commands by their own checks, and the completion by the log, the ports and the frame that
`completeClear` leaves, with and without a record held. -/
theorem clearsEmptyTheirRecord : Obligations.ClearsEmptyTheirRecord := by
  unfold Obligations.ClearsEmptyTheirRecord
  refine ⟨fun s htakes => ⟨fun hclose => ?_, fun hidle => ?_, fun hbusy => ?_, fun hfree => ?_⟩,
    fun s hrun hsafe hbusy => ?_⟩
  · rw [exec_clearHistory_passed htakes, ownClearHistory_busy hclose]
  · rw [exec_clearHistory_passed htakes, ownClearHistory_idle hidle]
  · rw [exec_clearProfile_passed htakes, ownClearProfile_busy hbusy]
  · rw [exec_clearProfile_passed htakes, ownClearProfile_starts hfree, startClear]
  · obtain ⟨-, -, -, hslotSafe⟩ := hsafe
    refine ⟨completeClear s, exec_clearProfileCompletion hrun hbusy, completeClear_log_clearBusy s,
      completeClear_log_slot s, completeClear_log_carries s, ?_, fun p => ?_, completeClear_frame s⟩
    · cases hslot : s.log.slot with
      | none => exact completeClear_records_of_none hslot
      | some b => exact completeClear_records_of_some hslot (hslotSafe b hslot)
    · rw [completeClear_port hslotSafe p, PortState.afterClear]
      congr 1
      cases (s.port p).tx with
      | replying cmd reply e => cases e <;> rfl
      | idle => rfl
      | selected => rfl

end Sys2Proof.Machine
end

section
/-! PROOFS. Attention Fetch: the group it returns, the bits its end clears, and the rise of select past a snapshot
instant (R161, R175 to R177, R179). -/

namespace Sys2Proof.Machine

/-! ### The bits of the flags (section 12.5) -/

/-- The flags in the order of their bits. -/
def AttnFlag.inOrder : List AttnFlag :=
  [.supplyWarn, .closeDone, .closeDeferred, .newMaxKW, .newMaxKVA, .subintEnd, .rateChange, .limitAlert, .limitRelease,
    .linkFault, .timeChanged, .previewReady, .storeDone, .logOverrun, .scheduleSwitched, .linkCheck, .countClip, .seqGap,
    .regRollover, .startCold]

theorem AttnFlag.map_bit_inOrder : AttnFlag.inOrder.map AttnFlag.bit = List.range 20 := rfl

/-- Every bit of a unit is that of a flag. -/
theorem AttnFlag.exists_bit_eq {b : Nat} (h : b < 20) : ∃ f : AttnFlag, f.bit = b := by
  have hmem : b ∈ AttnFlag.inOrder.map AttnFlag.bit := by rwa [AttnFlag.map_bit_inOrder, List.mem_range]
  obtain ⟨f, -, hf⟩ := List.mem_map.mp hmem
  exact ⟨f, hf⟩

theorem AttnFlag.bit_lt (f : AttnFlag) : f.bit < 20 := by cases f <;> decide

theorem AttnFlag.bit_eq_zero_iff (f : AttnFlag) : f.bit = 0 ↔ f = .supplyWarn := by cases f <;> decide

/-! ### Groups and the flags that count in them (R175, R177) -/

/-- The two members of each of groups 2 to 8 (R175). -/
theorem groupBits_of_two_le {g : Nat} (h2 : 2 ≤ g) (h8 : g ≤ 8) : groupBits g = [2 * g - 3, 2 * g - 2] := by
  interval_cases g <;> rfl

/-- A group holds a pending flag that counts: SUPPLY_WARN in group 1, and in groups 2 to 8 an unmasked member
(R177). -/
def AttentionUnit.PendingIn (u : AttentionUnit) (g : Nat) : Prop :=
  ∃ f : AttnFlag, u.has f = true ∧ ((g = 1 ∧ f = .supplyWarn)
    ∨ (2 ≤ g ∧ (f.bit = 2 * g - 3 ∨ f.bit = 2 * g - 2) ∧ u.mask.getLsbD (f.bit - 1) = false))

/-- Of the bits of the request flags past SUPPLY_WARN, those of pending unmasked flags count (R177). -/
theorem AttentionUnit.counts_iff (u : AttentionUnit) {b : Nat} (hpos : 0 < b) (hlt : b < 20) :
    u.counts b = true ↔ ∃ f : AttnFlag, f.bit = b ∧ u.has f = true ∧ u.mask.getLsbD (f.bit - 1) = false := by
  have hne : (b == 0) = false := by simpa using hpos.ne'
  simp only [counts, has, hne, Bool.false_or, Bool.and_eq_true, Bool.not_eq_true']
  constructor
  · intro h
    obtain ⟨f, rfl⟩ := AttnFlag.exists_bit_eq hlt
    exact ⟨f, rfl, h⟩
  · rintro ⟨f, rfl, h⟩
    exact h

/-- The model's search through the bits of a group finds a flag exactly when one there counts. -/
theorem AttentionUnit.any_counts_iff (u : AttentionUnit) {g : Nat} (h1 : 1 ≤ g) (h8 : g ≤ 8) :
    (groupBits g).any u.counts = true ↔ u.PendingIn g := by
  obtain rfl | h2 : g = 1 ∨ 2 ≤ g := by omega
  · simp [groupBits, PendingIn, counts, has, AttnFlag.bit]
  · rw [groupBits_of_two_le h2 h8]
    simp only [List.any_cons, List.any_nil, Bool.or_false, Bool.or_eq_true,
      u.counts_iff (b := 2 * g - 3) (by omega) (by omega), u.counts_iff (b := 2 * g - 2) (by omega) (by omega)]
    constructor
    · rintro (⟨f, hbit, hhas, hmask⟩ | ⟨f, hbit, hhas, hmask⟩)
      · exact ⟨f, hhas, .inr ⟨h2, .inl hbit, hmask⟩⟩
      · exact ⟨f, hhas, .inr ⟨h2, .inr hbit, hmask⟩⟩
    · rintro ⟨f, hhas, ⟨rfl, -⟩ | ⟨-, hbit | hbit, hmask⟩⟩
      · omega
      · exact .inl ⟨f, hbit, hhas, hmask⟩
      · exact .inr ⟨f, hbit, hhas, hmask⟩

/-- The number returned is that of the first group with a flag that counts (R179). -/
theorem AttentionUnit.topGroup_of_pendingIn {u : AttentionUnit} {g : Nat} (h1 : 1 ≤ g) (h8 : g ≤ 8) (hg : u.PendingIn g)
    (hbefore : ∀ k, k < g → ¬ u.PendingIn k) : u.topGroup = g := by
  have hfind : (List.range' 1 8).find? (fun g => (groupBits g).any u.counts) = some g := by
    rw [List.find?_range'_eq_some]
    refine ⟨(u.any_counts_iff h1 h8).mpr hg, by simp; omega, fun k hk hlt => ?_⟩
    have hnone := mt (u.any_counts_iff hk (by omega)).mp (hbefore k hlt)
    simpa using hnone
  exact congrArg (Option.getD · 0) hfind

/-- Where no flag counts, 0 is returned (R179). -/
theorem AttentionUnit.topGroup_of_none {u : AttentionUnit} (h : ∀ k, k ≤ 8 → ¬ u.PendingIn k) : u.topGroup = 0 := by
  have hfind : (List.range' 1 8).find? (fun g => (groupBits g).any u.counts) = none := by
    rw [List.find?_range'_eq_none]
    intro k hk hlt
    have hnone := mt (u.any_counts_iff hk (by omega)).mp (h k (by omega))
    simpa using hnone
  exact congrArg (Option.getD · 0) hfind

/-! ### The bits that a fetch clears (R176, R179) -/

/-- A fetch clears SUPPLY_WARN in group 1, and in another the member that is unmasked while its fellow is masked
(R179). -/
theorem mem_fetchClears_iff {g : Nat} (h8 : g ≤ 8) (mask : BitVec 14) (b : Nat) : b ∈ fetchClears g mask ↔
    (g = 1 ∧ b = 0)
      ∨ (2 ≤ g ∧ b = 2 * g - 3 ∧ mask.getLsbD (2 * g - 4) = false ∧ mask.getLsbD (2 * g - 3) = true)
      ∨ (2 ≤ g ∧ b = 2 * g - 2 ∧ mask.getLsbD (2 * g - 3) = false ∧ mask.getLsbD (2 * g - 4) = true) := by
  obtain rfl | rfl | h2 : g = 0 ∨ g = 1 ∨ 2 ≤ g := by omega
  · simp [fetchClears, groupBits]
  · simp [fetchClears]
  · have hne : g ≠ 1 := by omega
    have hlow : 2 * g - 3 - 1 = 2 * g - 4 := by omega
    have hhigh : 2 * g - 2 - 1 = 2 * g - 3 := by omega
    rw [fetchClears, if_neg hne, groupBits_of_two_le h2 h8]
    cases hm : mask.getLsbD (2 * g - 4) <;> cases hn : mask.getLsbD (2 * g - 3) <;>
      simp [hlow, hhigh, hm, hn, hne, h2]

/-- A clear takes the flag at its bit, unless it was raised since the snapshot instant (R176). -/
theorem AttentionUnit.clearBit_has (u : AttentionUnit) (b : Nat) (f : AttnFlag) :
    (u.clearBit b).has f = (u.has f && (decide (f.bit ≠ b) || u.fresh.getLsbD f.bit)) := by
  have hone : (1#20 <<< b).getLsbD f.bit = decide (f.bit = b) := by
    rw [Bool.eq_iff_iff]
    simp [f.bit_lt]
    omega
  simp only [clearBit, has, BitVec.getLsbD_and, BitVec.getLsbD_not, hone, f.bit_lt]
  by_cases h : f.bit = b <;> simp [h]

@[simp] theorem AttentionUnit.clearBit_mask (u : AttentionUnit) (b : Nat) : (u.clearBit b).mask = u.mask := rfl
@[simp] theorem AttentionUnit.clearBit_enable (u : AttentionUnit) (b : Nat) : (u.clearBit b).enable = u.enable := rfl
@[simp] theorem AttentionUnit.clearBit_fresh (u : AttentionUnit) (b : Nat) : (u.clearBit b).fresh = u.fresh := rfl

/-- Several clears touch neither the mask nor the enable, and take each flag at one of their bits that was not raised
since the snapshot instant (R176). -/
theorem AttentionUnit.foldl_clearBit (bits : List Nat) (u : AttentionUnit) :
    (bits.foldl clearBit u).mask = u.mask ∧ (bits.foldl clearBit u).enable = u.enable
      ∧ ∀ f : AttnFlag, (bits.foldl clearBit u).has f = true ↔
          u.has f = true ∧ (f.bit ∈ bits → u.fresh.getLsbD f.bit = true) := by
  induction bits generalizing u with
  | nil => simp
  | cons b rest ih =>
    obtain ⟨hmask, henable, hhas⟩ := ih (u.clearBit b)
    refine ⟨hmask, henable, fun f => (hhas f).trans ?_⟩
    simp only [clearBit_has, clearBit_fresh, List.mem_cons, Bool.and_eq_true, Bool.or_eq_true, decide_eq_true_eq]
    tauto

/-- A completed fetch leaves the mask as it was (R179). -/
theorem AttentionUnit.fetched_mask (u : AttentionUnit) (g : Nat) (mask : BitVec 14) : (u.fetched g mask).mask = u.mask :=
  (foldl_clearBit (fetchClears g mask) { u with enable := false }).1

/-- A completed fetch clears the attention enable (R179). -/
theorem AttentionUnit.fetched_enable (u : AttentionUnit) (g : Nat) (mask : BitVec 14) :
    (u.fetched g mask).enable = false :=
  (foldl_clearBit (fetchClears g mask) { u with enable := false }).2.1

/-- A completed fetch keeps the flags but those at its bits, and of these the ones raised since (R176, R179). -/
theorem AttentionUnit.fetched_has (u : AttentionUnit) (g : Nat) (mask : BitVec 14) (f : AttnFlag) :
    (u.fetched g mask).has f = true ↔
      u.has f = true ∧ (f.bit ∈ fetchClears g mask → u.fresh.getLsbD f.bit = true) :=
  (foldl_clearBit (fetchClears g mask) { u with enable := false }).2.2 f

/-- A raised flag counts as raised since the snapshot instant (R176). -/
theorem AttentionUnit.raise_fresh (u : AttentionUnit) (f : AttnFlag) : (u.raise f).fresh.getLsbD f.bit = true := by
  simp [raise, f.bit_lt]

/-! ### The rise of select past a snapshot instant (R161) -/

/-- The rise of select past a snapshot instant makes the effect of the command, and ends its transaction. -/
theorem exec_selectRise_replying {p : Port} {s : State} {code : Byte} {reply : List Byte} {e : ReadEffect}
    (hmain : s.sup.mainSupply = true) (htx : (s.port p).tx = .replying code reply e) (bytes : List Byte) (n : Nat)
    (d freezeFirst : Bool) :
    exec (.selectRise p bytes n d freezeFirst) s = .next (endReading p reply e bytes.length s) := by
  show Host.Outcome.next (whileRunning (riseSelect p bytes n d freezeFirst) s) = _
  simp [whileRunning, State.running, hmain, riseSelect, finishReading, htx]

@[simp] theorem endReading_tx (p : Port) (reply : List Byte) (e : ReadEffect) (k : Nat) (s : State) :
    ((endReading p reply e k s).port p).tx = .idle := by simp [endReading, PortState.endRead]

/-- Of the Attention Unit the end of a reading changes what its effect does, and no more (R161). -/
@[simp] theorem endReading_attn (p : Port) (reply : List Byte) (e : ReadEffect) (k : Nat) (s : State) :
    ((endReading p reply e k s).port p).attn = ((applyEffect p e k s).port p).attn := by
  simp [endReading, PortState.endRead]

/-- The effect of a fetch on its unit, the group byte being the third of the reply (R179). -/
theorem applyEffect_fetch_attn (p : Port) (g : Nat) (mask : BitVec 14) (k : Nat) (s : State) :
    ((applyEffect p (.fetch g mask) k s).port p).attn
      = if 3 ≤ k then (s.port p).attn.fetched g mask else (s.port p).attn := by
  unfold applyEffect
  dsimp only
  split <;> simp [State.setAttn]

/-! ### Attention Fetch (R179) -/

/-- The snapshot tag, spelled by the number of the last sequence (R161). -/
theorem State.tag_eq_ofNat (s : State) : s.tag = BitVec.ofNat 8 s.tot.lastSeq.toNat := by
  apply BitVec.eq_of_toNat_eq
  simp [State.tag]

/-- Out of Hold, Attention Fetch answers with the highest-priority group that counts (R179). -/
theorem exec_attentionFetch {p : Port} {s : State} (h : s.TakesPort p) : exec (.attentionFetch p) s = .next
    (s.answered p 0x22 .ok [BitVec.ofNat 8 (s.port p).attn.topGroup]
      (.fetch (s.port p).attn.topGroup (s.port p).attn.mask)) := by
  obtain ⟨hsel, hhold⟩ := h
  show Host.Outcome.next (snapshotRead p 0x22 (unlessHold s (fetchAnswer p s)) s) = _
  rw [snapshotRead_taken _ _ hsel.atCommand]
  simp [unlessHold, hhold, fetchAnswer, PortState.snapped, replyOf, State.answered, State.tag_eq_ofNat, byteField, beBytes,
    fillers, filler]

/-- Past its snapshot instant a port keeps its unit, in which no flag counts as raised since (R176). -/
theorem State.answered_attn (s : State) (p : Port) (code : Byte) (r : Result) (data : List Byte) (e : ReadEffect) :
    ((s.answered p code r data e).port p).attn = { (s.port p).attn with fresh := 0 } := by simp [State.answered]

theorem State.answered_tx (s : State) (p : Port) (code : Byte) (r : Result) (data : List Byte) (e : ReadEffect) :
    ((s.answered p code r data e).port p).tx
      = .replying code (BitVec.ofNat 8 s.tot.lastSeq.toNat :: r.code :: data) e := by simp [State.answered]

theorem State.answered_sup (s : State) (p : Port) (code : Byte) (r : Result) (data : List Byte) (e : ReadEffect) :
    (s.answered p code r data e).sup = s.sup := by simp [State.answered]

theorem State.raiseOn_port (s : State) (p : Port) (f : AttnFlag) :
    (s.raiseOn p f).port p = { s.port p with attn := (s.port p).attn.raise f } := by simp [State.raiseOn]

/-- With no flag raised since the snapshot instant, a completed fetch takes SUPPLY_WARN or the one unmasked member of
its group, and no other flag (R179). -/
theorem AttentionUnit.fetched_has_of_unraised {u : AttentionUnit} {g : Nat} (h8 : g ≤ 8) (f : AttnFlag) :
    (({ u with fresh := 0 } : AttentionUnit).fetched g u.mask).has f = true ↔ u.has f = true ∧
      ¬ ((g = 1 ∧ f = .supplyWarn)
        ∨ (2 ≤ g ∧ f.bit = 2 * g - 3 ∧ u.mask.getLsbD (2 * g - 4) = false ∧ u.mask.getLsbD (2 * g - 3) = true)
        ∨ (2 ≤ g ∧ f.bit = 2 * g - 2 ∧ u.mask.getLsbD (2 * g - 3) = false ∧ u.mask.getLsbD (2 * g - 4) = true)) := by
  rw [fetched_has, mem_fetchClears_iff h8, AttnFlag.bit_eq_zero_iff]
  simp [has]

/-- Settles O56: the number returned by the search through the groups, and the rise of select by the effect of the
fetch on the unit as it stood at the snapshot instant, or with a flag raised since. -/
theorem attentionFetchClears : Obligations.AttentionFetchClears := by
  unfold Obligations.AttentionFetchClears
  intro p s g htakes h8 u pendingIn hnone hfirst
  have hexec := exec_attentionFetch htakes
  have htop : (s.port p).attn.topGroup = g := by
    obtain rfl | hpos := Nat.eq_zero_or_pos g
    · exact AttentionUnit.topGroup_of_none (hnone rfl)
    · obtain ⟨hg, hbefore⟩ := hfirst hpos
      exact AttentionUnit.topGroup_of_pendingIn hpos h8 hg hbefore
  rw [htop] at hexec
  have ⟨⟨hmain, _⟩, _⟩ := htakes
  refine ⟨_, hexec, rfl, fun bytes n d f0 => ⟨?_, fun f => ?_⟩⟩
  · refine ⟨_, exec_selectRise_replying (by rwa [State.answered_sup]) (State.answered_tx ..) bytes n d f0,
      endReading_tx .., ?_⟩
    rw [endReading_attn, applyEffect_fetch_attn, State.answered_attn]
    by_cases hclocked : 3 ≤ bytes.length
    · rw [if_pos hclocked]
      refine ⟨AttentionUnit.fetched_mask .., ?_, fun f => ?_⟩
      · simp [AttentionUnit.fetched_enable, hclocked]
      · simpa [hclocked] using AttentionUnit.fetched_has_of_unraised h8 f
    · rw [if_neg hclocked]
      refine ⟨rfl, ?_, fun f => ?_⟩
      · simp [u, Nat.lt_of_not_le hclocked]
      · simp [u, hclocked, AttentionUnit.has]
  · refine ⟨_, exec_selectRise_replying (by simpa [State.answered_sup] using hmain)
      (by rw [State.raiseOn_port]; exact State.answered_tx ..) bytes n d f0, ?_⟩
    have hraised := AttentionUnit.has_raise ((s.answered p 0x22 .ok [BitVec.ofNat 8 g] (.fetch g u.mask)).port p).attn f f
    rw [endReading_attn, applyEffect_fetch_attn, State.raiseOn_port]
    split
    · exact (AttentionUnit.fetched_has ..).mpr ⟨by simpa using hraised, fun _ => AttentionUnit.raise_fresh _ f⟩
    · simpa using hraised

end Sys2Proof.Machine
end

section
/-! PROOFS. The rows: what a command answers, by its class. A write-class row is its own judgement in a transaction, a
READ-class row its answer at the snapshot instant, and the rise of select is one of these rows (R159 to R162). -/

namespace Sys2Proof.Machine

open Sys2Proof

/-! ### Every row answers a next state -/

/-- The state that a command leaves. -/
def effect (c : Instr) (s : State) : State :=
  match exec c s with
  | .next t => t
  | _ => s

theorem exec_eq_effect (c : Instr) (s : State) : exec c s = .next (effect c s) := by cases c <;> rfl

theorem effect_of_exec {c : Instr} {s t : State} (h : exec c s = .next t) : effect c s = t :=
  Host.Outcome.next.inj ((exec_eq_effect c s).symm.trans h)

theorem step_of_nil {s : State} (h : s.pending = []) : step s = .next s := by simp [step, h]

theorem step_of_cons {c : Instr} {rest : List Instr} {s : State} (h : s.pending = c :: rest) :
    step s = exec c (s.setPending rest) := by simp [step, h]

/-- Settles O1: the two cases of the queue. -/
theorem stepTakesFrontCommand : Obligations.StepTakesFrontCommand := by
  unfold Obligations.StepTakesFrontCommand
  exact ⟨fun c rest s h => step_of_cons h, fun s h => step_of_nil h⟩

/-- A step leaves the state, or what the command at the front leaves of the state without it. -/
theorem step_cases {s t : State} (h : step s = .next t) : t = s ∨ ∃ c rest, t = effect c (s.setPending rest) := by
  cases hq : s.pending with
  | nil => exact .inl (Host.Outcome.next.inj (h.symm.trans (step_of_nil hq)))
  | cons c rest => exact .inr ⟨c, rest, (effect_of_exec ((step_of_cons hq).symm.trans h)).symm⟩

/-! ### Write-class rows (R162) -/

/-- What a write-class command finds and does of its own, once the checks of R162 have passed. -/
def ownOf (i : Instr) : State → Judged :=
  match i with
  | .enableWrite p _ => ownEnableWrite p
  | .disableWrite p _ => ownDisableWrite p
  | .attentionEnable p _ => ownAttentionEnable p
  | .setEventMask p _ mask => ownSetEventMask p mask
  | .resetEnable _ _ => ownResetEnable
  | .billingClose _ _ => ownBillingClose
  | .adjustTime _ _ v b => ownAdjustTime v b
  | .writeSwitchQuad p _ d i e => ownWriteSwitchQuad p d i e
  | .writeHolidayQuad p _ i d => ownWriteHolidayQuad p i d
  | .writeWeekTable p _ w => ownWriteWeekTable p w
  | .writeCloseDateQuad p _ i d => ownWriteCloseDateQuad p i d
  | .activateSchedule _ _ day => ownActivateSchedule day
  | .cancelPending _ _ => ownCancelPending
  | .reset p _ => ownReset p
  | .writeLimit p _ a => ownWriteLimit p a
  | .writeConfigItem p _ n v => ownWriteConfigItem p n v
  | .setTime _ _ day second => ownSetTime day second
  | .clearProfile _ _ => ownClearProfile
  | .clearHistory _ _ => ownClearHistory
  | .setLockMode p _ m => ownSetLockMode p m
  | .lockCalibration p _ c => ownLockCalibration p c
  | _ => refuse .malformed

/-- A write-class row is its own judgement in a transaction of its code; a row of an unknown command is one only
where its code is unknown. -/
theorem exec_of_writeBytes {i : Instr} {p : Port} {fr : Framing} {code : Byte} {args : List Byte}
    (hwf : i.wellFormed = true) (h : writeBytes i = some (p, fr, code, args)) (s : State) :
    exec i s = .next (takeWrite p code fr (ownOf i) s) := by
  cases i
  case unknownCommand =>
    obtain ⟨rfl, rfl, rfl, rfl⟩ := h
    exact congrArg Host.Outcome.next (if_pos hwf)
  all_goals first | (obtain ⟨rfl, rfl, rfl, rfl⟩ := h; rfl) | cases h

/-- An unknown command whose code is known does nothing; every other write-class row is well formed. -/
theorem wellFormed_or_effect_eq {i : Instr} {p : Port} {fr : Framing} {code : Byte} {args : List Byte}
    (h : writeBytes i = some (p, fr, code, args)) (s : State) : i.wellFormed = true ∨ effect i s = s := by
  cases i
  case unknownCommand q c fr =>
    by_cases hc : (commandClass c).isNone = true
    · exact .inl hc
    · exact .inr (effect_of_exec (congrArg Host.Outcome.next (if_neg hc)))
  all_goals first | exact .inl rfl | cases h

theorem portOf_of_writeBytes {i : Instr} {p : Port} {fr : Framing} {code : Byte} {args : List Byte}
    (h : writeBytes i = some (p, fr, code, args)) : portOf i = some p := by
  cases i <;> first | (obtain ⟨rfl, rfl, rfl, rfl⟩ := h; rfl) | cases h

/-! ### READ-class rows (R161) -/

/-- What a READ-class command answers at its snapshot instant. -/
def answerOf (i : Instr) (s : State) : Answer :=
  match i with
  | .readStatus p => .ok (statusReply s p)
  | .readTime _ => .ok (timeReply s)
  | .readSchedule _ a t => unlessHold s (.orRange (scheduleReply s a t))
  | .readCloseDates _ => unlessHold s (.ok (closeDatesReply s))
  | .readChannelStatus _ c => unlessHold s (.orRange ((fourOfByte c).map (channelReply s)))
  | .readRegisters _ code => .orRange (registersReply s code)
  | .readSubInterval _ => .ok (subIntervalReply s)
  | .readDemand _ => unlessHold s (.ok (demandReply s))
  | .readMaxima _ code => unlessHold s (.orRange (maximaReply s code))
  | .readPeriod p n => unlessHold s (periodAnswer p n s)
  | .readPeriodState p => unlessHold s (.ok (periodStateReply s p))
  | .readProfile p n => unlessHold s (profileAnswer p n s)
  | .readProfileState p => unlessHold s (.ok (profileStateReply s p))
  | .readLimits _ => unlessHold s (.ok (limitsReply s))
  | .readConfigItem _ n => unlessHold s (.orRange (itemReply s n))
  | .setProfileCursor p d t q => unlessHold s (setCursorAnswer p d t q s)
  | .setProfileWindow p k a b => unlessHold s (setWindowAnswer p k a b s)
  | .requestPreview p => unlessHold s (previewAnswer p s)
  | .attentionFetch p => unlessHold s (fetchAnswer p s)
  | .eventTest p f => unlessHold s (testAnswer p f s)
  | _ => .refuse .malformed

/-- The READ-class commands but for Request Preview do nothing but answer. -/
theorem exec_of_readBytes {i : Instr} {p : Port} {code : Byte} {args : List Byte}
    (h : readBytes i = some (p, code, args)) (hcode : code ≠ 0x21) (s : State) :
    exec i s = .next (snapshotRead p code (answerOf i s) s) := by
  cases i
  case requestPreview => obtain ⟨rfl, rfl, rfl⟩ := h; exact absurd rfl hcode
  all_goals first | (obtain ⟨rfl, rfl, rfl⟩ := h; rfl) | cases h

theorem portOf_of_readBytes {i : Instr} {p : Port} {code : Byte} {args : List Byte}
    (h : readBytes i = some (p, code, args)) : portOf i = some p := by
  cases i <;> first | (obtain ⟨rfl, rfl, rfl⟩ := h; rfl) | cases h

/-- A READ-class row found at its command byte settles its port's reply, and nothing else but a Preview. -/
theorem effect_of_readBytes {i : Instr} {p : Port} {code : Byte} {args : List Byte}
    (h : readBytes i = some (p, code, args)) {s : State} (hat : s.atCommand p = true) :
    ∃ pv, effect i s = s.setPort p
      { (s.port p).snapped code (replyOf s (answerOf i s)) (answerOf i s).effect with preview := pv } := by
  by_cases hcode : code = 0x21
  · subst hcode
    cases i
    case requestPreview q =>
      obtain rfl : q = p := congrArg Prod.fst (Option.some.inj h)
      show ∃ pv, takeRequestPreview q s = _
      unfold takeRequestPreview
      dsimp only
      rw [snapshotRead_taken _ _ hat]
      split
      · exact ⟨_, by rw [State.setPort_setPort, State.setPort_port]; rfl⟩
      · exact ⟨_, rfl⟩
    all_goals cases h
  · exact ⟨_, (effect_of_exec (exec_of_readBytes h hcode s)).trans (snapshotRead_taken _ _ hat)⟩

/-- With no transaction at its command byte a READ-class row does nothing. -/
theorem effect_of_readBytes_elsewhere {i : Instr} {p : Port} {code : Byte} {args : List Byte}
    (h : readBytes i = some (p, code, args)) {s : State} (hat : s.atCommand p = false) : effect i s = s := by
  by_cases hcode : code = 0x21
  · subst hcode
    cases i
    case requestPreview q =>
      obtain rfl : q = p := congrArg Prod.fst (Option.some.inj h)
      show takeRequestPreview q s = _
      simp [takeRequestPreview, snapshotRead_elsewhere _ _ hat, hat]
    all_goals cases h
  · exact (effect_of_exec (exec_of_readBytes h hcode s)).trans (snapshotRead_elsewhere _ _ hat)

/-! ### The rise of select is one of the rows (R159, R161, R162) -/

theorem eq_of_toNat_eq {w : Nat} {code : BitVec w} {n : Nat} (h : code.toNat = n) : code = BitVec.ofNat w n := by
  rw [← h, BitVec.ofNat_toNat, BitVec.setWidth_eq]

/-- A write-class code with its argument bytes is taken as a well-formed row of that code. -/
theorem takeWriteCode_row (p : Port) (code : Byte) (fr : Framing) (args : List Byte) (b : Bool) (s : State) :
    takeWriteCode p code fr args b s = s ∨ ∃ i given, writeBytes i = some (p, fr, code, given) ∧ i.wellFormed = true
      ∧ takeWriteCode p code fr args b s = effect i s := by
  unfold takeWriteCode
  split
  case _ h => obtain rfl := eq_of_toNat_eq h; exact .inr ⟨.enableWrite p fr, _, rfl, rfl, rfl⟩
  case _ h => obtain rfl := eq_of_toNat_eq h; exact .inr ⟨.disableWrite p fr, _, rfl, rfl, rfl⟩
  case _ h => obtain rfl := eq_of_toNat_eq h; exact .inr ⟨.attentionEnable p fr, _, rfl, rfl, rfl⟩
  case _ h => obtain rfl := eq_of_toNat_eq h; exact .inr ⟨.setEventMask p fr _, _, rfl, rfl, rfl⟩
  case _ h => obtain rfl := eq_of_toNat_eq h; exact .inr ⟨.resetEnable p fr, _, rfl, rfl, rfl⟩
  case _ h => obtain rfl := eq_of_toNat_eq h; exact .inr ⟨.billingClose p fr, _, rfl, rfl, rfl⟩
  case _ h => obtain rfl := eq_of_toNat_eq h; exact .inr ⟨.adjustTime p fr _ b, _, rfl, rfl, rfl⟩
  case _ h => obtain rfl := eq_of_toNat_eq h; exact .inr ⟨.writeSwitchQuad p fr _ _ _, _, rfl, rfl, rfl⟩
  case _ h => obtain rfl := eq_of_toNat_eq h; exact .inr ⟨.writeHolidayQuad p fr _ _, _, rfl, rfl, rfl⟩
  case _ h => obtain rfl := eq_of_toNat_eq h; exact .inr ⟨.writeWeekTable p fr _, _, rfl, rfl, rfl⟩
  case _ h => obtain rfl := eq_of_toNat_eq h; exact .inr ⟨.writeCloseDateQuad p fr _ _, _, rfl, rfl, rfl⟩
  case _ h => obtain rfl := eq_of_toNat_eq h; exact .inr ⟨.activateSchedule p fr _, _, rfl, rfl, rfl⟩
  case _ h => obtain rfl := eq_of_toNat_eq h; exact .inr ⟨.cancelPending p fr, _, rfl, rfl, rfl⟩
  case _ h => obtain rfl := eq_of_toNat_eq h; exact .inr ⟨.reset p fr, _, rfl, rfl, rfl⟩
  case _ h => obtain rfl := eq_of_toNat_eq h; exact .inr ⟨.writeLimit p fr _, _, rfl, rfl, rfl⟩
  case _ h => obtain rfl := eq_of_toNat_eq h; exact .inr ⟨.writeConfigItem p fr _ _, _, rfl, rfl, rfl⟩
  case _ h => obtain rfl := eq_of_toNat_eq h; exact .inr ⟨.setTime p fr _ _, _, rfl, rfl, rfl⟩
  case _ h => obtain rfl := eq_of_toNat_eq h; exact .inr ⟨.clearProfile p fr, _, rfl, rfl, rfl⟩
  case _ h => obtain rfl := eq_of_toNat_eq h; exact .inr ⟨.clearHistory p fr, _, rfl, rfl, rfl⟩
  case _ h => obtain rfl := eq_of_toNat_eq h; exact .inr ⟨.setLockMode p fr _, _, rfl, rfl, rfl⟩
  case _ h => obtain rfl := eq_of_toNat_eq h; exact .inr ⟨.lockCalibration p fr _, _, rfl, rfl, rfl⟩
  case _ =>
    by_cases hc : (commandClass code).isNone = true
    · exact .inr ⟨.unknownCommand p code fr, [], rfl, hc, rfl⟩
    · exact .inl (if_neg hc)

/-- A READ-class code with its argument bytes is taken as a row of that code. -/
theorem takeReadCode_row (p : Port) (code : Byte) (args : List Byte) (s : State) :
    takeReadCode p code args s = s ∨ ∃ i given, readBytes i = some (p, code, given)
      ∧ takeReadCode p code args s = effect i s := by
  unfold takeReadCode
  split
  case _ h => obtain rfl := eq_of_toNat_eq h; exact .inr ⟨.readStatus p, _, rfl, rfl⟩
  case _ h => obtain rfl := eq_of_toNat_eq h; exact .inr ⟨.readTime p, _, rfl, rfl⟩
  case _ h => obtain rfl := eq_of_toNat_eq h; exact .inr ⟨.readSchedule p _ _, _, rfl, rfl⟩
  case _ h => obtain rfl := eq_of_toNat_eq h; exact .inr ⟨.readCloseDates p, _, rfl, rfl⟩
  case _ h => obtain rfl := eq_of_toNat_eq h; exact .inr ⟨.readChannelStatus p _, _, rfl, rfl⟩
  case _ h => obtain rfl := eq_of_toNat_eq h; exact .inr ⟨.readRegisters p _, _, rfl, rfl⟩
  case _ h => obtain rfl := eq_of_toNat_eq h; exact .inr ⟨.readSubInterval p, _, rfl, rfl⟩
  case _ h => obtain rfl := eq_of_toNat_eq h; exact .inr ⟨.readDemand p, _, rfl, rfl⟩
  case _ h => obtain rfl := eq_of_toNat_eq h; exact .inr ⟨.readMaxima p _, _, rfl, rfl⟩
  case _ h => obtain rfl := eq_of_toNat_eq h; exact .inr ⟨.readPeriod p _, _, rfl, rfl⟩
  case _ h => obtain rfl := eq_of_toNat_eq h; exact .inr ⟨.readPeriodState p, _, rfl, rfl⟩
  case _ h => obtain rfl := eq_of_toNat_eq h; exact .inr ⟨.readProfile p _, _, rfl, rfl⟩
  case _ h => obtain rfl := eq_of_toNat_eq h; exact .inr ⟨.readProfileState p, _, rfl, rfl⟩
  case _ h => obtain rfl := eq_of_toNat_eq h; exact .inr ⟨.readLimits p, _, rfl, rfl⟩
  case _ h => obtain rfl := eq_of_toNat_eq h; exact .inr ⟨.readConfigItem p _, _, rfl, rfl⟩
  case _ h => obtain rfl := eq_of_toNat_eq h; exact .inr ⟨.setProfileCursor p _ _ _, _, rfl, rfl⟩
  case _ h => obtain rfl := eq_of_toNat_eq h; exact .inr ⟨.setProfileWindow p _ _ _, _, rfl, rfl⟩
  case _ h => obtain rfl := eq_of_toNat_eq h; exact .inr ⟨.requestPreview p, _, rfl, rfl⟩
  case _ h => obtain rfl := eq_of_toNat_eq h; exact .inr ⟨.attentionFetch p, _, rfl, rfl⟩
  case _ h => obtain rfl := eq_of_toNat_eq h; exact .inr ⟨.eventTest p _, _, rfl, rfl⟩
  case _ => exact .inl rfl

/-! ### What reaches a port alone -/

/-- A port's state after a transaction or a READ-class command: no permission gained, and the reset pattern count
kept, counted on within 3, or set back. -/
structure PortState.Tamed (x y : PortState) : Prop where
  latch : y.latch = true → x.latch = true
  arm : y.arm = true → x.arm = true
  pattern : x.pattern ≤ 3 → y.pattern ≤ 3

theorem PortState.Tamed.refl (x : PortState) : x.Tamed x := ⟨id, id, id⟩

theorem PortState.Tamed.trans {x y z : PortState} (h : x.Tamed y) (h' : y.Tamed z) : x.Tamed z :=
  ⟨h.latch ∘ h'.latch, h.arm ∘ h'.arm, h'.pattern ∘ h.pattern⟩

/-- A state that differs in one port alone, with no permission gained there. -/
def State.OnPort (s : State) (p : Port) (t : State) : Prop := ∃ x, (s.port p).Tamed x ∧ t = s.setPort p x

theorem State.OnPort.refl (s : State) (p : Port) : s.OnPort p s := ⟨s.port p, .refl _, (s.setPort_self p).symm⟩

theorem State.OnPort.trans {s t u : State} {p : Port} (h : s.OnPort p t) (h' : t.OnPort p u) : s.OnPort p u := by
  obtain ⟨x, hx, rfl⟩ := h
  obtain ⟨y, hy, rfl⟩ := h'
  rw [State.setPort_port] at hy
  exact ⟨y, hx.trans hy, State.setPort_setPort ..⟩

theorem State.OnPort.of_tamed {s : State} {p : Port} {x : PortState} (h : (s.port p).Tamed x) : s.OnPort p (s.setPort p x) :=
  ⟨x, h, rfl⟩

theorem snapshotRead_onPort (p : Port) (code : Byte) (a : Answer) (s : State) : s.OnPort p (snapshotRead p code a s) := by
  unfold snapshotRead
  split
  · exact .of_tamed ⟨id, id, id⟩
  · exact .refl s p

/-- A READ-class row reaches its own port alone. -/
theorem effect_read_onPort {i : Instr} {p : Port} {code : Byte} {args : List Byte}
    (h : readBytes i = some (p, code, args)) (s : State) : s.OnPort p (effect i s) := by
  cases hat : s.atCommand p
  · rw [effect_of_readBytes_elsewhere h hat]
    exact .refl s p
  · obtain ⟨pv, hpv⟩ := effect_of_readBytes h hat
    rw [hpv]
    exact .of_tamed ⟨id, id, id⟩

theorem takeReadCode_onPort (p : Port) (code : Byte) (args : List Byte) (s : State) :
    s.OnPort p (takeReadCode p code args s) := by
  obtain h | ⟨i, given, hi, h⟩ := takeReadCode_row p code args s
  · rw [h]
    exact .refl s p
  · rw [h]
    exact effect_read_onPort hi s

theorem placeChecked_onPort (p : Port) (c : Cursor) (s : State) : s.OnPort p (placeChecked p c s) := by
  unfold placeChecked
  dsimp only
  split
  · split <;> exact .of_tamed ⟨id, id, id⟩
  · split
    · exact .of_tamed ⟨id, id, id⟩
    · split <;> exact .of_tamed ⟨id, id, id⟩
  · exact .of_tamed ⟨id, id, id⟩

theorem setAttn_onPort (p : Port) (u : AttentionUnit) (s : State) : s.OnPort p (s.setAttn p u) := .of_tamed ⟨id, id, id⟩

theorem applyEffect_onPort (p : Port) (e : ReadEffect) (k : Nat) (s : State) : s.OnPort p (applyEffect p e k s) := by
  cases e with
  | none => exact .refl s p
  | advance steps =>
    unfold applyEffect
    dsimp only
    split
    · exact placeChecked_onPort ..
    · exact .refl s p
  | place n c =>
    unfold applyEffect
    dsimp only
    split
    · exact placeChecked_onPort ..
    · exact .refl s p
  | fetch g mask =>
    unfold applyEffect
    dsimp only
    split
    · exact setAttn_onPort ..
    · exact .refl s p
  | test bit =>
    cases bit with
    | none => exact .refl s p
    | some b =>
      unfold applyEffect
      dsimp only
      split
      · exact setAttn_onPort ..
      · exact .refl s p

theorem endRead_tamed (x : PortState) (out : List Byte) : x.Tamed (x.endRead out) :=
  ⟨id, fun h => absurd h Bool.false_ne_true, fun _ => Nat.zero_le 3⟩

theorem endReading_onPort (p : Port) (reply : List Byte) (e : ReadEffect) (k : Nat) (s : State) :
    s.OnPort p (endReading p reply e k s) :=
  (applyEffect_onPort p e k s).trans (.of_tamed (endRead_tamed _ _))

theorem finishReading_onPort (p : Port) (k : Nat) (s : State) : s.OnPort p (finishReading p k s) := by
  unfold finishReading
  split
  · exact endReading_onPort ..
  · exact .refl s p

theorem voidRise_tamed (x : PortState) (d : Bool) : x.Tamed (x.voidRise d) := by
  unfold PortState.voidRise
  split
  · split
    · exact ⟨fun h => absurd h Bool.false_ne_true, fun h => absurd h Bool.false_ne_true, fun _ => Nat.zero_le 3⟩
    · exact ⟨id, id, fun h => by dsimp only; omega⟩
  · exact ⟨id, id, fun _ => by dsimp only; split <;> omega⟩

theorem voidTransaction_onPort (p : Port) (n : Nat) (d : Bool) (s : State) : s.OnPort p (voidTransaction p n d s) := by
  unfold voidTransaction
  split
  · exact .of_tamed (voidRise_tamed _ d)
  · exact .of_tamed ⟨id, id, fun _ => Nat.zero_le 3⟩

theorem riseAfterRead_onPort (p : Port) (code : Byte) (args : List Byte) (s : State) :
    s.OnPort p (riseAfterRead p code args s) := by
  unfold riseAfterRead
  split
  · exact .of_tamed (endRead_tamed _ _)
  · exact (takeReadCode_onPort p code args s).trans (finishReading_onPort ..)

/-- The rise of select reaches its own port alone, or is a write-class row of its port. -/
theorem effect_selectRise_cases (p : Port) (bytes : List Byte) (n : Nat) (d b : Bool) (s : State) :
    s.OnPort p (effect (.selectRise p bytes n d b) s) ∨ ∃ i fr code given, writeBytes i = some (p, fr, code, given)
      ∧ i.wellFormed = true ∧ effect (.selectRise p bytes n d b) s = effect i s
      ∧ ∀ q, i = .cancelPending q .whole → q = p ∧ bytes = [0x47] ∧ n = 0 := by
  show s.OnPort p (whileRunning (riseSelect p bytes n d b) s) ∨ ∃ i fr code given, _ ∧ _ ∧
    whileRunning (riseSelect p bytes n d b) s = _ ∧ _
  unfold whileRunning
  split
  next =>
    unfold riseSelect
    split
    next => exact .inl (.refl s p)
    next =>
      unfold riseSelected
      split
      next => exact .inl (voidTransaction_onPort ..)
      next code args =>
        split
        next => exact .inl (riseAfterRead_onPort ..)
        next =>
          obtain h | ⟨i, given, hi, hwf, h⟩ := takeWriteCode_row p code (framingOf code args n) args b s
          · rw [h]
            exact .inl (.refl s p)
          · refine .inr ⟨i, _, code, given, hi, hwf, h, fun q hq => ?_⟩
            subst hq
            simp only [writeBytes, Option.some.injEq, Prod.mk.injEq] at hi
            obtain ⟨rfl, hfr, rfl, -⟩ := hi
            unfold framingOf at hfr
            split at hfr
            next hlen =>
              obtain ⟨hargs, rfl⟩ := hlen
              exact ⟨rfl, by rw [List.length_eq_zero_iff.mp hargs], rfl⟩
            next => cases hfr
    next => exact .inl (finishReading_onPort ..)
  next => exact .inl (.refl s p)

theorem beginTransaction_onPort (p : Port) (s : State) : s.OnPort p (beginTransaction p s) := by
  unfold beginTransaction
  split
  · exact .of_tamed ⟨id, id, id⟩
  · exact .refl s p

theorem portReset_onPort (p : Port) (s : State) : s.OnPort p (portReset p s) := by
  unfold portReset
  split
  · exact .of_tamed ⟨fun h => absurd h Bool.false_ne_true, fun h => absurd h Bool.false_ne_true, fun _ => Nat.zero_le 3⟩
  · exact .refl s p

theorem previewCompletion_onPort (p : Port) (s : State) : s.OnPort p (previewCompletion p s) := by
  unfold previewCompletion
  split
  · rw [completePreview, State.raiseOn]
    refine State.OnPort.trans (.of_tamed ?_) (.of_tamed ?_)
    · exact ⟨id, id, id⟩
    · exact ⟨id, id, id⟩
  · exact .refl s p

theorem whileRunning_onPort {p : Port} {f : State → State} {s : State} (h : s.OnPort p (f s)) :
    s.OnPort p (whileRunning f s) := by
  unfold whileRunning
  split
  · exact h
  · exact .refl s p

/-- A command or event of a port reaches that port alone, or is a write-class row there; a rise of select is the row
that its bytes spell. -/
theorem effect_port_cases {c : Instr} {p : Port} (hp : portOf c = some p) (s : State) :
    s.OnPort p (effect c s) ∨ ∃ i fr code args, writeBytes i = some (p, fr, code, args) ∧ i.wellFormed = true
      ∧ effect c s = effect i s
      ∧ ∀ q, i = .cancelPending q .whole → c = i ∨ ∃ d b, c = .selectRise q [0x47] 0 d b := by
  cases hw : writeBytes c with
  | some x =>
    obtain ⟨q, fr, code, args⟩ := x
    obtain rfl := Option.some.inj ((portOf_of_writeBytes hw).symm.trans hp)
    obtain hwf | heq := wellFormed_or_effect_eq hw s
    · exact .inr ⟨c, fr, code, args, hw, hwf, rfl, fun _ _ => .inl rfl⟩
    · rw [heq]
      exact .inl (.refl s q)
  | none =>
    cases hr : readBytes c with
    | some x =>
      obtain ⟨q, code, args⟩ := x
      obtain rfl := Option.some.inj ((portOf_of_readBytes hr).symm.trans hp)
      exact .inl (effect_read_onPort hr s)
    | none =>
      cases c
      case selectFall => obtain rfl := Option.some.inj hp; exact .inl (beginTransaction_onPort ..)
      case selectRise q bytes n d b =>
        obtain rfl := Option.some.inj hp
        obtain h | ⟨i, fr, code, args, hi, hwf, heq, hcancel⟩ := effect_selectRise_cases q bytes n d b s
        · exact .inl h
        · refine .inr ⟨i, fr, code, args, hi, hwf, heq, fun r hq => .inr ⟨d, b, ?_⟩⟩
          obtain ⟨rfl, rfl, rfl⟩ := hcancel r hq
          rfl
      case portReset => obtain rfl := Option.some.inj hp; exact .inl (portReset_onPort ..)
      case previewCompletion => obtain rfl := Option.some.inj hp; exact .inl (whileRunning_onPort (previewCompletion_onPort _ s))
      all_goals first | (cases hp; done) | (cases hw; done) | cases hr

end Sys2Proof.Machine
end

section
/-! PROOFS. Moves: every command is a run of few kinds of change, each with what it is allowed to do. An invariant of
every step is then an invariant of each kind of change. -/

namespace Sys2Proof.Machine

open Sys2Proof

/-! ### Changes beside the invariants -/

/-- A channel holds an expected number exactly in ACTIVE and STALLED (R4). -/
def Channel.Held (ch : Channel) : Prop := ch.expected.isSome = true ↔ ch.state = .active ∨ ch.state = .stalled

/-- `t` differs from `s` in nothing that an invariant speaks of, but for permissions lost. -/
structure State.Beside (s t : State) : Prop where
  store : t.store = s.store
  now : t.clock.now = s.clock.now
  start : t.sub.start = s.sub.start
  nominalEnd : t.sub.nominalEnd = s.sub.nominalEnd
  tot : t.tot = s.tot
  ring : t.dem.ring = s.dem.ring
  number : t.per.number = s.per.number
  periodStart : t.per.start = s.per.start
  close : t.per.close = s.per.close
  history : t.per.history = s.per.history
  records : t.log.records = s.log.records
  nextSeq : t.log.nextSeq = s.log.nextSeq
  slot : t.log.slot = s.log.slot
  expected : ∀ c, (t.chans.get c).expected = (s.chans.get c).expected
  state : ∀ c, (t.chans.get c).state = (s.chans.get c).state
  hold : t.sup.hold = s.sup.hold
  pfail : t.pins.pfail = s.pins.pfail
  port : ∀ p, (s.port p).Tamed (t.port p)
  pending : t.pending = s.pending

theorem State.OnPort.beside {s t : State} {p : Port} (h : s.OnPort p t) : s.Beside t := by
  obtain ⟨x, hx, rfl⟩ := h
  constructor <;> try simp
  intro q
  by_cases hq : q = p
  · subst hq
    simpa using hx
  · rw [State.setPort_port_other _ _ hq]
    exact .refl _

theorem State.beside_raiseOn (s : State) (p : Port) (f : AttnFlag) : s.Beside (s.raiseOn p f) :=
  State.OnPort.beside (.of_tamed (p := p) ⟨id, id, id⟩)

theorem State.beside_markSub (s : State) (f : StatusFlag) : s.Beside (s.markSub f) := by
  constructor <;> try simp
  exact fun p => by cases p <;> exact .refl _

theorem State.beside_setDue (s : State) (x : Due) : s.Beside (s.setDue x) := by
  constructor <;> try simp
  exact fun p => .refl _

theorem State.beside_setFree (s : State) (n : Nat) : s.Beside (s.setFree n) := by
  constructor <;> try simp
  exact fun p => .refl _

theorem State.beside_setLim (s : State) (x : Monitor) : s.Beside (s.setLim x) := by
  constructor <;> try simp
  exact fun p => .refl _

theorem State.beside_setClock (s : State) {x : Clock} (h : x.now = s.clock.now) : s.Beside (s.setClock x) := by
  constructor <;> try simp
  · exact h
  · exact fun p => .refl _

theorem State.beside_setSub (s : State) {x : OpenSub} (hs : x.start = s.sub.start) (he : x.nominalEnd = s.sub.nominalEnd) :
    s.Beside (s.setSub x) := by
  constructor <;> try simp
  · exact hs
  · exact he
  · exact fun p => .refl _

theorem State.beside_setSup (s : State) {x : Supply} (h : x.hold = s.sup.hold) : s.Beside (s.setSup x) := by
  constructor <;> try simp
  · exact h
  · exact fun p => .refl _

theorem State.beside_setPins (s : State) {x : Pins} (h : x.pfail = s.pins.pfail) : s.Beside (s.setPins x) := by
  constructor <;> try simp
  · exact h
  · exact fun p => .refl _

theorem State.beside_setDem (s : State) {x : Demand} (h : x.ring = s.dem.ring) : s.Beside (s.setDem x) := by
  constructor <;> try simp
  · exact h
  · exact fun p => .refl _

theorem State.beside_setLog (s : State) {x : ProfileLog} (hr : x.records = s.log.records) (hn : x.nextSeq = s.log.nextSeq)
    (hs : x.slot = s.log.slot) : s.Beside (s.setLog x) := by
  constructor <;> try simp
  · exact hr
  · exact hn
  · exact hs
  · exact fun p => .refl _

theorem State.beside_setPer (s : State) {x : PeriodUnit} (hn : x.number = s.per.number) (hs : x.start = s.per.start)
    (hc : x.close = s.per.close) (hh : x.history = s.per.history) : s.Beside (s.setPer x) := by
  constructor <;> try simp
  · exact hn
  · exact hs
  · exact hc
  · exact hh
  · exact fun p => .refl _

theorem State.beside_setChan (s : State) (c : Fin 4) {x : Channel} (he : x.expected = (s.chans.get c).expected)
    (hs : x.state = (s.chans.get c).state) : s.Beside (s.setChan c x) := by
  constructor <;> try simp
  · intro d
    by_cases hd : d = c
    · subst hd
      simpa using he
    · rw [PerFour.get_set_other _ _ hd]
  · intro d
    by_cases hd : d = c
    · subst hd
      simpa using hs
    · rw [PerFour.get_set_other _ _ hd]
  · exact fun p => by cases p <;> exact .refl _

/-! ### The moves -/

/-- How far a change reaches into the Configuration Store: not at all but for an activation of an armed schedule,
as a completion or a start does, or as a row of a port does. -/
inductive Reach where
  | beside
  | completion
  | row

/-- A single change of one of the kinds that commands are made of. -/
inductive Move (reach : Reach) : State → State → Prop
  | beside {s t : State} (h : s.Beside t) : Move reach s t
  /-- a close at whose end the next sub-interval opens at the present instant -/
  | close (s : State) (cause : StatusSet) (stop : Instant) : Move reach s (closeWith cause stop id s.clock.now s)
  /-- a close that Set Time makes -/
  | closeAt (s : State) (cause : StatusSet) (new : Instant) (h : new.InRange) :
      Move reach s (closeWith cause s.clock.now (setInstant new) new s)
  | emptyRing (s : State) : Move reach s (emptyRing s)
  | log (s : State) (b : LogBody) (h : b.LengthSafe) : Move reach s (logRecord b s)
  | startClear (s : State) : Move reach s (startClear s)
  | completeClear (s : State) : Move reach s (completeClear s)
  | freeze (s : State) (cause : Cause) (d : Bool) (hidle : s.per.close = .idle) (hlast : s.per.number ≠ lastPeriod) :
      Move reach s (freezePeriod cause d s)
  | clearHistory (s : State) : Move reach s (s.setPer { s.per with history := [] })
  | activate (s : State) (tables : Tables) (day : Nat) (h : s.store.pendSched = .armed tables day) :
      Move reach s (activateSchedule s)
  | load (s : State) (tables : Tables) (hst : reach = .row) : Move reach s (s.setStore { s.store with pendSched := .loading tables })
  | arm (s : State) (tables : Tables) (day : Nat) (hv : validTables tables = true)
      (hst : reach = .row) : Move reach s (s.setStore { s.store with pendSched := .armed tables day })
  | cancel (s : State) (hst : reach = .row) : Move reach s (s.setStore { s.store with pendSched := .none })
  | dates (s : State) (p : Port) (l : List Nat) (h : s.store.writing = some ⟨p, .closeDates l⟩)
      (hst : reach = .completion) : Move reach s (s.setStore { s.store with closeDates := l })
  | begin (s : State) (p : Port) (i : StoreItem) (hrange : s.config.InRange → i.KeepsRange s.config)
      (hdates : ∀ l, i = .closeDates l → ascending l = true) (hst : reach = .row) : Move reach s (startWrite p i s)
  | done (s : State) (hst : reach ≠ .beside) : Move reach s (abandonWrite s)
  /-- a setting in force, with the nominal end that the new S or sync mode gives, or the old one -/
  | setting (s : State) (p : Port) (v : Setting) (e : Instant) (h : s.store.writing = some ⟨p, .setting v⟩)
      (hend : (e = s.sub.nominalEnd ∧ (v.apply s.config).subLen = s.config.subLen
            ∧ (v.apply s.config).syncMode = s.config.syncMode)
          ∨ e = nominalEndOf (v.apply s.config) s.sub.start ∨ e = nominalEndOf (v.apply s.config) s.clock.now)
      (hring : (v.apply s.config).windowLen = s.config.windowLen ∨ s.dem.ring = [])
      (hst : reach = .completion) : Move reach s ((writeSetting v s).setSub { s.sub with nominalEnd := e })
  | limit (s : State) (p : Port) (k : Fin 4) (l : LimitConfig) (h : s.store.writing = some ⟨p, .limit k l⟩)
      (hst : reach = .completion) : Move reach s (s.setConfig { s.config with limits := s.config.limits.set k l })
  | lockMode (s : State) (m : LockMode) (hperm : s.config.lockMode ≠ .permanent)
      (h : ∀ p v, s.store.writing ≠ some ⟨p, .setting v⟩) (hst : reach = .completion) :
      Move reach s (s.setConfig { s.config with lockMode := m })
  | lockChannel (s : State) (c : Fin 4) (h : ∀ p v, s.store.writing ≠ some ⟨p, .setting v⟩)
      (hst : reach = .completion) : Move reach s (commitCalibrationLock c s)
  | moveNow (s : State) (new : Instant) (h : s.clock.now.InRange → new.InRange) :
      Move reach s (s.setClock { s.clock with now := new })
  | moveEnd (s : State) (e : Instant) (h : e.InRange) (hmode : s.config.syncMode = .external) :
      Move reach s (s.setSub { s.sub with nominalEnd := e })
  | place (s : State) (start : Instant) (h : start.InRange) : Move reach s (placeSub start s)
  | chan (s : State) (c : Fin 4) (x : Channel) (h : (s.chans.get c).Held → x.Held) : Move reach s (s.setChan c x)
  | channelsStarted (s : State) : Move reach s (channelsStarted s)
  | latch (s : State) (p : Port) (h : s.sup.hold = false) : Move reach s (s.setPort p { s.port p with latch := true })
  | armReset (s : State) (h : s.sup.hold = false) : Move reach s (s.setUtil { s.util with arm := true })
  | hold (s : State) : Move reach s (enterHold s)
  | release (s : State) (x : Supply) (y : Pins) (hx : x.hold = false) (hy : y.pfail = false) :
      Move reach s ((s.setSup x).setPins y)

/-- A run of changes. -/
abbrev Moves (reach : Reach) : State → State → Prop := Relation.ReflTransGen (Move reach)

section
variable {reach : Reach}

theorem Move.run {s t : State} (h : Move reach s t) : Moves reach s t := .single h

theorem State.Beside.moves {s t : State} (h : s.Beside t) : Moves reach s t := (Move.beside h).run

theorem State.OnPort.moves {s t : State} {p : Port} (h : s.OnPort p t) : Moves reach s t := h.beside.moves

theorem Moves.trans {s t u : State} (h : Moves reach s t) (h' : Moves reach t u) : Moves reach s u := Relation.ReflTransGen.trans h h'

/-- A predicate that every change keeps is kept by every run of changes. -/
theorem Moves.keeps {I : State → Prop} (hI : ∀ s t, Move reach s t → I s → I t) {s t : State} (h : Moves reach s t) : I s → I t := by
  induction h with
  | refl => exact id
  | tail _ hmove ih => exact fun hs => hI _ _ hmove (ih hs)

/-! ### Flags, markers and the other operations beside -/

theorem raise_moves (s : State) (f : AttnFlag) : Moves reach s (s.raise f) :=
  (s.beside_raiseOn .utility f).moves.trans (State.beside_raiseOn _ .customer f).moves

theorem raiseIf_moves (s : State) (b : Bool) (f : AttnFlag) : Moves reach s (s.raiseIf b f) := by
  unfold State.raiseIf
  split
  · exact raise_moves s f
  · exact .refl

theorem refreshDayType_moves (s : State) : Moves reach s (refreshDayType s) := (s.beside_setClock (by rfl)).moves
theorem refreshPointer_moves (s : State) : Moves reach s (refreshPointer s) := (s.beside_setClock (by rfl)).moves
theorem monitorStarted_moves (s : State) : Moves reach s (monitorStarted s) :=
  (s.beside_setLim _).moves.trans (State.beside_setLim _ _).moves

theorem evaluateComparators_moves (s : State) : Moves reach s (evaluateComparators s) :=
  ((s.beside_setLim _).moves.trans (State.beside_setLim _ _).moves).trans
    ((raiseIf_moves _ _ _).trans (raiseIf_moves _ _ _))

theorem monitorSecond_moves (s : State) : Moves reach s (monitorSecond s) := by
  unfold monitorSecond
  split
  · exact (s.beside_setLim _).moves
  · dsimp only
    split
    · exact (s.beside_setLim _).moves.trans (evaluateComparators_moves _)
    · exact (s.beside_setLim _).moves

/-- A marker of at most twenty words comes to the log. -/
theorem logMarker_moves (kind : RecordKind) {payload : List Nat} (h : payload.length ≤ 20) (s : State) :
    Moves reach s (logMarker kind payload s) := by
  refine (Move.log s _ ?_).run
  simp only [LogBody.LengthSafe, LogBody.words, markerBody, List.length_map]
  omega

theorem scheduleMarker_moves (effective : Option Nat) (s : State) : Moves reach s (scheduleMarker effective s) := by
  cases effective with
  | none => exact .refl
  | some day => exact logMarker_moves .schedule (by simp) s

/-! ### Channels -/

theorem dropWithCheck_moves (s : State) : Moves reach s (dropWithCheck s) :=
  (raise_moves s .linkCheck).trans (State.beside_markSub _ _).moves

theorem addCount_moves (c : Fin 4) (q : Quantity) (m : Nat) (s : State) : Moves reach s (addCount c q m s) :=
  (s.beside_setChan c (by rfl) (by rfl)).moves

theorem takeCount_moves (c : Fin 4) (pos neg : Quantity) (v : BitVec 16) (s : State) :
    Moves reach s (takeCount c pos neg v s) := by
  unfold takeCount
  split_ifs
  · exact .refl
  · exact addCount_moves ..
  · exact ((raise_moves s .countClip).trans (State.beside_markSub _ _).moves).trans (addCount_moves ..)
  · exact addCount_moves ..

theorem hearRecord_moves (c : Fin 4) (seq : BitVec 4) (s : State) : Moves reach s (hearRecord c seq s) := by
  have heard : ∀ u : State, Moves reach u (u.setChan c { u.chans.get c with state := .active, expected := some (seq + 1), timer := 0 }) :=
    fun u => (Move.chan u c _ fun _ => by simp [Channel.Held]).run
  unfold hearRecord
  dsimp only
  split
  · exact ((raise_moves s .seqGap).trans (State.beside_markSub _ _).moves).trans (heard _)
  · exact heard s

theorem useRecord_moves (c : Fin 4) (f : LinkFrame) (s : State) : Moves reach s (useRecord c f s) := by
  unfold useRecord
  dsimp only
  split
  · exact ((hearRecord_moves c _ s).trans (takeCount_moves ..)).trans (takeCount_moves ..)
  · exact (hearRecord_moves c _ s).trans (State.beside_markSub _ _).moves

theorem takeRecord_moves (f : LinkFrame) (s : State) : Moves reach s (takeRecord f s) := by
  unfold takeRecord
  split
  · exact dropWithCheck_moves s
  · split
    · exact dropWithCheck_moves s
    · split_ifs
      · exact .refl
      · exact useRecord_moves ..
      · exact .refl

theorem takeFrame_moves (f : LinkFrame) (s : State) : Moves reach s (takeFrame f s) := by
  unfold takeFrame
  split_ifs
  · exact takeRecord_moves f s
  · exact dropWithCheck_moves s
  · exact .refl

/-- A channel that stalls holds a number: the one it held, or the one drawn (R4, assumption 16). -/
theorem Channel.held_stalled {ch : Channel} (h : ch.state = .waiting ∨ ch.state = .active) (d : BitVec 4) (n : Nat)
    (hheld : ch.Held) : Channel.Held { ch with state := .stalled, expected := ch.expectedStalled d, timer := n } := by
  obtain h | h := h
  · simp [Channel.Held, Channel.expectedStalled_waiting d h]
  · simpa [Channel.Held, Channel.expectedStalled_active d h] using hheld.mpr (.inl h)

theorem enterStalled_moves {c : Fin 4} {s : State} (h : (s.chans.get c).state = .waiting ∨ (s.chans.get c).state = .active) :
    Moves reach s (enterStalled c s) :=
  (Move.chan s c _ (Channel.held_stalled h (unheardExpected s.free) _)).run.trans
    ((State.beside_setFree _ _).moves.trans ((raise_moves _ .linkFault).trans (State.beside_markSub _ _).moves))

theorem stallSecond_moves (c : Fin 4) (s : State) : Moves reach s (stallSecond c s) := by
  unfold stallSecond
  dsimp only
  split
  next h =>
    split
    · exact enterStalled_moves h
    · exact (s.beside_setChan c (by rfl) (by rfl)).moves
  next => exact .refl

theorem countStall_moves (c : Fin 4) (s : State) : Moves reach s (countStall c s) := by
  unfold countStall
  split
  · exact (s.beside_setDue _).moves
  · exact stallSecond_moves c s

theorem takeStall_moves (c : Fin 4) (s : State) : Moves reach s (takeStall c s) := by
  unfold takeStall
  split
  · exact (s.beside_setDue _).moves.trans (stallSecond_moves c _)
  · exact .refl

theorem countStalls_moves (s : State) : Moves reach s (countStalls s) := by
  unfold countStalls
  split
  · exact .refl
  · exact (countStall_moves 0 s).trans ((countStall_moves 1 _).trans ((countStall_moves 2 _).trans (countStall_moves 3 _)))

/-! ### Closes, and the events of a second -/

theorem closeNow_moves (cause : StatusSet) (s : State) : Moves reach s (closeNow cause s) := (Move.close s cause _).run
theorem forceClose_moves (f : StatusFlag) (s : State) : Moves reach s (forceClose f s) := closeNow_moves _ s
theorem closeExpired_moves (s : State) : Moves reach s (closeExpired s) := closeNow_moves _ s

theorem takeBoundary_moves (s : State) : Moves reach s (takeBoundary s) := by
  unfold takeBoundary
  split
  · exact closeNow_moves _ s
  · exact .refl

theorem takeExpiry_moves (s : State) : Moves reach s (takeExpiry s) := by
  unfold takeExpiry
  split
  · exact closeExpired_moves s
  · exact .refl

theorem takeEnd_moves (s : State) : Moves reach s (takeEnd s) := (takeBoundary_moves s).trans (takeExpiry_moves _)

/-- An activation that is due finds a schedule armed (R39). -/
theorem armed_of_activationAtMidnight {s : State} (h : s.activationAtMidnight.isSome = true) :
    ∃ tables day, s.store.pendSched = .armed tables day := by
  unfold State.activationAtMidnight at h
  split at h
  · exact ⟨_, _, by assumption⟩
  · cases h

theorem armed_of_activationAtStart {s : State} (h : s.activationAtStart.isSome = true) :
    ∃ tables day, s.store.pendSched = .armed tables day := by
  unfold State.activationAtStart at h
  split at h
  · exact ⟨_, _, by assumption⟩
  · cases h

theorem activateAtStart_moves (s : State) : Moves reach s (activateAtStart s) := by
  unfold activateAtStart
  split
  next h =>
    obtain ⟨tables, day, harmed⟩ := armed_of_activationAtStart h
    exact (Move.activate s tables day harmed).run
  next => exact .refl

theorem takeMidnight_moves (s : State) : Moves reach s (takeMidnight s) := by
  unfold takeMidnight
  split
  · dsimp only
    split
    next h =>
      obtain ⟨tables, day, harmed⟩ := armed_of_activationAtMidnight h
      exact (s.beside_setDue _).moves.trans ((Move.activate _ tables day harmed).run.trans (scheduleMarker_moves _ _))
    next => exact (s.beside_setDue _).moves.trans (refreshDayType_moves _)
  · exact .refl

theorem freeze_moves (cause : Cause) (d : Bool) {s : State} (hidle : s.per.close = .idle) (hlast : s.per.number ≠ lastPeriod) :
    Moves reach s (freeze cause d s) :=
  (Move.freeze s cause d hidle hlast).run.trans (logMarker_moves .close (by simp) _)

theorem State.canFreeze_iff (s : State) :
    s.canFreeze = true ↔ s.per.close = .idle ∧ s.per.lockout = 0 ∧ s.per.number ≠ lastPeriod := by
  simp [State.canFreeze, State.closeIdle_iff, and_assoc]

theorem freeze_moves_of_canFreeze (cause : Cause) (d : Bool) {s : State} (h : s.canFreeze = true) :
    Moves reach s (freeze cause d s) := by
  obtain ⟨hidle, -, hlast⟩ := s.canFreeze_iff.mp h
  exact freeze_moves cause d hidle hlast

theorem deferClose_moves (cause : Cause) (s : State) : Moves reach s (deferClose cause s) :=
  (s.beside_setPer (by rfl) (by rfl) (by rfl) (by rfl)).moves.trans (raise_moves _ .closeDeferred)

theorem dateRequest_moves (cause : Cause) (s : State) : Moves reach s (dateRequest cause s) := by
  unfold dateRequest
  split_ifs with h
  · exact freeze_moves_of_canFreeze cause false h
  · exact .refl
  · exact deferClose_moves cause s

theorem carryOutDeferred_moves {s : State} (hidle : s.per.close = .idle) : Moves reach s (carryOutDeferred s) := by
  unfold carryOutDeferred
  split
  · split_ifs with h
    · exact (s.beside_setPer (by rfl) (by rfl) (by rfl) (by rfl)).moves
    · exact freeze_moves _ true hidle h
  · exact .refl

theorem takeLockout_moves (s : State) : Moves reach s (takeLockout s) := by
  have counted : Moves reach s ((s.setDue { s.due with lockout := false }).setPer { s.per with lockout := s.per.lockout - 1 }) :=
    (s.beside_setDue _).moves.trans (State.beside_setPer _ (by rfl) (by rfl) (by rfl) (by rfl)).moves
  unfold takeLockout
  split
  · dsimp only
    split
    next h =>
      obtain ⟨-, hidle⟩ := Bool.and_eq_true_iff.mp h
      exact counted.trans (carryOutDeferred_moves ((State.closeIdle_iff _).mp hidle))
    next => exact counted
  · exact .refl

theorem countLockout_moves (s : State) : Moves reach s (countLockout s) := by
  unfold countLockout
  split
  · exact (s.beside_setDue _).moves
  · exact (s.beside_setPer (by rfl) (by rfl) (by rfl) (by rfl)).moves

theorem takeDate_moves (s : State) : Moves reach s (takeDate s) := by
  unfold takeDate
  split
  · exact .refl
  · exact (s.beside_setDue _).moves.trans (dateRequest_moves _ _)

theorem takeDates_moves (n : Nat) (s : State) : Moves reach s (takeDates n s) := by
  induction n generalizing s with
  | zero => exact .refl
  | succ n ih => exact (takeDate_moves s).trans (ih _)

theorem settleDue_moves (s : State) : Moves reach s (settleDue s) :=
  ((takeMidnight_moves s).trans ((takeStall_moves 0 _).trans ((takeStall_moves 1 _).trans ((takeStall_moves 2 _).trans
    (takeStall_moves 3 _))))).trans ((takeEnd_moves _).trans ((takeDates_moves _ _).trans (takeLockout_moves _)))

theorem advanceSecond_moves (s : State) : Moves reach s (advanceSecond s) :=
  (Move.moveNow s _ fun h => Instant.tick_range _ h.1).run.trans (State.beside_setSub _ (by rfl) (by rfl)).moves

theorem detectCloseDate_moves (s : State) : Moves reach s (detectCloseDate s) := by
  unfold detectCloseDate
  split
  · split
    · exact Moves.trans (State.beside_setClock _ (by rfl)).moves (State.beside_setDue _ _).moves
    · exact .refl
  · exact .refl

theorem timeBaseSecond_moves (s : State) : Moves reach s (timeBaseSecond s) := by
  have midnight : ∀ u : State, Moves reach u (if u.clock.now.sec = 0 then u.setDue { u.due with midnight := true } else u) := by
    intro u
    split
    · exact (u.beside_setDue _).moves
    · exact .refl
  have cycle : ∀ u : State, Moves reach u (if u.clock.now = .zero then
      u.setClock { u.clock with pointer := if u.store.closeDates.isEmpty then none else some 0 } else u) := by
    intro u
    split
    · exact Moves.trans (State.beside_setClock _ (by rfl)).moves .refl
    · exact .refl
  exact (advanceSecond_moves s).trans ((midnight _).trans ((cycle _).trans
    ((State.beside_setSup _ (by rfl)).moves.trans (detectCloseDate_moves _))))

theorem markHold_moves (s : State) : Moves reach s (markHold s) := by
  unfold markHold
  split
  · exact (s.beside_markSub _).moves
  · exact .refl

theorem secondTaken_moves (b : Bool) (s : State) : Moves reach s (secondTaken b s) := by
  have counted : Moves reach s (markHold (timeBaseSecond (settleDue s))) :=
    (settleDue_moves s).trans ((timeBaseSecond_moves _).trans (markHold_moves _))
  unfold secondTaken
  dsimp only
  refine Moves.trans ?_ ((countStalls_moves _).trans ((countLockout_moves _).trans (monitorSecond_moves _)))
  split
  · exact counted.trans (takeEnd_moves _)
  · exact counted

theorem secondStep_moves (b : Bool) (s : State) : Moves reach s (secondStep b s) := by
  unfold secondStep
  split
  · exact secondTaken_moves b s
  · exact advanceSecond_moves s

/-! ### Pins, Hold and the supply -/

theorem syncPulse_moves (s : State) : Moves reach s (syncPulse s) := by
  unfold syncPulse
  dsimp only
  split
  · exact (s.beside_setPins (by rfl)).moves
  · exact Moves.trans (s.beside_setPins (by rfl)).moves (closeNow_moves _ _)

theorem buttonPress_moves (s : State) : Moves reach s (buttonPress s) := by
  unfold buttonPress
  dsimp only
  split
  next h =>
    obtain ⟨-, hfreeze⟩ := Bool.and_eq_true_iff.mp h
    exact Moves.trans (s.beside_setPins (by rfl)).moves (freeze_moves_of_canFreeze _ _ hfreeze)
  next => exact (s.beside_setPins (by rfl)).moves

theorem releaseHold_moves (s : State) : Moves reach s (releaseHold s) :=
  (Move.release s { s.sup with hold := false, outageValid := false } { s.pins with pfail := false } rfl rfl).run.trans
    (State.beside_markSub _ .outage).moves

theorem loseSupply_moves (s : State) : Moves reach s (loseSupply s) :=
  Moves.trans (s.beside_setSup (by rfl)).moves (State.beside_setDue _ _).moves

theorem finishClear_moves (s : State) : Moves reach s (finishClear s) := by
  unfold finishClear
  split
  · exact (Move.completeClear s).run
  · exact .refl

end

end Sys2Proof.Machine
end

section
/-! PROOFS. Every command as a run of moves, from the state itself or from one of the three that a close completion,
a cold start and a warm start set out from. -/

namespace Sys2Proof.Machine

open Sys2Proof

/-! ### Settings (R169) -/

theorem le_clampTo {a b : Nat} (h : a ≤ b) (v : Nat) : a ≤ clampTo a b v ∧ clampTo a b v ≤ b := by
  unfold clampTo
  omega

theorem PerFour.set_set {α : Type} (x : PerFour α) (i : Fin 4) (v w : α) : (x.set i v).set i w = x.set i w := by
  fin_cases i <;> rfl

/-- A setting written again changes no more. -/
theorem Setting.apply_apply (v : Setting) (cfg : Config) : v.apply (v.apply cfg) = v.apply cfg := by
  cases v <;> simp [Setting.apply, Config.setChannel, PerFour.set_set]

/-- A setting that leaves S, N and the sync mode. -/
def Setting.KeepsTime (v : Setting) : Prop :=
  ∀ cfg : Config, (v.apply cfg).subLen = cfg.subLen ∧ (v.apply cfg).syncMode = cfg.syncMode
    ∧ (v.apply cfg).windowLen = cfg.windowLen

/-- A channel's new settings, in range, leave every channel's in range. -/
theorem Config.InRange.setChannel {cfg : Config} (h : cfg.InRange) (c : Fin 4) {x : ChannelConfig} (hx : x.InRange) :
    (cfg.setChannel c x).InRange := by
  obtain ⟨hwin, hchan, hrest⟩ := h
  refine ⟨hwin, fun i => ?_, hrest⟩
  by_cases hi : i = c
  · subst hi
    simpa [Config.setChannel] using hx
  · simpa [Config.setChannel, PerFour.get_set_other _ _ hi] using hchan i

theorem of_inRange_eq_some {lo hi v x : Nat} (h : inRange lo hi v = some x) : x = v ∧ lo ≤ v ∧ v ≤ hi := by
  unfold inRange at h
  split_ifs at h with hv
  exact ⟨(Option.some.inj h).symm, hv⟩

/-- A value field that an item's rule takes leaves the configuration in range (R169 step 5). -/
theorem Setting.inRange_of_checked {cfg : Config} {item : ItemName} {value : BitVec 32} {v : Setting} (h : cfg.InRange)
    (hv : Setting.checked cfg item value = some v) : (v.apply cfg).InRange := by
  have hcfg := h
  obtain ⟨⟨hS, hN1, hN2, hT⟩, hchan, hlim, ⟨hb1, hb2, hb3, hb4, hb5, hb6, hb7, hb8⟩, hst1, hst2, hg, hw, hc, hd1, hd2, hp1,
    hp2, hl⟩ := h
  cases item <;> simp only [Setting.checked, Option.map_eq_some_iff, Option.some.injEq, reduceCtorEq] at hv
  case channelK c =>
    obtain ⟨k, hk, rfl⟩ := hv
    obtain ⟨rfl, hk1, hk2⟩ := of_inRange_eq_some hk
    obtain ⟨-, -, hss⟩ := hchan c
    exact hcfg.setChannel c ⟨hk1, hk2, hss⟩
  case channelSS c =>
    split_ifs at hv with hss
    obtain rfl := Option.some.inj hv
    obtain ⟨hk1, hk2, -⟩ := hchan c
    exact hcfg.setChannel c ⟨hk1, hk2, hss⟩
  case channelEnable c =>
    obtain ⟨on, -, rfl⟩ := hv
    exact hcfg.setChannel c (hchan c)
  case channelWeight c =>
    obtain ⟨w, -, rfl⟩ := hv
    exact hcfg.setChannel c (hchan c)
  case subLen =>
    split_ifs at hv with hs
    obtain rfl := Option.some.inj hv
    exact ⟨⟨hs.1, hN1, hN2, (Nat.mul_comm _ _).trans_le hs.2⟩, hchan, hlim,
      ⟨hb1, hb2, hb3, hb4, hb5, hb6, hb7, hb8⟩, hst1, hst2, hg, hw, hc, hd1, hd2, hp1, hp2, hl⟩
  case windowLen =>
    split_ifs at hv with hs
    obtain rfl := Option.some.inj hv
    exact ⟨⟨hS, hs.1, hs.2.1, hs.2.2⟩, hchan, hlim,
      ⟨hb1, hb2, hb3, hb4, hb5, hb6, hb7, hb8⟩, hst1, hst2, hg, hw, hc, hd1, hd2, hp1, hp2, hl⟩
  case polarity | syncMode | reactive | registerMode | excludeFlagged | basis | excessOn | pfAdjustOn | billable | logMask =>
    obtain ⟨x, -, rfl⟩ := hv
    exact hcfg
  case weekdayOffset | closeSecond | digits | ratio =>
    obtain ⟨x, hx, rfl⟩ := hv
    obtain ⟨rfl, h1, h2⟩ := of_inRange_eq_some hx
    refine ⟨⟨hS, hN1, hN2, hT⟩, hchan, hlim, ⟨hb1, hb2, hb3, ?_, hb5, hb6, hb7, hb8⟩, hst1, hst2, hg, ?_, ?_, ?_, ?_, hp1,
      hp2, hl⟩ <;> assumption
  case contractMin =>
    obtain rfl := hv
    exact ⟨⟨hS, hN1, hN2, hT⟩, hchan, hlim, ⟨hb1, hb2, Nat.le_of_lt_succ value.isLt, hb4, hb5, hb6, hb7, hb8⟩, hst1, hst2, hg,
      hw, hc, hd1, hd2, hp1, hp2, hl⟩
  case stallTimeout | grace | pickupThreshold | pickupLength | ratchetPct | lookback | pfRef | pfFloor | lockoutLen =>
    obtain rfl := hv
    refine ⟨⟨hS, hN1, hN2, hT⟩, hchan, hlim, ⟨?_, ?_, hb3, hb4, ?_, ?_, ?_, ?_⟩, ?_, ?_, ?_, hw, hc, hd1, hd2, ?_, ?_, ?_⟩ <;>
      simp only [Setting.apply, clampTo] <;> omega

/-- A Write Limit's clamped settings are in range (R146). -/
theorem limitItem_keepsRange {a : LimitArgs} {i : StoreItem} (h : limitItem a = some i) :
    (∀ cfg, i.KeepsRange cfg) ∧ ∀ l, i ≠ .closeDates l := by
  unfold limitItem at h
  split at h
  · obtain rfl := Option.some.inj h
    obtain ⟨-, hhyst⟩ := le_clampTo (Nat.zero_le a.threshold.toNat) a.hysteresis.toNat
    obtain ⟨-, hhold⟩ := le_clampTo (Nat.zero_le 3600) a.minHold.toNat
    exact ⟨fun cfg => ⟨Nat.le_of_lt_succ a.threshold.isLt, hhyst, hhold⟩, by simp⟩
  · cases h

/-! ### Configuration Store writes -/

section
variable {reach : Reach}

/-- A store write that names neither a setting, a limit nor close dates begins without a condition. -/
theorem startWrite_moves {i : StoreItem} (hrange : ∀ cfg, i.KeepsRange cfg) (hdates : ∀ l, i ≠ .closeDates l) (p : Port)
    (s : State) : Moves .row s (startWrite p i s) :=
  (Move.begin s p i (fun _ => hrange _) (fun l hl => absurd hl (hdates l)) rfl).run

theorem storeOrRange_moves {i : Option StoreItem} (h : ∀ x, i = some x → (∀ cfg, x.KeepsRange cfg) ∧ ∀ l, x ≠ .closeDates l)
    (p : Port) (s : State) : Moves .row s (storeOrRange p i s).2 := by
  cases i with
  | none => exact .refl
  | some x => exact startWrite_moves (h x rfl).1 (h x rfl).2 p s

theorem checkThen_moves {next : State → Judged} {s : State} (h : Moves reach s (next s).2) (c : Bool) (r : Result) :
    Moves reach s (checkThen c r next s).2 := by
  unfold checkThen
  split
  · exact .refl
  · exact h

theorem pendingWrite_moves {own : State → Judged} {s : State} (h : Moves reach s (own s).2) : Moves reach s (pendingWrite own s).2 :=
  checkThen_moves (checkThen_moves h _ _) _ _

/-- A setting in force that leaves S, N and the sync mode. -/
theorem writeSetting_moves {s : State} {p : Port} {v : Setting} (hw : s.store.writing = some ⟨p, .setting v⟩)
    (hkeep : v.KeepsTime) : Moves .completion s (writeSetting v s) :=
  have ⟨hS, hm, hN⟩ := hkeep s.config
  (Move.setting s p v s.sub.nominalEnd hw (.inl ⟨rfl, hS, hm⟩) (.inl hN) rfl).run

theorem onChange_moves (v : Setting) (f : State → State) {s : State} (h : Moves reach s (f s)) : Moves reach s (onChange v f s) := by
  unfold onChange
  split
  · exact .refl
  · exact h

theorem clearResidues_moves (c : Fin 4) (s : State) : Moves reach s (clearResidues c s) := (s.beside_setChan c (by rfl) (by rfl)).moves

/-- A forced close and the ring emptied, with the store as it was. -/
theorem changeSubLen_moves {s : State} {p : Port} {n : Nat} (hw : s.store.writing = some ⟨p, .setting (.subLen n)⟩) :
    Moves .completion s (changeSubLen (.subLen n) s) :=
  ((forceClose_moves .config s).trans (Move.emptyRing _).run).trans
    (Move.setting _ p (.subLen n) _ (by simpa using hw) (.inr (.inl rfl)) (.inl rfl) rfl).run

theorem changeWindowLen_moves {s : State} {p : Port} {n : Nat} (hw : s.store.writing = some ⟨p, .setting (.windowLen n)⟩) :
    Moves .completion s (changeWindowLen (.windowLen n) s) :=
  ((forceClose_moves .config s).trans (Move.emptyRing _).run).trans
    (Move.setting _ p (.windowLen n) _ (by simpa using hw) (.inl ⟨rfl, rfl, rfl⟩) (.inr rfl) rfl).run

theorem changeSyncMode_moves {s : State} {p : Port} {m : SyncMode} (hw : s.store.writing = some ⟨p, .setting (.syncMode m)⟩) :
    Moves .completion s (changeSyncMode (.syncMode m) m s) := by
  cases m with
  | external =>
    exact ((Move.setting s p _ _ hw (.inr (.inl rfl)) (.inl rfl) rfl).run.trans (State.beside_markSub _ .config).moves).trans
      (takeExpiry_moves _)
  | internal =>
    exact (Move.setting s p _ _ hw (.inr (.inr rfl)) (.inl rfl) rfl).run.trans (State.beside_markSub _ .config).moves

theorem changeEnable_moves {s : State} {p : Port} {c : Fin 4} {on : Bool}
    (hw : s.store.writing = some ⟨p, .setting (.channelEnable c on)⟩) : Moves .completion s (changeEnable (.channelEnable c on) c on s) :=
  ((writeSetting_moves hw fun _ => ⟨rfl, rfl, rfl⟩).trans (State.beside_markSub _ .config).moves).trans
    (Move.chan _ c _ fun _ => by cases on <;> simp [Channel.Held, Channel.enableChanged]).run

theorem commitSetting_moves {s : State} {p : Port} {v : Setting} (hw : s.store.writing = some ⟨p, .setting v⟩) :
    Moves .completion s (commitSetting v s) := by
  have written : v.KeepsTime → Moves .completion s (writeSetting v s) := writeSetting_moves hw
  have marked : v.KeepsTime → Moves .completion s ((writeSetting v s).markSub .config) :=
    fun h => (written h).trans (State.beside_markSub _ .config).moves
  unfold commitSetting
  cases v <;> dsimp only
  case channelK | channelSS =>
    refine onChange_moves _ _ ?_
    exact (marked fun _ => ⟨rfl, rfl, rfl⟩).trans (clearResidues_moves _ _)
  case channelEnable => exact onChange_moves _ _ (changeEnable_moves hw)
  case channelWeight =>
    refine onChange_moves _ _ ?_
    exact (forceClose_moves .config s).trans (writeSetting_moves (p := p) (by simpa using hw) fun _ => ⟨rfl, rfl, rfl⟩)
  case polarity | reactive =>
    refine onChange_moves _ _ ?_
    exact marked fun _ => ⟨rfl, rfl, rfl⟩
  case subLen => exact onChange_moves _ _ (changeSubLen_moves hw)
  case windowLen => exact onChange_moves _ _ (changeWindowLen_moves hw)
  case syncMode => exact onChange_moves _ _ (changeSyncMode_moves hw)
  case grace =>
    refine onChange_moves _ _ ?_
    exact (written fun _ => ⟨rfl, rfl, rfl⟩).trans (takeExpiry_moves _)
  case weekdayOffset => exact (written fun _ => ⟨rfl, rfl, rfl⟩).trans (refreshDayType_moves _)
  case closeSecond => exact (written fun _ => ⟨rfl, rfl, rfl⟩).trans (refreshPointer_moves _)
  all_goals exact written fun _ => ⟨rfl, rfl, rfl⟩

theorem applyLimit_moves {s : State} {p : Port} {k : Fin 4} {l : LimitConfig} (hw : s.store.writing = some ⟨p, .limit k l⟩) :
    Moves .completion s (applyLimit k l s) :=
  ((Move.limit s p k l hw rfl).run.trans (State.beside_setLim _ _).moves).trans (State.beside_setLim _ _).moves

theorem commitLockMode_moves {s : State} {p : Port} {m : LockMode} (hw : s.store.writing = some ⟨p, .lockMode m⟩) :
    Moves .completion s (commitLockMode m s) := by
  unfold commitLockMode
  split_ifs with h
  · exact .refl
  · exact (Move.lockMode s m h (by simp [hw]) rfl).run

/-- What a completion puts in force is a run of moves; new pending tables are the change of a row before it. -/
theorem commitItem_moves {s : State} {p : Port} {i : StoreItem} (hw : s.store.writing = some ⟨p, i⟩) :
    ∃ reach, reach ≠ .beside ∧ Moves reach s (commitItem i s) := by
  cases i with
  | setting v => exact ⟨.completion, nofun, commitSetting_moves hw⟩
  | closeDates l => exact ⟨.completion, nofun, (Move.dates s p l hw rfl).run.trans (refreshPointer_moves _)⟩
  | limit k l => exact ⟨.completion, nofun, applyLimit_moves hw⟩
  | lockMode m => exact ⟨.completion, nofun, commitLockMode_moves hw⟩
  | calibrationLock c => exact ⟨.completion, nofun, (Move.lockChannel s c (by simp [hw]) rfl).run⟩
  | switchQuad d start entries => exact ⟨.row, nofun, (Move.load s _ rfl).run⟩
  | holidayQuad start days => exact ⟨.row, nofun, (Move.load s _ rfl).run⟩
  | weekTable types => exact ⟨.row, nofun, (Move.load s _ rfl).run⟩

theorem completeStore_moves {s : State} {w : StoreWrite} (hw : s.store.writing = some w) :
    ∃ reach, Moves reach s (completeStore w s) := by
  obtain ⟨reach, hreach, hcommit⟩ := commitItem_moves (p := w.port) (i := w.item) hw
  have committed : Moves reach s (if changesStore w.item s then logMarker .config [w.item.group] (commitItem w.item s)
      else commitItem w.item s) := by
    split
    · exact hcommit.trans (logMarker_moves .config (by simp) _)
    · exact hcommit
  exact ⟨reach, (committed.trans (State.beside_raiseOn _ w.port .storeDone).moves).trans (Move.done _ hreach).run⟩

theorem storeCompletion_moves (s : State) : ∃ reach, Moves reach s (storeCompletion s) := by
  unfold storeCompletion
  split
  next w hw => exact completeStore_moves hw
  next => exact ⟨.beside, .refl⟩

/-! ### Adjust Time and Set Time (R29 to R31) -/

theorem Instant.later_inRange (t : Instant) (n : Nat) : (t.later n).InRange := Instant.ofAbs_range _
theorem Instant.earlier_inRange (t : Instant) (n : Nat) : (t.earlier n).InRange := Instant.ofAbs_range _

theorem moveInstant_moves {new : Instant} (h : new.InRange) (s : State) : Moves reach s (moveInstant new s) :=
  (((Move.moveNow s new fun _ => h).run.trans (raise_moves _ .timeChanged)).trans
    (State.beside_markSub _ .timeAdj).moves).trans (refreshDayType_moves _)

theorem adjustSubForward_moves (v : Nat) (reached : Bool) (s : State) : Moves reach s (adjustSubForward v reached s) := by
  unfold adjustSubForward
  split
  next =>
    split
    · exact closeNow_moves _ s
    · exact .refl
  next hmode => exact (Move.moveEnd s _ (Instant.later_inRange _ _) hmode).run

theorem adjustDates_moves (takeNow : Bool) (old : Instant) (s : State) : Moves reach s (adjustDates takeNow old s) := by
  unfold adjustDates
  dsimp only
  split
  · split
    · exact (refreshPointer_moves s).trans (dateRequest_moves _ _)
    · exact (refreshPointer_moves s).trans (State.beside_setDue _ _).moves
  · exact refreshPointer_moves s

theorem adjustForward_moves (v : Nat) (b : Bool) (s : State) : Moves reach s (adjustForward v b s) := by
  unfold adjustForward
  dsimp only
  split
  · exact ((moveInstant_moves (Instant.later_inRange _ _) s).trans (adjustDates_moves ..)).trans (adjustSubForward_moves ..)
  · exact ((moveInstant_moves (Instant.later_inRange _ _) s).trans (adjustSubForward_moves ..)).trans (adjustDates_moves ..)

theorem adjustBack_moves (v : Nat) (s : State) : Moves reach s (adjustBack v s) := by
  unfold adjustBack
  split
  next => exact moveInstant_moves (Instant.earlier_inRange _ _) s
  next hmode =>
    exact (moveInstant_moves (Instant.earlier_inRange _ _) s).trans
      (Move.moveEnd _ _ (Instant.earlier_inRange _ _) (by simpa [State.config] using hmode)).run

theorem ownAdjustTime_moves (seconds : BitVec 16) (b : Bool) (s : State) : Moves reach s (ownAdjustTime seconds b s).2 := by
  unfold ownAdjustTime
  dsimp only
  split_ifs
  · exact .refl
  · exact .refl
  · exact .refl
  · exact adjustForward_moves ..
  · exact adjustBack_moves ..

theorem timeSetTo_moves {new : Instant} (h : new.InRange) (s : State) : Moves reach s (timeSetTo new s) :=
  ((((Move.closeAt s _ new h).run.trans (Move.emptyRing _).run).trans (raise_moves _ .timeChanged)).trans
    (refreshDayType_moves _)).trans (logMarker_moves .timeSet (by simp) _)

theorem ownSetTime_moves (day : BitVec 16) (second : BitVec 24) (s : State) : Moves reach s (ownSetTime day second s).2 := by
  unfold ownSetTime
  split_ifs with h
  · exact .refl
  · exact timeSetTo_moves ⟨day.isLt, by simp only [daySeconds]; omega⟩ s

/-! ### The other commands -/

theorem ownBillingClose_moves (s : State) : Moves reach s (ownBillingClose s).2 := by
  unfold ownBillingClose
  split_ifs with hidle _ hlast
  · exact .refl
  · exact .refl
  · exact .refl
  · exact freeze_moves _ _ ((State.closeIdle_iff s).mp (by simpa using hidle)) hlast

theorem armSchedule_moves (day : BitVec 16) (s : State) : Moves .row s (armSchedule day s).2 := by
  unfold armSchedule
  split
  · exact .refl
  · split_ifs with hv
    · exact (Move.arm s _ _ hv rfl).run
    · exact .refl
  · exact .refl

theorem ownWriteCloseDateQuad_moves (p : Port) (start : Byte) (days : Four (BitVec 16)) (s : State) :
    Moves .row s (ownWriteCloseDateQuad p start days s).2 := by
  unfold ownWriteCloseDateQuad
  split_ifs with _ _ hasc
  · exact .refl
  · exact .refl
  · exact .refl
  · refine (Move.begin s p (.closeDates _) (fun _ => trivial) (fun l hl => ?_) rfl).run
    obtain rfl := StoreItem.closeDates.inj hl
    simpa using hasc

theorem ownWriteConfigItem_moves (p : Port) (n : BitVec 16) (value : BitVec 32) (s : State) :
    Moves .row s (ownWriteConfigItem p n value s).2 := by
  unfold ownWriteConfigItem
  split_ifs
  · exact .refl
  · split
    · exact .refl
    · next name _ =>
      unfold writeItem
      split_ifs
      · exact .refl
      · exact .refl
      · cases hv : Setting.checked s.config name value with
        | none => exact .refl
        | some v => exact (Move.begin s p (.setting v) (fun h => Setting.inRange_of_checked h hv) (by simp) rfl).run

theorem ownLockCalibration_moves (p : Port) (channel : Byte) (s : State) : Moves .row s (ownLockCalibration p channel s).2 := by
  unfold ownLockCalibration
  split
  · exact .refl
  · unfold lockChannel
    split_ifs
    · exact .refl
    · exact .refl
    · exact startWrite_moves (i := .calibrationLock _) (fun _ => trivial) (by simp) p s

/-- A port at a warm start or a Restart holds no permission. -/
theorem PortState.started_tamed (x : PortState) (b : Bool) : x.Tamed (x.started b) :=
  ⟨fun h => absurd h Bool.false_ne_true, fun h => absurd h Bool.false_ne_true, fun _ => Nat.zero_le 3⟩

theorem setUtil_moves {s : State} {x : PortState} (h : s.util.Tamed x) : Moves reach s (s.setUtil x) :=
  (State.OnPort.of_tamed (p := .utility) h).moves

theorem setCust_moves {s : State} {x : PortState} (h : s.cust.Tamed x) : Moves reach s (s.setCust x) :=
  (State.OnPort.of_tamed (p := .customer) h).moves

theorem restartPorts_moves (s : State) : Moves reach s (restartPorts s) :=
  (setUtil_moves (x := { s.util.started false with lastCommand := 0x48 })
    ⟨fun h => absurd h Bool.false_ne_true, fun h => absurd h Bool.false_ne_true, fun _ => Nat.zero_le 3⟩).trans
    (setCust_moves (PortState.started_tamed _ _))

theorem setCursor_tamed (x : PortState) (c : Cursor) : x.Tamed { x with cursor := c } := ⟨id, id, id⟩

theorem restartTail_moves (s : State) : Moves reach s (restartTail s) := by
  have marked : Moves reach s _ := (((s.beside_setDue { s.due with stall := .all false }).moves.trans (Move.channelsStarted _).run).trans
    (refreshDayType_moves _)).trans (logMarker_moves .restart (payload := []) (by simp) _)
  unfold restartTail
  dsimp only
  exact ((marked.trans (setUtil_moves (setCursor_tamed _ _))).trans (setCust_moves (setCursor_tamed _ _))).trans
    (State.beside_setSup _ (by rfl)).moves

theorem restarted_moves (s : State) : Moves reach s (restarted s) :=
  (((finishClear_moves s).trans (restartPorts_moves _)).trans (monitorStarted_moves _)).trans
    ((forceClose_moves .restart _).trans (restartTail_moves _))

theorem ownReset_moves (p : Port) (s : State) : Moves reach s (ownReset p s).2 := by
  unfold ownReset
  split_ifs
  · exact .refl
  · exact .refl
  · exact .refl
  · exact restarted_moves s

theorem ownClearProfile_moves (s : State) : Moves reach s (ownClearProfile s).2 := by
  unfold ownClearProfile
  split_ifs
  · exact .refl
  · exact (Move.startClear s).run

theorem ownClearHistory_moves (s : State) : Moves reach s (ownClearHistory s).2 := by
  unfold ownClearHistory
  split_ifs
  · exact .refl
  · exact (Move.clearHistory s).run

/-- How far a command that is none of a port's, or a row of one, reaches into the store. -/
def reachOf (c : Instr) : Reach :=
  match c with
  | .writeSwitchQuad .. => .row
  | .writeHolidayQuad .. => .row
  | .writeWeekTable .. => .row
  | .writeCloseDateQuad .. => .row
  | .activateSchedule .. => .row
  | .cancelPending .. => .row
  | .writeLimit .. => .row
  | .writeConfigItem .. => .row
  | .setLockMode .. => .row
  | .lockCalibration .. => .row
  | .coldStart _ => .completion
  | .warmStart _ => .completion
  | _ => .beside

/-- What a write-class command does of its own outside Hold is a run of moves. -/
theorem ownOf_moves (i : Instr) {s : State} (hhold : s.sup.hold = false) : Moves (reachOf i) s (ownOf i s).2 := by
  cases i
  case enableWrite p fr => exact (Move.latch s p hhold).run
  case disableWrite p fr =>
    exact (State.OnPort.of_tamed (p := p) (x := { s.port p with latch := false })
      ⟨fun h => absurd h Bool.false_ne_true, id, id⟩).moves
  case attentionEnable p fr => exact (setAttn_onPort p _ s).moves
  case setEventMask p fr mask => exact (setAttn_onPort p _ s).moves
  case billingClose => exact ownBillingClose_moves s
  case adjustTime => exact ownAdjustTime_moves _ _ s
  case writeSwitchQuad =>
    refine pendingWrite_moves (storeOrRange_moves (fun x hx => ?_) _ s)
    unfold switchItem at hx
    split at hx
    · cases hx
    · split_ifs at hx
      obtain rfl := Option.some.inj hx
      exact ⟨fun _ => trivial, by simp⟩
  case writeHolidayQuad =>
    refine pendingWrite_moves (storeOrRange_moves (fun x hx => ?_) _ s)
    unfold holidayItem at hx
    split_ifs at hx
    obtain rfl := Option.some.inj hx
    exact ⟨fun _ => trivial, by simp⟩
  case writeWeekTable =>
    refine pendingWrite_moves (storeOrRange_moves (fun x hx => ?_) _ s)
    unfold weekItem at hx
    split at hx
    · obtain rfl := Option.some.inj hx
      exact ⟨fun _ => trivial, by simp⟩
    · cases hx
  case writeCloseDateQuad => exact ownWriteCloseDateQuad_moves ..
  case activateSchedule => exact checkThen_moves (armSchedule_moves _ s) _ _
  case cancelPending => exact checkThen_moves (next := fun s => (.ok, s.setStore { s.store with pendSched := .none })) (Move.cancel s rfl).run _ _
  case reset => exact ownReset_moves _ s
  case writeLimit => exact checkThen_moves (storeOrRange_moves (fun x hx => limitItem_keepsRange hx) _ s) _ _
  case writeConfigItem => exact ownWriteConfigItem_moves ..
  case setTime => exact ownSetTime_moves ..
  case clearProfile => exact ownClearProfile_moves s
  case clearHistory => exact ownClearHistory_moves s
  case setLockMode =>
    refine checkThen_moves (storeOrRange_moves (fun x hx => ?_) _ s) _ _
    obtain ⟨m, -, rfl⟩ := Option.map_eq_some_iff.mp hx
    exact ⟨fun _ => trivial, by simp⟩
  case lockCalibration => exact ownLockCalibration_moves ..
  all_goals exact .refl

/-- The end of a write-class transaction sets the arm for a Reset Enable alone. -/
theorem endWriting_moves {p : Port} {code : Byte} {fr : Framing} {r : Result} {s : State}
    (h : (p == .utility && code == 0x34 && r == .ok) = true → s.sup.hold = false) : Moves reach s (endWriting p code fr r s) := by
  have hlatch : ((s.port p).endWrite p code fr r).latch = true → (s.port p).latch = true := fun h => (Bool.and_eq_true_iff.mp h).1
  cases harm : p == .utility && code == 0x34 && r == .ok with
  | false =>
    exact (State.OnPort.of_tamed ⟨hlatch, fun h => absurd (harm.symm.trans h) Bool.false_ne_true, fun _ => Nat.zero_le 3⟩).moves
  | true =>
    obtain rfl : p = .utility := by
      obtain ⟨h1, -⟩ := Bool.and_eq_true_iff.mp harm
      exact eq_of_beq (Bool.and_eq_true_iff.mp h1).1
    refine (Move.armReset s (h harm)).run.trans ?_
    have hend : endWriting .utility code fr r s
        = (s.setUtil { s.util with arm := true }).setUtil (s.util.endWrite .utility code fr r) := rfl
    rw [hend]
    exact setUtil_moves ⟨hlatch, fun _ => rfl, fun _ => Nat.zero_le 3⟩

/-- A check of R162 refuses with another result than OK. -/
theorem writeChecks_ne_ok {p : Port} {code : Byte} {fr : Framing} {s : State} {r : Result}
    (h : writeChecks p code fr s = some r) : r ≠ .ok := by
  unfold writeChecks at h
  split_ifs at h <;> obtain rfl := Option.some.inj h <;> decide

/-- The own step of the row of Reset Enable changes nothing. -/
theorem ownOf_resetEnable {i : Instr} {p : Port} {fr : Framing} {args : List Byte}
    (h : writeBytes i = some (p, fr, 0x34, args)) (s : State) : (ownOf i s).2 = s := by
  cases i
  case resetEnable => rfl
  case unknownCommand => rfl
  all_goals cases h

/-- A write-class row is a run of moves. -/
theorem effect_write_moves {i : Instr} {p : Port} {fr : Framing} {code : Byte} {args : List Byte}
    (hwf : i.wellFormed = true) (h : writeBytes i = some (p, fr, code, args)) (s : State) : Moves (reachOf i) s (effect i s) := by
  rw [effect_of_exec (exec_of_writeBytes hwf h s)]
  cases hat : s.atCommand p
  · rw [takeWrite_elsewhere _ _ _ hat]
  · cases hr : writeChecks p code fr s with
    | some r =>
      rw [takeWrite_refused _ hat hr]
      exact endWriting_moves fun hok => absurd (eq_of_beq (Bool.and_eq_true_iff.mp hok).2) (writeChecks_ne_ok hr)
    | none =>
      obtain ⟨-, -, hhold, -⟩ := writeChecks_none hr
      rw [takeWrite_passed _ hat hr]
      refine (ownOf_moves i hhold).trans (endWriting_moves fun hok => ?_)
      obtain ⟨hcode, -⟩ := Bool.and_eq_true_iff.mp hok
      obtain rfl := eq_of_beq (Bool.and_eq_true_iff.mp hcode).2
      rw [ownOf_resetEnable h]
      exact hhold

theorem effect_port_moves {c : Instr} {p : Port} (hp : portOf c = some p) (s : State) :
    ∃ reach, Moves reach s (effect c s) := by
  obtain h | ⟨i, fr, code, args, hi, hwf, heq, -⟩ := effect_port_cases hp s
  · exact ⟨.beside, h.moves⟩
  · rw [heq]
    exact ⟨_, effect_write_moves hwf hi s⟩

/-! ### Starts -/

/-- The Period Unit with a close in flight resumed (R188). -/
def PeriodUnit.resumed (x : PeriodUnit) : PeriodUnit :=
  { x with close := match x.close with
    | .closing x => .resuming x
    | x => x }

/-- The state with a close in flight resumed, which a warm start sets out from (R188). -/
def resumeClose (s : State) : State := s.setPer s.per.resumed

theorem PeriodUnit.resumed_resumed (x : PeriodUnit) : x.resumed.resumed = x.resumed := by
  unfold PeriodUnit.resumed
  cases x.close <;> rfl

theorem revertLock_setPer (x : PeriodUnit) (s : State) : revertLock (s.setPer x) = (revertLock s).setPer x := by
  unfold revertLock
  split_ifs <;> first | rfl | contradiction

/-- The supply, the ports and the pins at a warm start. -/
def wakeUp (lv : PinLevels) (s : State) : State :=
  let s1 := ((s.setUtil (s.util.started false)).setCust (s.cust.started false)).setDue .nothing
  (s1.setSup { s1.sup with mainSupply := true, hold := false, startCause := .warm }).setPins (pinsOf lv)

theorem wakeUp_setPer (lv : PinLevels) (x : PeriodUnit) (s : State) : wakeUp lv (s.setPer x) = (wakeUp lv s).setPer x := rfl

/-- The blocks of a warm start, one after another. -/
theorem warmBlocks_eq (lv : PinLevels) (s : State) :
    warmBlocks lv s = refreshDayType (monitorStarted (channelsStarted
      ((wakeUp lv (revertLock (abandonWrite s))).setPer (revertLock (abandonWrite s)).per.resumed))) := rfl

theorem warmBlocks_resumeClose (lv : PinLevels) (s : State) : warmBlocks lv s = warmBlocks lv (resumeClose s) := by
  have hrevert : revertLock (abandonWrite (resumeClose s)) = (revertLock (abandonWrite s)).setPer s.per.resumed :=
    revertLock_setPer _ (abandonWrite s)
  have hper : (revertLock (abandonWrite s)).per = s.per := by simp
  rw [warmBlocks_eq, warmBlocks_eq, hrevert, hper, State.setPer_per, PeriodUnit.resumed_resumed, wakeUp_setPer,
    State.setPer_setPer]

/-- Where the moves of a command set out from. -/
inductive Start (c : Instr) (s : State) : State → Prop
  | same : Start c s s
  /-- a close completion, once its record has joined the history -/
  | filed (x : Snapshot) (h : s.per.close = .closing x ∨ s.per.close = .resuming x) :
      Start c s (s.setPer { s.per with close := .idle, history := pushHistory s.per.history x.record })
  /-- a cold start, once every block but the open sub-interval has its cold value -/
  | cold (lv : PinLevels) (h : c = .coldStart lv) : Start c s (coldBlocks lv s)
  /-- a warm start, once a close in flight is resumed -/
  | warm (lv : PinLevels) (h : c = .warmStart lv) : Start c s (resumeClose s)

theorem completeClose_moves (x : Snapshot) (s : State) :
    Moves reach (s.setPer { s.per with close := .idle, history := pushHistory s.per.history x.record }) (completeClose x s) := by
  unfold completeClose
  dsimp only
  split
  · exact (raise_moves _ .closeDone).trans (carryOutDeferred_moves (by simp))
  · exact raise_moves _ .closeDone

theorem placeSub_moves {start : Instant} (h : start.InRange) (s : State) : Moves reach s (placeSub start s) := (Move.place s start h).run

theorem coldStarted_moves (lv : PinLevels) (s : State) : Moves reach (coldBlocks lv s) (coldStarted lv s) :=
  (((monitorStarted_moves _).trans (activateAtStart_moves _)).trans (placeSub_moves ⟨by decide, by decide⟩ _)).trans
    (scheduleMarker_moves _ _)

theorem revertLock_moves {s : State} (h : s.store.writing = none) : Moves .completion s (revertLock s) := by
  unfold revertLock
  split_ifs with hlock
  · exact (Move.lockMode s .guarded (by simp [hlock]) (by simp [h]) rfl).run
  · exact .refl

theorem wakeUp_moves (lv : PinLevels) (s : State) : Moves reach s (wakeUp lv s) :=
  (((setUtil_moves (PortState.started_tamed _ false)).trans (setCust_moves (PortState.started_tamed _ false))).trans
    (State.beside_setDue _ .nothing).moves).trans (Move.release _ _ (pinsOf lv) rfl rfl).run

/-- The blocks of a warm start whose close is resumed (R188). -/
theorem warmBlocks_moves (lv : PinLevels) {s : State} (h : s.per.resumed = s.per) : Moves .completion s (warmBlocks lv s) := by
  have reverted : Moves .completion s (revertLock (abandonWrite s)) :=
    (Move.done (reach := .completion) s nofun).run.trans (revertLock_moves rfl)
  have hper : (revertLock (abandonWrite s)).per = s.per := by simp
  have hsame : (wakeUp lv (revertLock (abandonWrite s))).setPer (revertLock (abandonWrite s)).per.resumed
      = wakeUp lv (revertLock (abandonWrite s)) := by
    rw [← wakeUp_setPer, hper, h, ← hper, State.setPer_self]
  rw [warmBlocks_eq, hsame]
  exact (reverted.trans (wakeUp_moves lv _)).trans
    (((Move.channelsStarted _).run.trans (monitorStarted_moves _)).trans (refreshDayType_moves _))

theorem loadPickup_moves (d : Nat) (s : State) : Moves reach s (loadPickup d s) := by
  unfold loadPickup
  split
  · exact (s.beside_setDem (by rfl)).moves
  · exact .refl

theorem resumeSub_moves (s : State) : Moves reach s (resumeSub s) := by
  unfold resumeSub
  split
  · exact (s.beside_markSub _).moves
  · exact (Move.close s _ _).run

theorem recordOutage_moves (s : State) : Moves reach s (recordOutage s) :=
  ((logMarker_moves .outage (by simp) s).trans (loadPickup_moves _ _)).trans (State.beside_setSup _ (by rfl)).moves

theorem requestLateClose_moves (s : State) : Moves reach s (requestLateClose s) := by
  unfold requestLateClose
  dsimp only
  split
  · exact (refreshPointer_moves s).trans (dateRequest_moves _ _)
  · exact refreshPointer_moves s

theorem warmStarted_moves (lv : PinLevels) (s : State) : Moves .completion (resumeClose s) (warmStarted lv s) := by
  unfold warmStarted
  rw [warmBlocks_resumeClose]
  exact (((warmBlocks_moves lv (PeriodUnit.resumed_resumed s.per)).trans (finishClear_moves _)).trans (resumeSub_moves _)).trans
    ((recordOutage_moves _).trans (requestLateClose_moves _))

theorem whileRunning_moves {f : State → State} {s : State} (h : Moves reach s (f s)) : Moves reach s (whileRunning f s) := by
  unfold whileRunning
  split
  · exact h
  · exact .refl

/-- Every command that is none of a port's, a store completion aside, is a run of moves. -/
theorem effect_moves_of_no_port {c : Instr} (hp : portOf c = none) (hc : c ≠ .storeCompletion) (s : State) :
    ∃ s', Start c s s' ∧ Moves (reachOf c) s' (effect c s) := by
  cases c
  case linkFrame f => exact ⟨s, .same, takeFrame_moves f s⟩
  case secondEvent b => exact ⟨s, .same, secondStep_moves b s⟩
  case midnightEvent => exact ⟨s, .same, whileRunning_moves (takeMidnight_moves s)⟩
  case stallTimeout c => exact ⟨s, .same, whileRunning_moves (takeStall_moves c s)⟩
  case boundaryEvent => exact ⟨s, .same, whileRunning_moves (takeBoundary_moves s)⟩
  case syncExpiry => exact ⟨s, .same, whileRunning_moves (takeExpiry_moves s)⟩
  case closeDateEvent => exact ⟨s, .same, whileRunning_moves (takeDate_moves s)⟩
  case lockoutExpiry => exact ⟨s, .same, whileRunning_moves (takeLockout_moves s)⟩
  case supplyLoss => exact ⟨s, .same, whileRunning_moves (loseSupply_moves s)⟩
  case storeCompletion => exact absurd rfl hc
  case clearProfileCompletion => exact ⟨s, .same, whileRunning_moves (finishClear_moves s)⟩
  case guardChange b =>
    exact ⟨s, .same, whileRunning_moves (f := fun s => s.setPins { s.pins with guard := b }) (s.beside_setPins (by rfl)).moves⟩
  case buttonRelease =>
    exact ⟨s, .same, whileRunning_moves (f := fun s => s.setPins { s.pins with close := false }) (s.beside_setPins (by rfl)).moves⟩
  case syncLevelFall =>
    exact ⟨s, .same, whileRunning_moves (f := fun s => s.setPins { s.pins with sync := false }) (s.beside_setPins (by rfl)).moves⟩
  case syncPulse =>
    refine ⟨s, .same, whileRunning_moves (f := fun s => if s.pins.sync then s else syncPulse s) ?_⟩
    split
    · exact .refl
    · exact syncPulse_moves s
  case buttonPress =>
    refine ⟨s, .same, whileRunning_moves (f := fun s => if s.pins.close then s else buttonPress s) ?_⟩
    split
    · exact .refl
    · exact buttonPress_moves s
  case holdEntry =>
    refine ⟨s, .same, whileRunning_moves (f := fun s => if s.pins.pfail then s else enterHold s) ?_⟩
    split
    · exact .refl
    · exact (Move.hold s).run
  case holdRelease =>
    refine ⟨s, .same, whileRunning_moves (f := fun s => if s.pins.pfail then releaseHold s else s) ?_⟩
    split
    · exact releaseHold_moves s
    · exact .refl
  case retentionInvalid =>
    refine ⟨s, .same, ?_⟩
    show Moves .beside s (if s.running then s else s.setSup { s.sup with retentionValid := false })
    split
    · exact .refl
    · exact (s.beside_setSup (by rfl)).moves
  case coldStart lv =>
    show ∃ s', Start (.coldStart lv) s s' ∧ Moves .completion s' (if !s.running && !s.sup.retentionValid then coldStarted lv s else s)
    split
    · exact ⟨_, .cold lv rfl, coldStarted_moves lv s⟩
    · exact ⟨s, .same, .refl⟩
  case warmStart lv =>
    show ∃ s', Start (.warmStart lv) s s' ∧ Moves .completion s' (if !s.running && s.sup.retentionValid then warmStarted lv s else s)
    split
    · exact ⟨_, .warm lv rfl, warmStarted_moves lv s⟩
    · exact ⟨s, .same, .refl⟩
  case closeCompletion =>
    show ∃ s', Start .closeCompletion s s' ∧ Moves .beside s' (whileRunning closeCompletion s)
    unfold whileRunning closeCompletion
    split
    · split
      next => exact ⟨s, .same, .refl⟩
      next x hx => exact ⟨_, .filed x (.inl hx), completeClose_moves x s⟩
      next x hx => exact ⟨_, .filed x (.inr hx), completeClose_moves x s⟩
    · exact ⟨s, .same, .refl⟩
  all_goals cases hp

/-- Every command is a run of moves. -/
theorem effect_moves (c : Instr) (s : State) : ∃ s' reach, Start c s s' ∧ Moves reach s' (effect c s) := by
  cases hp : portOf c with
  | some p =>
    obtain ⟨reach, hmoves⟩ := effect_port_moves hp s
    exact ⟨s, reach, .same, hmoves⟩
  | none =>
    by_cases hc : c = .storeCompletion
    · subst hc
      obtain ⟨reach, hmoves⟩ := storeCompletion_moves s
      exact ⟨s, reach, .same, whileRunning_moves hmoves⟩
    · obtain ⟨s', hstart, hmoves⟩ := effect_moves_of_no_port hp hc s
      exact ⟨s', _, hstart, hmoves⟩

end

end Sys2Proof.Machine
end

section
/-! PROOFS. A close, block by block: what it leaves in each, whatever its cause, its end and its next start, where
nothing but the clock changes between the close and the opening (R52, R29). -/

namespace Sys2Proof.Machine

open Sys2Proof

/-! ### Between a close and the opening -/

/-- A change of the clock alone. -/
def ClockOnly (f : State → State) : Prop := ∀ s, f s = s.setClock (f s).clock

theorem clockOnly_id : ClockOnly id := fun _ => rfl
theorem clockOnly_setInstant (new : Instant) : ClockOnly (setInstant new) := fun _ => rfl

section
variable {f : State → State} (h : ClockOnly f) (s : State)
include h

theorem ClockOnly.store : (f s).store = s.store := by rw [h]; rfl
theorem ClockOnly.config : (f s).config = s.config := by rw [h]; rfl
theorem ClockOnly.sub : (f s).sub = s.sub := by rw [h]; rfl
theorem ClockOnly.chans : (f s).chans = s.chans := by rw [h]; rfl
theorem ClockOnly.tot : (f s).tot = s.tot := by rw [h]; rfl
theorem ClockOnly.dem : (f s).dem = s.dem := by rw [h]; rfl
theorem ClockOnly.log : (f s).log = s.log := by rw [h]; rfl
theorem ClockOnly.sup : (f s).sup = s.sup := by rw [h]; rfl
theorem ClockOnly.port (p : Port) : (f s).port p = s.port p := by rw [h]; rfl

end

/-- A close up to its opening: the record is built and filed, and the next sub-interval stands. -/
def closedFrom (cause : StatusSet) (stop : Instant) (between : State → State) (start : Instant) (s : State) : State :=
  openNext start (between (takeClose cause stop s))

theorem closeWith_eq (cause : StatusSet) (stop : Instant) (between : State → State) (start : Instant) (s : State) :
    closeWith cause stop between start s = handOn (closingRecord cause stop s)
      (between (takeClose cause stop s)).activationAtStart (closedFrom cause stop between start s) := rfl

section
variable {between : State → State} (h : ClockOnly between) (cause : StatusSet) (stop start : Instant) (s : State)

theorem closeWith_sub : (closeWith cause stop between start s).sub
    = (placeSub start (activateAtStart (between (takeClose cause stop s)))).sub := by
  rw [closeWith_eq, handOn_sub, closedFrom, openNext_sub]

theorem closeWith_store : (closeWith cause stop between start s).store
    = (activateAtStart (between (takeClose cause stop s))).store := by
  rw [closeWith_eq, handOn_store, closedFrom, openNext, State.raiseIf_store, placeSub_store]

theorem closeWith_clock : (closeWith cause stop between start s).clock
    = (activateAtStart (between (takeClose cause stop s))).clock := by
  rw [closeWith_eq, handOn_clock, closedFrom, openNext, State.raiseIf_clock, placeSub_clock]

include h

theorem closedFrom_config : (closedFrom cause stop between start s).config = s.config := by
  unfold closedFrom State.config
  simp [h.store]

theorem closeWith_config : (closeWith cause stop between start s).config = s.config :=
  closeWith_store_config _ _ _ _ _ fun t => congrArg Store.config (h.store t)

theorem closedFrom_dem : (closedFrom cause stop between start s).dem = s.dem := by simp [closedFrom, h.dem]

theorem closedFrom_log : (closedFrom cause stop between start s).log = s.log := by simp [closedFrom, h.log]

theorem closeWith_tot : (closeWith cause stop between start s).tot = s.tot.filed (closingRecord cause stop s) s.cumulative := by
  simp [closeWith_eq, closedFrom, h.tot]

theorem closeWith_chans :
    (closeWith cause stop between start s).chans = s.chans.map fun ch => { ch with part := .all 0 } := by
  simp [closeWith_eq, closedFrom, h.chans]

theorem closeWith_dem : (closeWith cause stop between start s).dem = s.dem.arrived s.config (closingRecord cause stop s) := by
  rw [closeWith_eq, handOn_dem, closedFrom_dem h, closedFrom_config h]

/-- The nominal end of the next sub-interval is that of its start (R22). -/
theorem closeWith_nominalEnd : (closeWith cause stop between start s).sub.nominalEnd = nominalEndOf s.config start := by
  rw [closeWith_sub]
  show nominalEndOf (activateAtStart (between (takeClose cause stop s))).store.config start = _
  rw [activateAtStart_store_config, h.store, takeClose_store]

end

theorem closeWith_start (cause : StatusSet) (stop : Instant) (between : State → State) (start : Instant) (s : State) :
    (closeWith cause stop between start s).sub.start = start := by
  rw [closeWith_sub]
  rfl

/-! ### The log of a close (R128 to R133, R142) -/

theorem logMarker_logged (kind : RecordKind) (payload : List Nat) (s : State) :
    s.Logged (logMarker kind payload s) (markerBody kind s.clock.now payload s) := logRecord_logged _ s

theorem logData_log (r : SubRecord) (s : State) : (logData r s).log =
    ProfileLog.logged { s.log with carries := (dataPayload s.config.logMask r s.log.carries).2 }
      (dataBody s.config.logMask r s.log.carries) := logRecord_logged _ _

/-- A log, and what a marker of an activation, where there is one, adds to it (R39 step 4). -/
def ProfileLog.scheduled (l : ProfileLog) (rate : Rate) (stamp : Instant) (effective : Option Nat) : ProfileLog :=
  match effective with
  | some day => l.logged { kind := .schedule, rate := rate, status := 0, stamp := stamp, payload := [BitVec.ofNat 32 day] }
  | none => l

theorem scheduleMarker_log (effective : Option Nat) (s : State) :
    (scheduleMarker effective s).log = s.log.scheduled s.sub.rate s.clock.now effective := by
  cases effective with
  | none => rfl
  | some day => exact logMarker_logged .schedule [day] s

theorem handOn_log (r : SubRecord) (effective : Option Nat) (s : State) : (handOn r effective s).log =
    (ProfileLog.logged { s.log with carries := (dataPayload s.config.logMask r s.log.carries).2 }
      (dataBody s.config.logMask r s.log.carries)).scheduled s.sub.rate s.clock.now effective := by
  rw [handOn, resetProjection_log, scheduleMarker_log, logData_log, logData_sub, logData_clock]
  simp [State.config]

/-- What a close adds to the log: its DATA record, and the SCHEDULE marker of an activation (R52 step 10). -/
theorem closeWith_log {between : State → State} (h : ClockOnly between) (cause : StatusSet) (stop start : Instant)
    (s : State) : (closeWith cause stop between start s).log =
    (ProfileLog.logged
      { s.log with carries := (dataPayload s.config.logMask (closingRecord cause stop s) s.log.carries).2 }
      (dataBody s.config.logMask (closingRecord cause stop s) s.log.carries)).scheduled
        (closeWith cause stop between start s).sub.rate (closeWith cause stop between start s).clock.now
        (between (takeClose cause stop s)).activationAtStart := by
  rw [closeWith_eq, handOn_log, closedFrom_log h, closedFrom_config h, handOn_sub, handOn_clock]

/-! ### The ports at a close -/

/-- A port that differs from another at most in where its cursor stands and in the flags of its unit. -/
structure PortState.Kept (x y : PortState) : Prop where
  tx : y.tx = x.tx
  lastResult : y.lastResult = x.lastResult
  lastCommand : y.lastCommand = x.lastCommand
  latch : y.latch = x.latch
  arm : y.arm = x.arm
  pattern : y.pattern = x.pattern
  dataOut : y.dataOut = x.dataOut
  dir : y.cursor.dir = x.cursor.dir
  window : y.cursor.window = x.cursor.window
  preview : y.preview = x.preview
  previewRec : y.previewRec = x.previewRec
  mask : y.attn.mask = x.attn.mask
  enable : y.attn.enable = x.attn.enable

theorem PortState.Kept.refl (x : PortState) : x.Kept x := ⟨rfl, rfl, rfl, rfl, rfl, rfl, rfl, rfl, rfl, rfl, rfl, rfl, rfl⟩

theorem PortState.Kept.trans {x y z : PortState} (h : x.Kept y) (h' : y.Kept z) : x.Kept z :=
  ⟨h'.tx.trans h.tx, h'.lastResult.trans h.lastResult, h'.lastCommand.trans h.lastCommand, h'.latch.trans h.latch,
    h'.arm.trans h.arm, h'.pattern.trans h.pattern, h'.dataOut.trans h.dataOut, h'.dir.trans h.dir, h'.window.trans h.window,
    h'.preview.trans h.preview, h'.previewRec.trans h.previewRec, h'.mask.trans h.mask, h'.enable.trans h.enable⟩

theorem PortState.Kept.tamed {x y : PortState} (h : x.Kept y) : x.Tamed y :=
  ⟨fun hl => h.latch ▸ hl, fun ha => h.arm ▸ ha, fun hp => h.pattern ▸ hp⟩

/-- The ports differ at most in where their cursors stand and in their flags. -/
def State.KeepsPorts (s t : State) : Prop := ∀ p, (s.port p).Kept (t.port p)

/-- No port of `t` holds a permission that it did not hold in `s`. -/
def State.TamesPorts (s t : State) : Prop := ∀ p, (s.port p).Tamed (t.port p)

theorem State.KeepsPorts.tames {s t : State} (h : s.KeepsPorts t) : s.TamesPorts t := fun p => (h p).tamed

section
variable {s t u : State}

theorem State.KeepsPorts.refl (s : State) : s.KeepsPorts s := fun _ => .refl _

theorem State.KeepsPorts.of_eq (h : s.KeepsPorts t) (heq : ∀ p, u.port p = t.port p) : s.KeepsPorts u := fun p => by
  rw [heq]
  exact h p

theorem State.KeepsPorts.trans (h : s.KeepsPorts t) (h' : t.KeepsPorts u) : s.KeepsPorts u := fun p => (h p).trans (h' p)

theorem State.KeepsPorts.raise (h : s.KeepsPorts t) (f : AttnFlag) : s.KeepsPorts (t.raise f) :=
  fun p => (h p).trans (by cases p <;> exact ⟨rfl, rfl, rfl, rfl, rfl, rfl, rfl, rfl, rfl, rfl, rfl, rfl, rfl⟩)

theorem State.KeepsPorts.raiseIf (h : s.KeepsPorts t) (c : Bool) (f : AttnFlag) : s.KeepsPorts (t.raiseIf c f) := by
  unfold State.raiseIf
  split
  · exact h.raise f
  · exact h

theorem afterWrite_kept (x : PortState) (before kept : List LogRecord) (new : Seq) : x.Kept (x.afterWrite before kept new) := by
  unfold PortState.afterWrite
  split
  · split <;> exact ⟨rfl, rfl, rfl, rfl, rfl, rfl, rfl, rfl, rfl, rfl, rfl, rfl, rfl⟩
  · split <;> exact ⟨rfl, rfl, rfl, rfl, rfl, rfl, rfl, rfl, rfl, rfl, rfl, rfl, rfl⟩
  · exact .refl x

theorem State.KeepsPorts.writeRecord (h : s.KeepsPorts t) (b : LogBody) : s.KeepsPorts (writeRecord b t) :=
  h.trans fun p => by cases p <;> exact afterWrite_kept ..

theorem State.KeepsPorts.logRecord (h : s.KeepsPorts t) (b : LogBody) : s.KeepsPorts (logRecord b t) := by
  unfold Machine.logRecord
  split
  · exact h.of_eq fun _ => rfl
  · exact h.writeRecord b

theorem State.KeepsPorts.takeClose (h : s.KeepsPorts t) (cause : StatusSet) (stop : Instant) :
    s.KeepsPorts (takeClose cause stop t) := by
  rw [takeClose_eq]
  exact ((h.of_eq fun p => by rw [State.setChans_port, State.setTot_port]).raiseIf _ _).raise _

theorem State.KeepsPorts.activateSchedule (h : s.KeepsPorts t) : s.KeepsPorts (activateSchedule t) :=
  State.KeepsPorts.raise (h.of_eq fun p => by rw [refreshDayType, State.setClock_port, State.setStore_port]) _

theorem State.KeepsPorts.activateAtStart (h : s.KeepsPorts t) : s.KeepsPorts (activateAtStart t) := by
  unfold Machine.activateAtStart
  split
  · exact h.activateSchedule
  · exact h

theorem State.KeepsPorts.openNext (h : s.KeepsPorts t) (start : Instant) : s.KeepsPorts (openNext start t) :=
  State.KeepsPorts.raiseIf (h.activateAtStart.of_eq fun p => by rw [placeSub, State.setSub_port]) _ _

theorem State.KeepsPorts.demandArrival (h : s.KeepsPorts t) (r : SubRecord) : s.KeepsPorts (demandArrival r t) := by
  rw [demandArrival_eq]
  exact ((h.of_eq fun p => by rw [State.setDem_port]).raiseIf _ _).raiseIf _ _

theorem State.KeepsPorts.scheduleMarker (h : s.KeepsPorts t) (effective : Option Nat) :
    s.KeepsPorts (scheduleMarker effective t) := by
  cases effective with
  | none => exact h
  | some day => exact h.logRecord _

theorem State.KeepsPorts.handOn (h : s.KeepsPorts t) (r : SubRecord) (effective : Option Nat) :
    s.KeepsPorts (handOn r effective t) := by
  refine (State.KeepsPorts.scheduleMarker (t := logData r (Machine.demandArrival r t)) ?_ effective).of_eq fun p => by
    rw [Machine.handOn, resetProjection, setProjection, State.setLim_port]
  exact State.KeepsPorts.logRecord ((h.demandArrival r).of_eq fun p => by rw [State.setLog_port]) _

end

theorem closeWith_keepsPorts {between : State → State} (h : ClockOnly between) (cause : StatusSet) (stop start : Instant)
    (s : State) : s.KeepsPorts (closeWith cause stop between start s) := by
  have taken := (State.KeepsPorts.refl s).takeClose cause stop
  exact ((taken.of_eq fun p => h.port _ p).openNext start).handOn _ _

end Sys2Proof.Machine
end

section
/-! PROOFS. Invariants of every step: each is kept by every kind of move, and by the states that a close completion, a
cold start and a warm start set out from. -/

namespace Sys2Proof.Machine

open Sys2Proof

/-- A predicate that every start and every move keeps is kept by every command. -/
theorem effect_keeps {I : State → Prop} (hstart : ∀ c s s', Start c s s' → I s → I s') (hmove : ∀ reach s t, Move reach s t → I s → I t)
    (c : Instr) {s : State} (h : I s) : I (effect c s) := by
  obtain ⟨s', reach, hs', hmoves⟩ := effect_moves c s
  exact hmoves.keeps (hmove reach) (hstart c s s' hs' h)

/-- … and by every step, where it does not read the queue. -/
theorem step_keeps {I : State → Prop} (hstart : ∀ c s s', Start c s s' → I s → I s') (hmove : ∀ reach s t, Move reach s t → I s → I t)
    (hqueue : ∀ s q, I s → I (s.setPending q)) {s t : State} (h : I s) (hstep : step s = .next t) : I t := by
  obtain rfl | ⟨c, rest, rfl⟩ := step_cases hstep
  · exact h
  · exact effect_keeps hstart hmove c (hqueue s rest h)

/-! ### The queue -/

theorem Start.pending {c : Instr} {s s' : State} (h : Start c s s') : s'.pending = s.pending := by cases h <;> rfl

theorem Move.pending {s t : State} {reach : Reach} (h : Move reach s t) : t.pending = s.pending := by
  cases h with
  | beside h => exact h.pending
  | close cause stop => exact closeWith_pending _ _ _ _ _ fun _ => rfl
  | closeAt cause new _ => exact closeWith_pending _ _ _ _ _ fun _ => rfl
  | latch p _ => exact State.setPort_pending ..
  | log b _ => exact logRecord_pending b s
  | completeClear => exact completeClear_pending s
  | activate => exact activateSchedule_pending s
  | hold => exact enterHold_pending s
  | _ => rfl

/-- Settles O2: every command is a run of moves, and no move touches the queue. -/
theorem everyCommandCompletes : Obligations.EveryCommandCompletes := by
  unfold Obligations.EveryCommandCompletes
  intro c s
  refine ⟨effect c s, exec_eq_effect c s, ?_⟩
  exact effect_keeps (I := fun t => t.pending = s.pending) (fun _ _ _ h hs => h.pending.trans hs)
    (fun _ _ _ h hs => h.pending.trans hs) c rfl

/-! ### Configuration (O5) -/

theorem State.ConfigSafe.of_same {s t : State} (h : s.ConfigSafe) (hc : t.config = s.config)
    (hw : t.store.writing = s.store.writing) : t.ConfigSafe := by
  unfold State.ConfigSafe
  rw [hc, hw]
  exact h

/-- A configuration in range with no write in flight is safe. -/
theorem State.configSafe_of_idle {s : State} (h : s.config.InRange) (hw : s.store.writing = none) : s.ConfigSafe :=
  ⟨h, by simp [hw]⟩

theorem Config.InRange.setLimit {cfg : Config} (h : cfg.InRange) (k : Fin 4) {l : LimitConfig} (hl : l.InRange) :
    Config.InRange { cfg with limits := cfg.limits.set k l } := by
  obtain ⟨hwin, hchan, hlim, hrest⟩ := h
  refine ⟨hwin, hchan, fun i => ?_, hrest⟩
  by_cases hi : i = k
  · subst hi
    simpa using hl
  · simpa [PerFour.get_set_other _ _ hi] using hlim i

theorem Config.InRange.lockMode {cfg : Config} (h : cfg.InRange) (m : LockMode) : Config.InRange { cfg with lockMode := m } := h

theorem Move.configSafe {s t : State} {reach : Reach} (h : Move reach s t) (hs : s.ConfigSafe) : t.ConfigSafe := by
  obtain ⟨hrange, hwriting⟩ := hs
  have hs : s.ConfigSafe := ⟨hrange, hwriting⟩
  cases h with
  | beside h => exact hs.of_same (congrArg Store.config h.store) (congrArg Store.writing h.store)
  | close cause stop => exact hs.of_same (closeWith_config clockOnly_id ..) (closeWith_store_writing _ _ _ _ _ fun _ => rfl)
  | closeAt cause new _ =>
    exact hs.of_same (closeWith_config (clockOnly_setInstant new) ..) (closeWith_store_writing _ _ _ _ _ fun _ => rfl)
  | log b _ => exact hs.of_same (congrArg Store.config (logRecord_store b s)) (congrArg Store.writing (logRecord_store b s))
  | completeClear => exact hs.of_same (congrArg Store.config (completeClear_store s)) (congrArg Store.writing (completeClear_store s))
  | activate tables day h =>
    exact hs.of_same (activateSchedule_store_config s) (activateSchedule_store_writing s)
  | latch p _ => cases p <;> exact hs.of_same rfl rfl
  | hold => exact hs.of_same (congrArg Store.config (enterHold_store s)) (congrArg Store.writing (enterHold_store s))
  | begin p i hkeep _ =>
    refine ⟨hrange, fun w hw => ?_⟩
    obtain rfl := Option.some.inj hw
    exact hkeep hrange
  | done => exact State.configSafe_of_idle hrange rfl
  | setting p v e h _ _ =>
    have hv : (v.apply s.config).InRange := hwriting _ h
    refine ⟨hv, fun w hw => ?_⟩
    obtain rfl := Option.some.inj (h.symm.trans hw)
    show (v.apply (v.apply s.config)).InRange
    rwa [Setting.apply_apply]
  | limit p k l h =>
    have hl : l.InRange := hwriting _ h
    refine ⟨hrange.setLimit k hl, fun w hw => ?_⟩
    obtain rfl := Option.some.inj (h.symm.trans hw)
    exact hl
  | lockMode m _ h =>
    refine ⟨hrange.lockMode m, fun w hw => ?_⟩
    have hkeep := hwriting w hw
    obtain ⟨p, i⟩ := w
    cases i
    case setting v => exact absurd hw (h p v)
    all_goals exact hkeep
  | lockChannel c h =>
    refine ⟨hrange.setChannel c (hrange.2.1 c), fun w hw => ?_⟩
    have hkeep := hwriting w hw
    obtain ⟨p, i⟩ := w
    cases i
    case setting v => exact absurd hw (h p v)
    all_goals exact hkeep
  | _ => exact hs.of_same rfl rfl

theorem Config.InRange.reverted {cfg : Config} (h : cfg.InRange) :
    Config.InRange (if cfg.lockMode = .powerLocked then { cfg with lockMode := .guarded } else cfg) := by
  split_ifs
  · exact h.lockMode .guarded
  · exact h

theorem Start.configSafe {c : Instr} {s s' : State} (h : Start c s s') (hs : s.ConfigSafe) : s'.ConfigSafe := by
  cases h with
  | cold lv _ => exact State.configSafe_of_idle hs.1.reverted rfl
  | _ => exact hs

/-- Settles O5: the item of the write in flight is in range too, so its completion leaves the configuration so. -/
theorem configStaysInRange : Obligations.ConfigStaysInRange := by
  unfold Obligations.ConfigStaysInRange
  intro s t h
  exact step_keeps (fun _ _ _ => Start.configSafe) (fun _ _ _ => Move.configSafe) (fun _ _ => id) h

end Sys2Proof.Machine
end

section
/-! PROOFS. More invariants of every step: the time, the tables, the registers and the ring. -/

namespace Sys2Proof.Machine

open Sys2Proof

/-! ### Time (O6) -/

theorem nominalEndOf_inRange (cfg : Config) {start : Instant} (h : start.InRange) : (nominalEndOf cfg start).InRange := by
  unfold nominalEndOf
  split
  · obtain ⟨hday, hsec, -⟩ := Instant.nextMultiple_spec start cfg.subLen h.1
    exact ⟨hday, hsec⟩
  · exact Instant.later_inRange _ _

theorem nominalEndOf_onMultiple {cfg : Config} {start : Instant} (h : start.InRange) (hmode : cfg.syncMode = .internal) :
    (nominalEndOf cfg start).sec % cfg.subLen = 0 := by
  simp only [nominalEndOf, hmode]
  exact (Instant.nextMultiple_spec start cfg.subLen h.1).2.2

/-- The instants stand in the calendar, and in INTERNAL mode the nominal end on a multiple of S. -/
def State.TimeSafe (s : State) : Prop := s.ClockSafe ∧ s.EndOnMultiple

section
variable {s t : State}

theorem State.TimeSafe.of_same (h : s.TimeSafe) (hnow : t.clock.now = s.clock.now) (hsub : t.sub.start = s.sub.start)
    (hend : t.sub.nominalEnd = s.sub.nominalEnd) (hS : t.config.subLen = s.config.subLen)
    (hm : t.config.syncMode = s.config.syncMode) : t.TimeSafe := by
  unfold State.TimeSafe State.ClockSafe State.EndOnMultiple
  rw [hnow, hsub, hend, hS, hm]
  exact h

/-- A sub-interval just opened at an instant of the calendar. -/
theorem State.timeSafe_of_opened {start : Instant} (hnow : t.clock.now.InRange) (hstart : start.InRange)
    (hs : t.sub.start = start) (he : t.sub.nominalEnd = nominalEndOf t.config start) : t.TimeSafe := by
  refine ⟨⟨hnow, hs ▸ hstart, he ▸ nominalEndOf_inRange _ hstart⟩, fun hmode => ?_⟩
  rw [he]
  exact nominalEndOf_onMultiple hstart hmode

theorem Move.timeSafe {reach : Reach} (h : Move reach s t) (hs : s.TimeSafe) : t.TimeSafe := by
  have hclock := hs.1
  obtain ⟨hnow, hstart, hend⟩ := hclock
  cases h with
  | beside h =>
    have hc : t.config = s.config := congrArg Store.config h.store
    exact hs.of_same h.now h.start h.nominalEnd (congrArg _ hc) (congrArg _ hc)
  | close cause stop =>
    refine State.timeSafe_of_opened ?_ hnow (closeWith_start ..) ?_
    · rwa [closeWith_clock_now _ _ id _ _ fun _ => rfl]
    · rw [closeWith_nominalEnd clockOnly_id, closeWith_config clockOnly_id]
  | closeAt cause new hnew =>
    refine State.timeSafe_of_opened ?_ hnew (closeWith_start ..) ?_
    · rw [closeWith_clock, activateAtStart_clock_now]
      exact hnew
    · rw [closeWith_nominalEnd (clockOnly_setInstant new), closeWith_config (clockOnly_setInstant new)]
  | log b _ =>
    exact hs.of_same (by rw [logRecord_clock]) (by rw [logRecord_sub]) (by rw [logRecord_sub])
      (by rw [State.config, logRecord_store, State.config]) (by rw [State.config, logRecord_store, State.config])
  | completeClear =>
    exact hs.of_same (by rw [completeClear_clock]) (by rw [completeClear_sub]) (by rw [completeClear_sub])
      (by rw [State.config, completeClear_store, State.config]) (by rw [State.config, completeClear_store, State.config])
  | activate tables day h =>
    exact hs.of_same (activateSchedule_clock_now s) (by rw [activateSchedule_sub]) (by rw [activateSchedule_sub])
      (by rw [State.config, activateSchedule_store_config, State.config])
      (by rw [State.config, activateSchedule_store_config, State.config])
  | latch p _ => cases p <;> exact hs.of_same rfl rfl rfl rfl rfl
  | hold => exact hs.of_same (by rw [enterHold_clock]) (enterHold_sub_start s) (enterHold_sub_nominalEnd s) rfl rfl
  | setting p v e h hend' _ =>
    obtain ⟨rfl, hS, hm⟩ | rfl | rfl := hend'
    · exact hs.of_same rfl rfl rfl hS hm
    · exact ⟨⟨hnow, hstart, nominalEndOf_inRange _ hstart⟩, nominalEndOf_onMultiple hstart⟩
    · exact ⟨⟨hnow, hstart, nominalEndOf_inRange _ hnow⟩, nominalEndOf_onMultiple hnow⟩
  | moveNow new h => exact ⟨⟨h hnow, hstart, hend⟩, hs.2⟩
  | moveEnd e he hmode =>
    exact ⟨⟨hnow, hstart, he⟩, fun h => absurd (hmode.symm.trans h) (by decide)⟩
  | place start hstart' => exact State.timeSafe_of_opened hnow hstart' rfl rfl
  | _ => exact hs.of_same rfl rfl rfl rfl rfl

end

theorem Start.timeSafe {c : Instr} {s s' : State} (h : Start c s s') (hs : s.TimeSafe) : s'.TimeSafe := by
  cases h with
  | cold lv _ =>
    refine ⟨⟨show Instant.zero.InRange from ⟨by decide, by decide⟩, hs.1.2⟩, fun hmode => ?_⟩
    have hS : (coldBlocks lv s).config.subLen = s.config.subLen := by simp only [coldBlocks, State.config]; split_ifs <;> rfl
    have hm : (coldBlocks lv s).config.syncMode = s.config.syncMode := by simp only [coldBlocks, State.config]; split_ifs <;> rfl
    rw [hS]
    exact hs.2 (hm.symm.trans hmode)
  | _ => exact hs

/-- Settles O6: a sub-interval is placed at an instant of the calendar, with the nominal end that S gives it. -/
theorem timeStaysInCalendar : Obligations.TimeStaysInCalendar := by
  unfold Obligations.TimeStaysInCalendar
  intro s t h
  exact step_keeps (I := State.TimeSafe) (fun _ _ _ => Start.timeSafe) (fun _ _ _ => Move.timeSafe) (fun _ _ => id) h

/-! ### Tables (O7) -/

/-- The store's tables and close dates are valid, those of a write in flight too. -/
def State.TablesSafe (s : State) : Prop := s.ScheduleSafe ∧ s.DatesSafe

section
variable {s t : State}

theorem State.TablesSafe.of_same (h : s.TablesSafe) (ha : t.store.active = s.store.active)
    (hp : t.store.pendSched = s.store.pendSched) (hd : t.store.closeDates = s.store.closeDates)
    (hw : t.store.writing = s.store.writing) : t.TablesSafe := by
  unfold State.TablesSafe State.ScheduleSafe State.DatesSafe
  rw [ha, hp, hd, hw]
  exact h

theorem State.TablesSafe.of_store (h : s.TablesSafe) (hst : t.store = s.store) : t.TablesSafe :=
  h.of_same (congrArg _ hst) (congrArg _ hst) (congrArg _ hst) (congrArg _ hst)

theorem activateSchedule_active {tables : Tables} {day : Nat} (h : s.store.pendSched = .armed tables day) :
    (activateSchedule s).store.active = tables := by
  simp [activateSchedule, refreshDayType, Store.pendingTables, h]

theorem activateSchedule_pendSched (s : State) : (activateSchedule s).store.pendSched = .none := by
  simp [activateSchedule, refreshDayType]

theorem State.TablesSafe.activateSchedule {tables : Tables} {day : Nat} (hs : s.TablesSafe)
    (h : s.store.pendSched = .armed tables day) : (activateSchedule s).TablesSafe := by
  obtain ⟨⟨-, hvalid⟩, hdates⟩ := hs
  rw [h] at hvalid
  refine ⟨⟨(activateSchedule_active h).symm ▸ hvalid, by rw [activateSchedule_pendSched]; trivial⟩, ?_⟩
  unfold State.DatesSafe
  rw [activateSchedule_store_closeDates, activateSchedule_store_writing]
  exact hdates

theorem State.TablesSafe.activateAtStart (hs : s.TablesSafe) : (activateAtStart s).TablesSafe := by
  unfold Machine.activateAtStart
  split
  next h =>
    obtain ⟨tables, day, harmed⟩ := armed_of_activationAtStart h
    exact hs.activateSchedule harmed
  next => exact hs

theorem State.TablesSafe.closeWith {between : State → State} (h : ClockOnly between) (hs : s.TablesSafe) (cause : StatusSet)
    (stop start : Instant) : (closeWith cause stop between start s).TablesSafe := by
  refine State.TablesSafe.of_store (State.TablesSafe.activateAtStart ?_) (closeWith_store ..)
  exact hs.of_store (by rw [h.store, takeClose_store])

theorem Move.tablesSafe {reach : Reach} (h : Move reach s t) (hs : s.TablesSafe) : t.TablesSafe := by
  obtain ⟨⟨hactive, hpend⟩, hdates, hwriting⟩ := id hs
  cases h with
  | beside h => exact hs.of_store h.store
  | close cause stop => exact hs.closeWith clockOnly_id ..
  | closeAt cause new _ => exact hs.closeWith (clockOnly_setInstant new) ..
  | log b _ => exact hs.of_store (logRecord_store b s)
  | completeClear => exact hs.of_store (completeClear_store s)
  | activate tables day h => exact hs.activateSchedule h
  | load tables => exact ⟨⟨hactive, trivial⟩, hdates, hwriting⟩
  | arm tables day hv => exact ⟨⟨hactive, hv⟩, hdates, hwriting⟩
  | cancel => exact ⟨⟨hactive, trivial⟩, hdates, hwriting⟩
  | dates p l h => exact ⟨⟨hactive, hpend⟩, hwriting _ h l rfl, hwriting⟩
  | begin p i _ hl =>
    refine ⟨⟨hactive, hpend⟩, hdates, fun w hw => ?_⟩
    obtain rfl := Option.some.inj hw
    exact hl
  | done => exact ⟨⟨hactive, hpend⟩, hdates, fun w hw => nomatch hw⟩
  | latch p _ => cases p <;> exact hs.of_store rfl
  | hold => exact hs.of_store (enterHold_store s)
  | setting | limit | lockMode | lockChannel => exact hs.of_same rfl rfl rfl rfl
  | _ => exact hs.of_store rfl

theorem Start.tablesSafe {c : Instr} (h : Start c s t) (hs : s.TablesSafe) : t.TablesSafe := by
  cases h with
  | cold lv _ => exact ⟨hs.1, hs.2.1, fun w hw => nomatch hw⟩
  | _ => exact hs

end

/-- Settles O7: tables are armed only when they are valid, and only armed tables become active. -/
theorem tablesStayValid : Obligations.TablesStayValid := by
  unfold Obligations.TablesStayValid
  intro s t h
  exact step_keeps (I := State.TablesSafe) (fun _ _ _ => Start.tablesSafe) (fun _ _ _ => Move.tablesSafe) (fun _ _ => id) h

/-! ### Registers (O8) -/

/-- A value added to one rate adds itself to the sum of the rates. -/
theorem addToRates_ratesSum (x : PerRate (Quint Energy)) (r : Rate) (v : Quint Energy) :
    (addToRates x r v).ratesSum = x.ratesSum.zipWith (· + ·) v := by
  cases r <;> simp only [addToRates, PerRate.ratesSum, PerRate.set, PerRate.get, Quint.zipWith, Quint.mk.injEq] <;>
    refine ⟨?_, ?_, ?_, ?_, ?_⟩ <;> ac_rfl

theorem addToRates_get (x : PerRate (Quint Energy)) (r : Rate) (v : Quint Energy) (y : RateSet) :
    (addToRates x r v).get y = if y = .one r ∨ y = .all then (x.get y).zipWith (· + ·) v else x.get y := by
  cases y with
  | all => simp [addToRates, PerRate.get_set_other _ _ (show RateSet.all ≠ .one r by simp)]
  | one q =>
    rw [addToRates, PerRate.get_set_other _ _ (by simp)]
    by_cases hq : q = r
    · simp [hq]
    · rw [PerRate.get_set_other _ _ (by simpa using hq)]
      simp [hq]

theorem addToRates_rA {x : PerRate (Quint Energy)} (h : x.rA = x.ratesSum) (r : Rate) (v : Quint Energy) :
    (addToRates x r v).rA = (addToRates x r v).ratesSum := by
  have hA : (addToRates x r v).rA = x.rA.zipWith (· + ·) v := by
    have := addToRates_get x r v .all
    simpa [PerRate.get] using this
  rw [hA, addToRates_ratesSum, h]

theorem Totalizer.Balanced.filed {t : Totalizer} (h : t.Balanced) (r : SubRecord) (cum : PerFour (Quad Energy)) :
    (t.filed r cum).Balanced := by
  obtain ⟨hacc, hper, hzero⟩ := h
  refine ⟨addToRates_rA hacc .., addToRates_rA hper .., fun q hq => ?_⟩
  obtain ⟨hne, hq⟩ : q ≠ r.rate ∧ RateMask.has t.present q = false := by
    simpa [Totalizer.filed, RateMask.has_join] using hq
  show (addToRates t.period r.rate r.totals).get (.one q) = _
  rw [addToRates_get, if_neg (by simpa using hne), hzero q hq]

theorem Move.balanced {s t : State} {reach : Reach} (h : Move reach s t) (hs : s.tot.Balanced) : t.tot.Balanced := by
  cases h with
  | beside h => rwa [h.tot]
  | close cause stop =>
    rw [closeWith_tot clockOnly_id]
    exact hs.filed _ _
  | closeAt cause new _ =>
    rw [closeWith_tot (clockOnly_setInstant new)]
    exact hs.filed _ _
  | log b _ => rwa [logRecord_tot]
  | completeClear => rwa [completeClear_tot]
  | activate tables day h => rwa [activateSchedule_tot]
  | freeze cause d _ _ => exact ⟨hs.1, rfl, fun q _ => by cases q <;> rfl⟩
  | latch p _ => cases p <;> exact hs
  | hold => rwa [enterHold_tot]
  | _ => exact hs

/-- Settles O8: a close adds one value to its rate and to rate A; a freeze sets all period energies to 0. -/
theorem rateAStaysTheSum : Obligations.RateAStaysTheSum := by
  unfold Obligations.RateAStaysTheSum
  intro s t h
  refine step_keeps (I := fun s => s.tot.Balanced) (fun _ _ _ hstart hs => ?_) (fun _ _ _ => Move.balanced) (fun _ _ => id) h
  cases hstart with
  | cold lv _ => exact ⟨rfl, rfl, fun q _ => by cases q <;> rfl⟩
  | _ => exact hs

end Sys2Proof.Machine
end

section
/-! PROOFS. The last invariants of every step: the ring, the history, the log, the ports in Hold, the locks, the channels'
expected numbers, and the period number. -/

namespace Sys2Proof.Machine

open Sys2Proof

/-! ### Ring (O9) -/

/-- A ring of at most `n` entries whose sequences run up to `last`. -/
def RingUpTo (n : Nat) (ring : List Summary) (last : Seq) : Prop :=
  ring.length ≤ n ∧ ∀ i, ∀ h : i < ring.length, (ring[i]'h).sequence = last - BitVec.ofNat 32 (ring.length - 1 - i)

theorem sub_ofNat_eq_succ_sub (q : Seq) (k : Nat) : q - BitVec.ofNat 32 k = q + 1 - BitVec.ofNat 32 (k + 1) := by
  bv_omega

/-- An entry of the next sequence at the end of the ring, the oldest leaving a full one (R64). -/
theorem RingUpTo.push {n : Nat} {ring : List Summary} {last : Seq} (h : RingUpTo n ring last) (hn : 1 ≤ n) {x : Summary}
    (hx : x.sequence = last + 1) : RingUpTo n (pushRing n ring x) (last + 1) := by
  obtain ⟨hlen, hseq⟩ := h
  have pushed : ∀ kept : List Summary, kept.length < n →
      (∀ i, ∀ h : i < kept.length, (kept[i]'h).sequence = last - BitVec.ofNat 32 (kept.length - 1 - i)) →
      RingUpTo n (kept ++ [x]) (last + 1) := by
    intro kept hkept hks
    refine ⟨by simpa using hkept, fun i hi => ?_⟩
    rw [List.length_append, List.length_singleton] at hi ⊢
    by_cases hlast : i < kept.length
    · rw [List.getElem_append_left hlast, hks i hlast, sub_ofNat_eq_succ_sub]
      congr 2
      omega
    · obtain rfl : i = kept.length := by omega
      simp [hx]
  unfold pushRing
  split
  next hfull =>
    refine pushed ring.tail (by rw [List.length_tail]; omega) fun i hi => ?_
    rw [List.length_tail] at hi
    rw [List.getElem_tail, hseq (i + 1) (by omega), List.length_tail]
    congr 2
    omega
  next hfull => exact pushed ring (by omega) hseq

/-- The configuration is in range, and the ring runs up to the last sequence. -/
def State.RingHeld (s : State) : Prop := s.ConfigSafe ∧ s.RingSafe

section
variable {s t : State}

theorem State.RingSafe.of_same (h : s.RingSafe) (hr : t.dem.ring = s.dem.ring) (hq : t.tot.lastSeq = s.tot.lastSeq)
    (hN : t.config.windowLen = s.config.windowLen) : t.RingSafe := by
  have hu : RingUpTo s.config.windowLen s.dem.ring s.tot.lastSeq := h
  rw [← hr, ← hq, ← hN] at hu
  exact hu

theorem State.ringSafe_of_empty (h : t.dem.ring = []) : t.RingSafe := by
  have hu : RingUpTo t.config.windowLen [] t.tot.lastSeq := ⟨Nat.zero_le _, fun i hi => absurd hi (Nat.not_lt_zero i)⟩
  rw [← h] at hu
  exact hu

theorem State.RingHeld.closeWith {between : State → State} (h : ClockOnly between) (hs : s.RingHeld) (cause : StatusSet)
    (stop start : Instant) : (closeWith cause stop between start s).RingSafe := by
  obtain ⟨⟨⟨⟨-, hN, -⟩, -⟩, -⟩, hring⟩ := hs
  have hpushed := RingUpTo.push (n := s.config.windowLen) hring hN (x := (closingRecord cause stop s).summary) rfl
  have hu : RingUpTo (Machine.closeWith cause stop between start s).config.windowLen
      (Machine.closeWith cause stop between start s).dem.ring (Machine.closeWith cause stop between start s).tot.lastSeq := by
    rw [closeWith_config h, closeWith_dem h, closeWith_tot h]
    exact hpushed
  exact hu

theorem Move.ringHeld {reach : Reach} (h : Move reach s t) (hs : s.RingHeld) : t.RingHeld := by
  refine ⟨h.configSafe hs.1, ?_⟩
  have hr := hs.2
  cases h with
  | beside h => exact hr.of_same h.ring (congrArg _ h.tot) (congrArg (fun x => x.config.windowLen) h.store)
  | close cause stop => exact hs.closeWith clockOnly_id ..
  | closeAt cause new _ => exact hs.closeWith (clockOnly_setInstant new) ..
  | emptyRing => exact State.ringSafe_of_empty rfl
  | log b _ => exact hr.of_same (by rw [logRecord_dem]) (by rw [logRecord_tot]) (by rw [State.config, logRecord_store, State.config])
  | completeClear =>
    exact hr.of_same (by rw [completeClear_dem]) (by rw [completeClear_tot]) (by rw [State.config, completeClear_store, State.config])
  | activate tables day h =>
    exact hr.of_same (by rw [activateSchedule_dem]) (by rw [activateSchedule_tot])
      (by rw [State.config, activateSchedule_store_config, State.config])
  | setting p v e h _ hring =>
    obtain hN | hempty := hring
    · exact hr.of_same rfl rfl hN
    · exact State.ringSafe_of_empty hempty
  | latch p _ => cases p <;> exact hr.of_same rfl rfl rfl
  | hold => exact hr.of_same (by rw [enterHold_dem]) (by rw [enterHold_tot]) rfl
  | _ => exact hr.of_same rfl rfl rfl

theorem Start.ringHeld {c : Instr} (h : Start c s t) (hs : s.RingHeld) : t.RingHeld := by
  refine ⟨h.configSafe hs.1, ?_⟩
  cases h with
  | cold lv _ => exact State.ringSafe_of_empty rfl
  | _ => exact hs.2

end

/-- Settles O9: an arrival takes the next sequence, and leaves at most N entries since N is at least 1. -/
theorem ringStaysConsecutive : Obligations.RingStaysConsecutive := by
  unfold Obligations.RingStaysConsecutive
  intro s t h hstep
  exact (step_keeps (I := State.RingHeld) (fun _ _ _ => Start.ringHeld) (fun _ _ _ => Move.ringHeld) (fun _ _ => id) h hstep).2

/-! ### History (O10) -/

theorem toNat_succ_of_ne_last {n : Seq} (h : n ≠ lastPeriod) : (n + 1).toNat = n.toNat + 1 := by
  have : n.toNat ≠ 4294967295 := fun hn => h (BitVec.eq_of_toNat_eq hn)
  have := n.isLt
  rw [BitVec.toNat_add]
  show (n.toNat + 1) % 4294967296 = n.toNat + 1
  omega

/-- A record of the period that closed last joins the history (R116). -/
theorem PeriodUnit.HistorySafe.filed {x : PeriodUnit} (h : x.HistorySafe) {r : PeriodRecord} (hr : r.number = x.bound)
    (hbusy : x.busy = true) : PeriodUnit.HistorySafe { x with close := .idle, history := pushHistory x.history r } := by
  obtain ⟨hlen, hsorted, hbelow, hnumber⟩ := h
  have pushed : ∀ kept : List PeriodRecord, kept.length < historyMax → kept.Sublist x.history →
      PeriodUnit.HistorySafe { x with close := .idle, history := kept ++ [r] } := by
    intro kept hkept hsub
    refine ⟨by simpa using hkept, ?_, ?_, fun h => absurd h Bool.false_ne_true⟩
    · refine List.pairwise_append.mpr ⟨hsorted.sublist hsub, List.pairwise_singleton _ r, fun a ha b hb => ?_⟩
      rw [List.mem_singleton.mp hb, hr]
      exact hbelow a (hsub.subset ha)
    · intro a ha
      show a.number.toNat < x.number.toNat
      obtain ha | ha := List.mem_append.mp ha
      · exact (hbelow a (hsub.subset ha)).trans (hnumber hbusy)
      · rw [List.mem_singleton.mp ha, hr]
        exact hnumber hbusy
  unfold pushHistory
  split
  next hfull =>
    have : 0 < historyMax := by decide
    refine pushed x.history.tail ?_ (List.tail_sublist _)
    rw [List.length_tail]
    omega
  next hfull => exact pushed _ (by omega) (List.Sublist.refl _)

theorem Start.historySafe {c : Instr} {s t : State} (h : Start c s t) (hs : s.per.HistorySafe) : t.per.HistorySafe := by
  cases h with
  | same => exact hs
  | filed x h =>
    obtain h | h := h
    · exact hs.filed (by simp [PeriodUnit.bound, h, Snapshot.record]) (by simp [PeriodUnit.busy, h])
    · exact hs.filed (by simp [PeriodUnit.bound, h, Snapshot.record]) (by simp [PeriodUnit.busy, h])
  | cold lv _ => exact ⟨Nat.zero_le _, List.Pairwise.nil, fun r hr => (nomatch hr), fun h => absurd h Bool.false_ne_true⟩
  | warm lv _ =>
    have hbound : s.per.resumed.bound = s.per.bound := by
      unfold PeriodUnit.resumed PeriodUnit.bound
      cases s.per.close <;> rfl
    have hbusy : s.per.resumed.busy = s.per.busy := by
      unfold PeriodUnit.resumed PeriodUnit.busy
      cases s.per.close <;> rfl
    show s.per.resumed.HistorySafe
    unfold PeriodUnit.HistorySafe
    rw [hbound, hbusy]
    exact hs

theorem Move.historySafe {s t : State} {reach : Reach} (h : Move reach s t) (hs : s.per.HistorySafe) : t.per.HistorySafe := by
  cases h with
  | beside h =>
    obtain ⟨hlen, hsorted, hbelow, hnumber⟩ := hs
    unfold PeriodUnit.HistorySafe PeriodUnit.bound PeriodUnit.busy
    rw [h.history, h.close, h.number]
    exact ⟨hlen, hsorted, hbelow, hnumber⟩
  | close cause stop => rwa [closeWith_per _ _ id _ _ fun _ => rfl]
  | closeAt cause new _ => rwa [closeWith_per _ _ (setInstant new) _ _ fun _ => rfl]
  | log b _ => rwa [logRecord_per]
  | completeClear => rwa [completeClear_per]
  | activate tables day h => rwa [activateSchedule_per]
  | freeze cause d hidle hlast =>
    obtain ⟨hlen, hsorted, hbelow, -⟩ := hs
    refine ⟨hlen, hsorted, fun r hr => ?_, fun _ => ?_⟩
    · have := hbelow r hr
      show r.number.toNat < s.per.number.toNat
      simpa [PeriodUnit.bound, hidle] using this
    · show s.per.number.toNat < (s.per.number + 1).toNat
      rw [toNat_succ_of_ne_last hlast]
      exact Nat.lt_succ_self _
  | clearHistory => exact ⟨Nat.zero_le _, List.Pairwise.nil, fun r hr => (nomatch hr), hs.2.2.2⟩
  | latch p _ => cases p <;> exact hs
  | hold => rwa [enterHold_per]
  | _ => exact hs

/-- Settles O10: a period in close lies above the history and below the current number. -/
theorem historyStaysOrdered : Obligations.HistoryStaysOrdered := by
  unfold Obligations.HistoryStaysOrdered
  intro s t h
  exact step_keeps (I := fun s => s.per.HistorySafe) (fun _ _ _ => Start.historySafe) (fun _ _ _ => Move.historySafe) (fun _ _ => id) h

/-! ### Log (O11) -/

theorem wordsOf_append (a b : List LogRecord) : wordsOf (a ++ b) = wordsOf a + wordsOf b := by simp [wordsOf]

theorem LogBody.lengthSafe_status (b : LogBody) (st : StatusSet) : LogBody.LengthSafe { b with status := st } ↔ b.LengthSafe :=
  Iff.rfl

theorem ProfileLog.Safe.logged {l : ProfileLog} (h : l.Safe) {b : LogBody} (hb : b.LengthSafe) : (l.logged b).Safe := by
  obtain ⟨hwords, hseq, hlen, hslot⟩ := h
  unfold ProfileLog.logged
  split
  next =>
    refine ⟨hwords, hseq, hlen, fun x hx => ?_⟩
    obtain rfl := Option.some.inj hx
    exact hb
  next =>
    obtain ⟨k, hk⟩ := trimFor_eq_drop b.words l.records
    have hfits : wordsOf (trimFor b.words l.records) + b.words ≤ logWords := by
      obtain hnil | hle := trimFor_fits b.words l.records
      · rw [hnil]
        have := hb.2
        simp only [wordsOf, logWords, List.map_nil, List.sum_nil]
        omega
      · exact hle
    refine ⟨?_, fun i hi => ?_, fun r hr => ?_, hslot⟩
    · rw [wordsOf_append]
      simpa [wordsOf] using hfits
    · dsimp only at hi ⊢
      rw [List.length_append, List.length_singleton] at hi ⊢
      by_cases hlast : i < (trimFor b.words l.records).length
      · have hdrop : k + i < l.records.length := by
          rw [hk, List.length_drop] at hlast
          omega
        rw [List.getElem_append_left hlast]
        have : ((trimFor b.words l.records)[i]'hlast) = l.records[k + i]'hdrop := by
          simp only [hk, List.getElem_drop]
        rw [this, hseq _ hdrop, sub_ofNat_eq_succ_sub]
        congr 2
        rw [hk, List.length_drop]
        omega
      · obtain rfl : i = (trimFor b.words l.records).length := by omega
        simp
    · obtain hr | hr := List.mem_append.mp hr
      · rw [hk] at hr
        exact hlen r (List.mem_of_mem_drop hr)
      · rw [List.mem_singleton.mp hr]
        exact hb

theorem ProfileLog.Safe.carries {l : ProfileLog} (h : l.Safe) (x : Carries) : ProfileLog.Safe { l with carries := x } := h

theorem channelBlock_length_le (mask : BitVec 4) (c : Fin 4) (v : Quad Energy) (k : Quad Nat) :
    (channelBlock mask c v k).1.length ≤ 4 := by
  unfold channelBlock
  split <;> simp [logBlock]

/-- A DATA record holds the totalized block and at most four more (R129). -/
theorem dataBody_lengthSafe (mask : BitVec 4) (r : SubRecord) (k : Carries) : (dataBody mask r k).LengthSafe := by
  have h0 := channelBlock_length_le mask 0 r.parts.c0 k.channels.c0
  have h1 := channelBlock_length_le mask 1 r.parts.c1 k.channels.c1
  have h2 := channelBlock_length_le mask 2 r.parts.c2 k.channels.c2
  have h3 := channelBlock_length_le mask 3 r.parts.c3 k.channels.c3
  have ht : (logBlock r.loggedTotals k.totals).1.length = 4 := rfl
  simp only [LogBody.LengthSafe, LogBody.words, dataBody, dataPayload, List.length_append]
  omega

theorem ProfileLog.Safe.scheduled {l : ProfileLog} (h : l.Safe) (rate : Rate) (stamp : Instant) (effective : Option Nat) :
    (l.scheduled rate stamp effective).Safe := by
  cases effective with
  | none => exact h
  | some day => exact h.logged ⟨by simp [LogBody.words], by simp [LogBody.words]⟩

theorem closeWith_logSafe {between : State → State} (h : ClockOnly between) {s : State} (hs : s.log.Safe) (cause : StatusSet)
    (stop start : Instant) : (closeWith cause stop between start s).log.Safe := by
  rw [closeWith_log h]
  exact ProfileLog.Safe.scheduled (ProfileLog.Safe.logged (hs.carries _) (dataBody_lengthSafe ..)) ..

theorem logRecord_logSafe {s : State} (hs : s.log.Safe) {b : LogBody} (hb : b.LengthSafe) : (logRecord b s).log.Safe := by
  rw [logRecord_logged b s]
  exact hs.logged hb

theorem writeRecord_eq_logRecord (b : LogBody) {s : State} (h : s.log.clearBusy = false) : writeRecord b s = logRecord b s := by
  simp [logRecord, h]

theorem clearedMarker_lengthSafe (s : State) : s.clearedMarker.body.LengthSafe :=
  ⟨show 4 ≤ 4 by decide, show 4 ≤ 24 by decide⟩

theorem completeClear_logSafe {s : State} (hs : s.log.Safe) : (completeClear s).log.Safe := by
  have hempty : ProfileLog.Safe { s.log with records := [], clearBusy := false, slot := none } :=
    ⟨Nat.zero_le _, fun i hi => absurd hi (Nat.not_lt_zero i), fun _ hr => (nomatch hr), fun _ hb => (nomatch hb)⟩
  have hmarked : s.clearedAndMarked.log.Safe := by
    rw [State.clearedAndMarked, writeRecord_eq_logRecord _ rfl]
    exact logRecord_logSafe hempty (clearedMarker_lengthSafe s)
  have hheld : (writeHeld s.log.slot s.clearedAndMarked).log.Safe := by
    cases hslot : s.log.slot with
    | none => exact hmarked
    | some b =>
      show (writeRecord b s.clearedAndMarked).log.Safe
      rw [writeRecord_eq_logRecord _ rfl]
      exact logRecord_logSafe hmarked (hs.2.2.2 b hslot)
  exact hheld

theorem Move.logSafe {s t : State} {reach : Reach} (h : Move reach s t) (hs : s.log.Safe) : t.log.Safe := by
  cases h with
  | beside h =>
    unfold ProfileLog.Safe
    rw [h.records, h.nextSeq, h.slot]
    exact hs
  | close cause stop => exact closeWith_logSafe clockOnly_id hs ..
  | closeAt cause new _ => exact closeWith_logSafe (clockOnly_setInstant new) hs ..
  | log b hb => exact logRecord_logSafe hs hb
  | startClear => exact ⟨hs.1, hs.2.1, hs.2.2.1, fun b hb => (nomatch hb)⟩
  | completeClear => exact completeClear_logSafe hs
  | activate tables day h => rwa [activateSchedule_log]
  | latch p _ => cases p <;> exact hs
  | hold => rwa [enterHold_log]
  | _ => exact hs

theorem ProfileLog.cold_safe : ProfileLog.cold.Safe :=
  ⟨Nat.zero_le _, fun i hi => absurd hi (Nat.not_lt_zero i), fun _ hr => (nomatch hr), fun _ hb => (nomatch hb)⟩

/-- Settles O11: a record is written with the next sequence, once the oldest have made room. -/
theorem logStaysConsecutive : Obligations.LogStaysConsecutive := by
  unfold Obligations.LogStaysConsecutive
  intro s t h
  refine step_keeps (I := fun s => s.log.Safe) (fun _ _ _ hstart hs => ?_) (fun _ _ _ => Move.logSafe) (fun _ _ => id) h
  cases hstart with
  | cold lv _ => exact ProfileLog.cold_safe
  | _ => exact hs

/-! ### Ports in Hold (O12) -/

section
variable {s t : State}

/-- No permission gained keeps the ports safe, Hold and PFAIL standing as they were. -/
theorem State.PortsSafe.of_tamed (h : s.PortsSafe) (hp : s.TamesPorts t) (hhold : t.sup.hold = s.sup.hold)
    (hpfail : t.pins.pfail = s.pins.pfail) : t.PortsSafe := by
  obtain ⟨hclear, harm, hutil, hcust, hsame⟩ := h
  have off : ∀ {a b : Bool}, (b = true → a = true) → a = false → b = false := fun {a b} hab ha => by
    cases b
    · rfl
    · exact (hab rfl).symm.trans ha
  refine ⟨fun hh => ?_, off (hp .customer).arm harm, (hp .utility).pattern hutil, (hp .customer).pattern hcust, ?_⟩
  · obtain ⟨h1, h2, h3⟩ := hclear (hhold ▸ hh)
    exact ⟨off (hp .utility).latch h1, off (hp .customer).latch h2, off (hp .utility).arm h3⟩
  · rw [hhold, hpfail, hsame]

theorem State.PortsSafe.of_same (h : s.PortsSafe) (hu : t.util = s.util) (hc : t.cust = s.cust)
    (hhold : t.sup.hold = s.sup.hold) (hpfail : t.pins.pfail = s.pins.pfail) : t.PortsSafe := by
  unfold State.PortsSafe
  rw [hu, hc, hhold, hpfail]
  exact h

theorem afterClear_tamed (x : PortState) (marker : Seq) : x.Tamed (x.afterClear marker) := ⟨id, id, id⟩

/-- The ports at a clear completion, once its marker and the held record are written (R143). -/
theorem writeHeld_keepsPorts (s : State) : s.KeepsPorts (writeHeld s.log.slot s.clearedAndMarked) := by
  have hmarked : s.KeepsPorts s.clearedAndMarked :=
    State.KeepsPorts.writeRecord ((State.KeepsPorts.refl s).of_eq fun p => by rw [State.setLog_port]) _
  cases s.log.slot with
  | none => exact hmarked
  | some b => exact hmarked.writeRecord b

theorem completeClear_tamesPorts (s : State) : s.TamesPorts (completeClear s) := by
  have hheld := writeHeld_keepsPorts s
  intro p
  rw [completeClear_eq]
  cases p
  · exact (hheld .utility).tamed.trans (afterClear_tamed ..)
  · exact (hheld .customer).tamed.trans (afterClear_tamed ..)

theorem enterHold_portsSafe (h : s.PortsSafe) : (enterHold s).PortsSafe := by
  obtain ⟨-, -, hutil, hcust, -⟩ := h
  exact ⟨fun _ => ⟨rfl, rfl, rfl⟩, rfl, hutil, hcust, rfl⟩

theorem Move.portsSafe {reach : Reach} (h : Move reach s t) (hs : s.PortsSafe) : t.PortsSafe := by
  cases h with
  | beside h => exact hs.of_tamed h.port h.hold h.pfail
  | close cause stop =>
    exact hs.of_tamed (closeWith_keepsPorts clockOnly_id _ _ _ _).tames (by rw [closeWith_sup _ _ id _ _ fun _ => rfl])
      (by rw [closeWith_pins _ _ id _ _ fun _ => rfl])
  | closeAt cause new _ =>
    exact hs.of_tamed (closeWith_keepsPorts (clockOnly_setInstant new) _ _ _ _).tames (by rw [closeWith_sup _ _ (setInstant new) _ _ fun _ => rfl])
      (by rw [closeWith_pins _ _ (setInstant new) _ _ fun _ => rfl])
  | log b _ =>
    exact hs.of_tamed ((State.KeepsPorts.refl s).logRecord b).tames (by rw [logRecord_sup]) (by rw [logRecord_pins])
  | completeClear => exact hs.of_tamed (completeClear_tamesPorts s) (by rw [completeClear_sup]) (by rw [completeClear_pins])
  | activate tables day h =>
    exact hs.of_tamed (State.KeepsPorts.refl s).activateSchedule.tames (by rw [activateSchedule_sup]) (by rw [activateSchedule_pins])
  | latch p hhold =>
    obtain ⟨hclear, harm, hutil, hcust, hsame⟩ := hs
    cases p <;> exact ⟨fun h => absurd (hhold.symm.trans h) Bool.false_ne_true, harm, hutil, hcust, hsame⟩
  | armReset hhold =>
    obtain ⟨hclear, harm, hutil, hcust, hsame⟩ := hs
    exact ⟨fun h => absurd (hhold.symm.trans h) Bool.false_ne_true, harm, hutil, hcust, hsame⟩
  | hold => exact enterHold_portsSafe hs
  | release x y hx hy =>
    obtain ⟨hclear, harm, hutil, hcust, hsame⟩ := hs
    exact ⟨fun h => absurd (hx.symm.trans h) Bool.false_ne_true, harm, hutil, hcust, hx.trans hy.symm⟩
  | _ => exact hs.of_same rfl rfl rfl rfl

end

/-- Settles O12: latch and arm are set outside Hold alone, and Hold entry clears them. -/
theorem portsStayClearInHold : Obligations.PortsStayClearInHold := by
  unfold Obligations.PortsStayClearInHold
  intro s t h
  refine step_keeps (I := State.PortsSafe) (fun _ _ _ hstart hs => ?_) (fun _ _ _ => Move.portsSafe) (fun _ _ => id) h
  cases hstart with
  | cold lv _ => exact ⟨fun h => absurd h Bool.false_ne_true, rfl, Nat.zero_le 3, Nat.zero_le 3, rfl⟩
  | _ => exact hs

/-! ### Locks (O13) -/

/-- The locks that one configuration holds, another holds too. -/
def Config.LocksKept (a b : Config) : Prop :=
  (a.lockMode = .permanent → b.lockMode = .permanent)
    ∧ ∀ c, (a.channels.get c).calLock = true → (b.channels.get c).calLock = true

theorem Config.LocksKept.refl (a : Config) : a.LocksKept a := ⟨id, fun _ => id⟩

theorem Config.LocksKept.trans {a b c : Config} (h : a.LocksKept b) (h' : b.LocksKept c) : a.LocksKept c :=
  ⟨h'.1 ∘ h.1, fun i => h'.2 i ∘ h.2 i⟩

theorem Config.locksKept_setChannel (cfg : Config) (c : Fin 4) {x : ChannelConfig}
    (h : (cfg.channels.get c).calLock = true → x.calLock = true) : cfg.LocksKept (cfg.setChannel c x) := by
  refine ⟨id, fun i hi => ?_⟩
  by_cases hic : i = c
  · subst hic
    simpa [Config.setChannel] using h hi
  · simpa [Config.setChannel, PerFour.get_set_other _ _ hic] using hi

/-- No setting touches a lock: each lock has a command of its own (R169 step 3). -/
theorem Setting.locksKept (v : Setting) (cfg : Config) : cfg.LocksKept (v.apply cfg) := by
  cases v
  case channelK c _ => exact cfg.locksKept_setChannel c id
  case channelSS c _ => exact cfg.locksKept_setChannel c id
  case channelEnable c _ => exact cfg.locksKept_setChannel c id
  case channelWeight c _ => exact cfg.locksKept_setChannel c id
  all_goals exact .refl cfg

theorem Move.locksKept {s t : State} {reach : Reach} (h : Move reach s t) : s.config.LocksKept t.config := by
  have same : ∀ {x : Config}, x = s.config → s.config.LocksKept x := fun h => h ▸ .refl _
  cases h with
  | beside h => exact same (congrArg Store.config h.store)
  | close cause stop => exact same (closeWith_config clockOnly_id ..)
  | closeAt cause new _ => exact same (closeWith_config (clockOnly_setInstant new) ..)
  | log b _ => exact same (congrArg Store.config (logRecord_store b s))
  | completeClear => exact same (congrArg Store.config (completeClear_store s))
  | activate tables day h => exact same (activateSchedule_store_config s)
  | setting p v e _ _ _ => exact v.locksKept s.config
  | lockMode m hperm _ => exact ⟨fun h => absurd h hperm, fun _ => id⟩
  | lockChannel c _ => exact s.config.locksKept_setChannel c fun _ => rfl
  | latch p _ => cases p <;> exact .refl _
  | hold => exact same (congrArg Store.config (enterHold_store s))
  | _ => exact .refl _

theorem Start.locksKept {c : Instr} {s t : State} (h : Start c s t) : s.config.LocksKept t.config := by
  cases h with
  | cold lv _ =>
    show s.config.LocksKept (if s.config.lockMode = .powerLocked then { s.config with lockMode := .guarded } else s.config)
    split_ifs with h
    · exact ⟨fun hp => absurd (h.symm.trans hp) (by decide), fun _ => id⟩
    · exact .refl _
  | _ => exact .refl _

/-- Settles O13: only the completion of a lock's own command and a start touch the locks. -/
theorem locksNeverLoosen : Obligations.LocksNeverLoosen := by
  unfold Obligations.LocksNeverLoosen
  intro s t hstep
  exact step_keeps (I := fun x => s.config.LocksKept x.config) (fun _ _ _ hstart hs => hs.trans hstart.locksKept)
    (fun _ _ _ hmove hs => hs.trans hmove.locksKept) (fun _ _ => id) (.refl s.config) hstep

/-! ### Expected numbers (R4) -/

theorem Move.expectedHeld {s t : State} {reach : Reach} (h : Move reach s t) (hs : s.ExpectedHeld) : t.ExpectedHeld := by
  cases h with
  | beside h =>
    intro c
    rw [h.expected, h.state]
    exact hs c
  | close cause stop =>
    intro c
    rw [closeWith_chans clockOnly_id, PerFour.get_map]
    exact hs c
  | closeAt cause new _ =>
    intro c
    rw [closeWith_chans (clockOnly_setInstant new), PerFour.get_map]
    exact hs c
  | chan c x hx =>
    intro d
    by_cases hd : d = c
    · subst hd
      simpa [Channel.Held] using hx (hs d)
    · simpa [PerFour.get_set_other _ _ hd] using hs d
  | channelsStarted =>
    intro c
    have hc : (Machine.channelsStarted s).chans.get c = (s.chans.get c).started (s.config.channels.get c) := by
      simp [Machine.channelsStarted]
    rw [hc]
    cases hon : (s.config.channels.get c).enabled <;> simp [Channel.started, hon]
  | log b _ => unfold State.ExpectedHeld; rwa [logRecord_chans]
  | completeClear => unfold State.ExpectedHeld; rwa [completeClear_chans]
  | activate tables day h => unfold State.ExpectedHeld; rwa [activateSchedule_chans]
  | latch p _ => cases p <;> exact hs
  | hold => unfold State.ExpectedHeld; rwa [enterHold_chans]
  | _ => exact hs

theorem Start.expectedHeld {c : Instr} {s t : State} (h : Start c s t) (hs : s.ExpectedHeld) : t.ExpectedHeld := by
  cases h with
  | cold lv _ =>
    intro c
    have hc : (coldBlocks lv s).chans.get c
        = .cold (if ((coldBlocks lv s).config.channels.get c).enabled then .waiting else .off) := by
      simp [coldBlocks, State.config]
    rw [hc]
    cases ((coldBlocks lv s).config.channels.get c).enabled <;> simp [Channel.cold]
  | _ => exact hs

/-- A channel holds an expected number in ACTIVE and STALLED, and none elsewhere: every step keeps it so. -/
theorem step_expectedHeld {s t : State} (h : s.ExpectedHeld) (hstep : step s = .next t) : t.ExpectedHeld :=
  step_keeps (I := State.ExpectedHeld) (fun _ _ _ => Start.expectedHeld) (fun _ _ _ => Move.expectedHeld) (fun _ _ => id) h hstep

end Sys2Proof.Machine
end

section
/-! PROOFS. What may change at all: the period number (R114, R115), the store without the latch (R162, R164), and the
billing record from the Customer Port (R160). -/

namespace Sys2Proof.Machine

open Sys2Proof

/-! ### The period number (O14) -/

/-- The period of one state, and the close that its freeze has begun, in another. -/
def PeriodUnit.FrozenTo (x y : PeriodUnit) : Prop :=
  x.number ≠ lastPeriod ∧ y.number = x.number + 1
    ∧ ∃ snap, y.close = .closing snap ∧ snap.number = x.number ∧ snap.start = x.start ∧ snap.stop = y.start

/-- The period stands as it did. -/
def PeriodUnit.SamePeriod (x y : PeriodUnit) : Prop := y.number = x.number ∧ y.start = x.start ∧ y.close = x.close

theorem PeriodUnit.SamePeriod.of_eq {x y : PeriodUnit} (h : y = x) : x.SamePeriod y := h ▸ ⟨rfl, rfl, rfl⟩

/-- A move keeps the period, or is a freeze out of IDLE (R109 to R113). -/
theorem Move.period {reach : Reach} {s t : State} (h : Move reach s t) :
    s.per.SamePeriod t.per ∨ (s.per.close = .idle ∧ s.per.FrozenTo t.per) := by
  cases h with
  | beside h => exact .inl ⟨h.number, h.periodStart, h.close⟩
  | close cause stop => exact .inl (.of_eq (closeWith_per _ _ id _ _ fun _ => rfl))
  | closeAt cause new _ => exact .inl (.of_eq (closeWith_per _ _ (setInstant new) _ _ fun _ => rfl))
  | log b _ => exact .inl (.of_eq (logRecord_per b s))
  | completeClear => exact .inl (.of_eq (completeClear_per s))
  | activate tables day h => exact .inl (.of_eq (activateSchedule_per s))
  | freeze cause d hidle hlast => exact .inr ⟨hidle, hlast, rfl, _, rfl, rfl, rfl, rfl⟩
  | clearHistory => exact .inl ⟨rfl, rfl, rfl⟩
  | latch p _ => cases p <;> exact .inl ⟨rfl, rfl, rfl⟩
  | hold => exact .inl (.of_eq (enterHold_per s))
  | _ => exact .inl ⟨rfl, rfl, rfl⟩

/-- A run of moves freezes at most once, since a freeze leaves CLOSING. -/
theorem Moves.period {reach : Reach} {s t : State} (h : Moves reach s t) : s.per.SamePeriod t.per ∨ s.per.FrozenTo t.per := by
  refine h.keeps (I := fun u => s.per.SamePeriod u.per ∨ s.per.FrozenTo u.per) (fun a b hmove ha => ?_) (.inl ⟨rfl, rfl, rfl⟩)
  obtain ⟨hn, hs, hc⟩ | ⟨hlast, hn, snap, hc, hnum, hstart, hstop⟩ := ha
  · obtain ⟨hn', hs', hc'⟩ | ⟨-, hlast, hn', snap, hc', hnum, hstart, hstop⟩ := hmove.period
    · exact .inl ⟨hn'.trans hn, hs'.trans hs, hc'.trans hc⟩
    · exact .inr ⟨hn ▸ hlast, hn ▸ hn', snap, hc', hn ▸ hnum, hs ▸ hstart, hstop⟩
  · obtain ⟨hn', hs', hc'⟩ | ⟨hidle, -⟩ := hmove.period
    · exact .inr ⟨hlast, hn'.trans hn, snap, hc'.trans hc, hnum, hstart, hstop.trans hs'.symm⟩
    · rw [hc] at hidle
      cases hidle

theorem coldStarted_per (lv : PinLevels) (s : State) : (coldStarted lv s).per = .cold := by
  simp [coldStarted, coldBlocks]

/-- The starts but a cold one keep the period, and none of them leaves a close CLOSING that was not. -/
theorem Start.period {c : Instr} {s t : State} (h : Start c s t) :
    (∃ lv, c = .coldStart lv) ∨ (t.per.number = s.per.number ∧ t.per.start = s.per.start
      ∧ ∀ x, t.per.close = .closing x → s.per.close = .closing x) := by
  cases h with
  | same => exact .inr ⟨rfl, rfl, fun _ => id⟩
  | filed x _ => exact .inr ⟨rfl, rfl, fun y hy => nomatch hy⟩
  | cold lv h => exact .inl ⟨lv, h⟩
  | warm lv _ =>
    refine .inr ⟨rfl, rfl, fun x hx => absurd hx ?_⟩
    show s.per.resumed.close ≠ _
    unfold PeriodUnit.resumed
    cases s.per.close <;> simp

/-- Settles O14: only a freeze moves the number, and a cold start sets it to 1. -/
theorem periodNumberMovesByOne : Obligations.PeriodNumberMovesByOne := by
  unfold Obligations.PeriodNumberMovesByOne
  intro c s t h
  obtain rfl := effect_of_exec h
  obtain ⟨s', reach, hstart, hmoves⟩ := effect_moves c s
  obtain ⟨lv, rfl⟩ | ⟨hn, hs, hc⟩ := hstart.period
  · show (((if !s.running && !s.sup.retentionValid then coldStarted lv s else s).per.number = _ ∨ _) ∧ _)
    have heffect : effect (.coldStart lv) s = if !s.running && !s.sup.retentionValid then coldStarted lv s else s := rfl
    rw [heffect]
    split
    · rw [coldStarted_per]
      exact ⟨.inr (.inr ⟨⟨lv, rfl⟩, rfl⟩), fun x hx => nomatch hx⟩
    · exact ⟨.inl rfl, fun x hx hne => absurd hx hne⟩
  · obtain ⟨hn', hs', hc'⟩ | ⟨hlast, hn', snap, hc', hnum, hstart', hstop⟩ := hmoves.period
    · exact ⟨.inl (hn'.trans hn), fun x hx hne => absurd (hc x (hc'.symm.trans hx)) hne⟩
    · rw [hn] at hlast hn' hnum
      rw [hs] at hstart'
      refine ⟨.inr (.inl ⟨hlast, hn', snap, hc', hnum, hstart'⟩), fun x hx _ => ?_⟩
      obtain rfl := CloseState.closing.inj (hc'.symm.trans hx)
      exact ⟨hlast, hn', hnum, hstart', hstop⟩

/-! ### A write-class transaction, by its checks -/

/-- What a write-class row leaves: the state, or the end of its transaction after a refusal, or after its own step. -/
theorem effect_write_cases {i : Instr} {p : Port} {fr : Framing} {code : Byte} {args : List Byte}
    (hwf : i.wellFormed = true) (h : writeBytes i = some (p, fr, code, args)) (s : State) :
    effect i s = s ∨ (∃ r, writeChecks p code fr s = some r ∧ effect i s = endWriting p code fr r s)
      ∨ (s.atCommand p = true ∧ writeChecks p code fr s = none
          ∧ effect i s = endWriting p code fr (ownOf i s).1 (ownOf i s).2) := by
  rw [effect_of_exec (exec_of_writeBytes hwf h s)]
  cases hat : s.atCommand p with
  | false => exact .inl (takeWrite_elsewhere _ _ _ hat)
  | true =>
    cases hr : writeChecks p code fr s with
    | some r => exact .inr (.inl ⟨r, rfl, takeWrite_refused _ hat hr⟩)
    | none => exact .inr (.inr ⟨rfl, rfl, takeWrite_passed _ hat hr⟩)

theorem storeOrRange_cases (p : Port) (i : Option StoreItem) (s : State) :
    (storeOrRange p i s).2 = s ∨ ∃ x, (storeOrRange p i s).2 = startWrite p x s := by
  cases i with
  | none => exact .inl rfl
  | some x => exact .inr ⟨x, rfl⟩

/-- A store write behind the check of STORE_BUSY. -/
theorem checkBusy_cases {p : Port} {own : State → Judged} {s : State}
    (h : (own s).2 = s ∨ ∃ x, (own s).2 = startWrite p x s) :
    (checkThen s.storeBusy .busy own s).2 = s
      ∨ (s.store.writing = none ∧ ∃ x, (checkThen s.storeBusy .busy own s).2 = startWrite p x s) := by
  unfold checkThen State.storeBusy
  cases hw : s.store.writing with
  | some w => exact .inl rfl
  | none => exact h.imp id fun hx => ⟨rfl, hx⟩

/-! ### The Customer Port (O16) -/

/-- `t` differs from `s` in the Customer Port and the write in flight alone. -/
def State.CustomerReach (s t : State) : Prop := ∃ x w, t = (s.setCust x).setStore { s.store with writing := w }

theorem State.CustomerReach.of_setCust (s : State) (x : PortState) : s.CustomerReach (s.setCust x) := ⟨x, s.store.writing, rfl⟩

theorem State.CustomerReach.refl (s : State) : s.CustomerReach s := ⟨s.cust, s.store.writing, rfl⟩

theorem State.CustomerReach.endWriting {s t : State} (h : s.CustomerReach t) (code : Byte) (fr : Framing) (r : Result) :
    s.CustomerReach (endWriting .customer code fr r t) := by
  obtain ⟨x, w, rfl⟩ := h
  exact ⟨_, w, rfl⟩

/-- A command accepted on the Customer Port is one of that port, or Write Limit, which begins a store write (R160). -/
theorem ownOf_customerReach {i : Instr} {fr : Framing} {code : Byte} {args : List Byte}
    (h : writeBytes i = some (.customer, fr, code, args)) (hacc : acceptedOn code .customer = true) (s : State) :
    s.CustomerReach (ownOf i s).2 := by
  cases i
  case enableWrite => obtain ⟨rfl, rfl, rfl, rfl⟩ := h; exact .of_setCust s _
  case disableWrite => obtain ⟨rfl, rfl, rfl, rfl⟩ := h; exact .of_setCust s _
  case attentionEnable => obtain ⟨rfl, rfl, rfl, rfl⟩ := h; exact .of_setCust s _
  case setEventMask => obtain ⟨rfl, rfl, rfl, rfl⟩ := h; exact .of_setCust s _
  case writeLimit p fr a =>
    obtain ⟨rfl, rfl, rfl, rfl⟩ := h
    obtain hsame | ⟨-, x, hx⟩ := checkBusy_cases (storeOrRange_cases .customer (limitItem a) s)
    · exact hsame.symm ▸ .refl s
    · exact hx.symm ▸ ⟨s.cust, _, rfl⟩
  case unknownCommand => exact .refl s
  all_goals first | (obtain ⟨rfl, rfl, rfl, rfl⟩ := h; exact absurd hacc (by decide)) | cases h

/-- Settles O16: what is accepted on the Customer Port acts on that port, or begins a Write Limit. -/
theorem customerPortLeavesBilling : Obligations.CustomerPortLeavesBilling := by
  unfold Obligations.CustomerPortLeavesBilling
  intro c s t hp h
  obtain rfl := effect_of_exec h
  have hreach : s.CustomerReach (effect c s) := by
    obtain ⟨x, -, hx⟩ | ⟨i, fr, code, args, hi, hwf, heq, -⟩ := effect_port_cases hp s
    · exact hx.symm ▸ .of_setCust s x
    · rw [heq]
      obtain hsame | ⟨r, -, hend⟩ | ⟨-, hchecks, hend⟩ := effect_write_cases hwf hi s
      · exact hsame.symm ▸ .refl s
      · exact hend.symm ▸ (State.CustomerReach.refl s).endWriting _ _ _
      · obtain ⟨-, hacc, -⟩ := writeChecks_none hchecks
        exact hend.symm ▸ (ownOf_customerReach hi hacc s).endWriting _ _ _
  obtain ⟨x, w, hx⟩ := hreach
  rw [hx]
  rfl

/-! ### The store (O15) -/

/-- The armed schedule of one store is the active one of another, with none pending. -/
def Store.ActivatedTo (x y : Store) : Prop := ∃ tables day, x.pendSched = .armed tables day ∧ y.active = tables ∧ y.pendSched = .none

/-- The schedule of one store is that of another, or its armed one activated there. -/
def Store.ScheduledTo (x y : Store) : Prop :=
  (y.active = x.active ∧ y.pendSched = x.pendSched) ∨ x.ActivatedTo y

theorem Store.ScheduledTo.trans {x y z : Store} (h : x.ScheduledTo y) (h' : y.ScheduledTo z) : x.ScheduledTo z := by
  obtain ⟨ha, hp⟩ | ⟨tables, day, harmed, ha, hp⟩ := h
  · obtain ⟨ha', hp'⟩ | ⟨tables, day, harmed, ha', hp'⟩ := h'
    · exact .inl ⟨ha'.trans ha, hp'.trans hp⟩
    · exact .inr ⟨tables, day, hp ▸ harmed, ha', hp'⟩
  · obtain ⟨ha', hp'⟩ | ⟨tables', day', harmed', -, -⟩ := h'
    · exact .inr ⟨tables, day, harmed, ha'.trans ha, hp'.trans hp⟩
    · exact absurd (hp.symm.trans harmed') (by simp)

/-- Nothing of the store changes but by the activation of an armed schedule. -/
structure Store.HeldTo (x y : Store) : Prop where
  config : y.config = x.config
  writing : y.writing = x.writing
  closeDates : y.closeDates = x.closeDates
  schedule : x.ScheduledTo y

theorem Store.HeldTo.of_eq {x y : Store} (h : y = x) : x.HeldTo y := h ▸ ⟨rfl, rfl, rfl, .inl ⟨rfl, rfl⟩⟩

theorem Store.HeldTo.trans {x y z : Store} (h : x.HeldTo y) (h' : y.HeldTo z) : x.HeldTo z :=
  ⟨h'.config.trans h.config, h'.writing.trans h.writing, h'.closeDates.trans h.closeDates, h.schedule.trans h'.schedule⟩

theorem activateSchedule_heldTo {s : State} {tables : Tables} {day : Nat} (h : s.store.pendSched = .armed tables day) :
    s.store.HeldTo (activateSchedule s).store :=
  ⟨activateSchedule_store_config s, activateSchedule_store_writing s, activateSchedule_store_closeDates s,
    .inr ⟨tables, day, h, activateSchedule_active h, activateSchedule_pendSched s⟩⟩

theorem closeWith_heldTo {between : State → State} (h : ClockOnly between) (cause : StatusSet) (stop start : Instant)
    (s : State) : s.store.HeldTo (closeWith cause stop between start s).store := by
  have hstore : (between (takeClose cause stop s)).store = s.store := by rw [h.store, takeClose_store]
  rw [closeWith_store, ← hstore]
  unfold activateAtStart
  split
  next hact =>
    obtain ⟨tables, day, harmed⟩ := armed_of_activationAtStart hact
    exact activateSchedule_heldTo harmed
  next => exact .of_eq rfl

theorem Move.heldTo {s t : State} (h : Move .beside s t) : s.store.HeldTo t.store := by
  cases h with
  | beside h => exact .of_eq h.store
  | close cause stop => exact closeWith_heldTo clockOnly_id ..
  | closeAt cause new _ => exact closeWith_heldTo (clockOnly_setInstant new) ..
  | log b _ => exact .of_eq (logRecord_store b s)
  | completeClear => exact .of_eq (completeClear_store s)
  | activate tables day h => exact activateSchedule_heldTo h
  | latch p _ => exact .of_eq (State.setPort_store ..)
  | hold => exact .of_eq (enterHold_store s)
  | load | arm | cancel | dates | begin | done | setting | limit | lockMode | lockChannel => contradiction
  | _ => exact .of_eq rfl

theorem Moves.heldTo {s t : State} (h : Moves .beside s t) : s.store.HeldTo t.store :=
  h.keeps (I := fun u => s.store.HeldTo u.store) (fun _ _ hmove hs => hs.trans hmove.heldTo) (.of_eq rfl)

/-- Outside the rows of a port the schedule changes by an activation alone. -/
theorem Move.scheduledTo {s t : State} (h : Move .completion s t) : s.store.ScheduledTo t.store := by
  cases h with
  | beside h => exact (Store.HeldTo.of_eq h.store).schedule
  | close cause stop => exact (closeWith_heldTo clockOnly_id ..).schedule
  | closeAt cause new _ => exact (closeWith_heldTo (clockOnly_setInstant new) ..).schedule
  | log b _ => exact (Store.HeldTo.of_eq (logRecord_store b s)).schedule
  | completeClear => exact (Store.HeldTo.of_eq (completeClear_store s)).schedule
  | activate tables day h => exact (activateSchedule_heldTo h).schedule
  | latch p _ => exact (Store.HeldTo.of_eq (State.setPort_store ..)).schedule
  | hold => exact (Store.HeldTo.of_eq (enterHold_store s)).schedule
  | load | arm | cancel | begin => contradiction
  | _ => exact .inl ⟨rfl, rfl⟩

theorem Moves.scheduledTo {s t : State} (h : Moves .completion s t) : s.store.ScheduledTo t.store :=
  h.keeps (I := fun u => s.store.ScheduledTo u.store) (fun _ _ hmove hs => hs.trans hmove.scheduledTo) (.inl ⟨rfl, rfl⟩)

/-- What a row of a port does to the store: nothing but an activation, a store write begun, a schedule armed, or the
pending tables cancelled. -/
inductive RowStore (i : Instr) (p : Port) (x : Store) : Store → Prop
  | held {y : Store} (h : x.HeldTo y) : RowStore i p x y
  | begun (item : StoreItem) (h : x.writing = none) : RowStore i p x { x with writing := some ⟨p, item⟩ }
  | armed (fr : Framing) (a : BitVec 16) (tables : Tables) (day : Nat) (hi : i = .activateSchedule p fr a)
      (h : x.pendSched = .loading tables) :
      RowStore i p x { x with pendSched := .armed tables day }
  | cancelled (fr : Framing) (hi : i = .cancelPending p fr) (h : x.writing = none) : RowStore i p x { x with pendSched := .none }

theorem rowStore_of_write {i : Instr} {p : Port} {s t : State}
    (h : t = s ∨ (s.store.writing = none ∧ ∃ x, t = startWrite p x s)) : RowStore i p s.store t.store := by
  obtain rfl | ⟨hw, x, rfl⟩ := h
  · exact .held (.of_eq rfl)
  · exact .begun x hw

theorem pendingWrite_cases {p : Port} {own : State → Judged} {s : State}
    (h : (own s).2 = s ∨ ∃ x, (own s).2 = startWrite p x s) :
    (pendingWrite own s).2 = s ∨ (s.store.writing = none ∧ ∃ x, (pendingWrite own s).2 = startWrite p x s) := by
  unfold pendingWrite
  rw [checkThen]
  split
  · exact .inl rfl
  · exact checkBusy_cases h

theorem storeBusy_eq_false {s : State} (h : ¬ s.storeBusy = true) : s.store.writing = none := by
  simpa [State.storeBusy] using h

theorem ownWriteCloseDateQuad_cases (p : Port) (start : Byte) (days : Four (BitVec 16)) (s : State) :
    (ownWriteCloseDateQuad p start days s).2 = s
      ∨ (s.store.writing = none ∧ ∃ x, (ownWriteCloseDateQuad p start days s).2 = startWrite p x s) := by
  unfold ownWriteCloseDateQuad
  split_ifs with _ hbusy
  · exact .inl rfl
  · exact .inl rfl
  · exact .inl rfl
  · exact .inr ⟨storeBusy_eq_false hbusy, _, rfl⟩

theorem ownWriteConfigItem_cases (p : Port) (n : BitVec 16) (value : BitVec 32) (s : State) :
    (ownWriteConfigItem p n value s).2 = s
      ∨ (s.store.writing = none ∧ ∃ x, (ownWriteConfigItem p n value s).2 = startWrite p x s) := by
  unfold ownWriteConfigItem
  split_ifs with hbusy
  · exact .inl rfl
  · split
    · exact .inl rfl
    · unfold writeItem
      split_ifs
      · exact .inl rfl
      · exact .inl rfl
      · exact (storeOrRange_cases ..).imp id fun hx => ⟨storeBusy_eq_false hbusy, hx⟩

theorem ownLockCalibration_cases (p : Port) (channel : Byte) (s : State) :
    (ownLockCalibration p channel s).2 = s
      ∨ (s.store.writing = none ∧ ∃ x, (ownLockCalibration p channel s).2 = startWrite p x s) := by
  unfold ownLockCalibration
  split
  · exact .inl rfl
  · unfold lockChannel
    split_ifs with _ hbusy
    · exact .inl rfl
    · exact .inl rfl
    · exact .inr ⟨storeBusy_eq_false hbusy, _, rfl⟩

theorem ownActivateSchedule_rowStore (p : Port) (fr : Framing) (day : BitVec 16) (s : State) :
    RowStore (.activateSchedule p fr day) p s.store (ownActivateSchedule day s).2.store := by
  unfold ownActivateSchedule checkThen
  split
  · exact .held (.of_eq rfl)
  · unfold armSchedule
    split
    next => exact .held (.of_eq rfl)
    next tables hload =>
      split
      · exact .armed fr day tables _ rfl hload
      · exact .held (.of_eq rfl)
    next => exact .held (.of_eq rfl)

/-- The own step of a row that reaches the store by an activation at most. -/
theorem ownOf_heldTo {i : Instr} (hr : reachOf i = .beside) {s : State} (hhold : s.sup.hold = false) :
    s.store.HeldTo (ownOf i s).2.store := by
  have hmoves := ownOf_moves i hhold
  rw [hr] at hmoves
  exact hmoves.heldTo

/-- The store after the own step of a row outside Hold. -/
theorem ownOf_rowStore {i : Instr} {p : Port} {fr : Framing} {code : Byte} {args : List Byte}
    (h : writeBytes i = some (p, fr, code, args)) {s : State} (hhold : s.sup.hold = false) :
    RowStore i p s.store (ownOf i s).2.store := by
  cases i
  case writeSwitchQuad => obtain ⟨rfl, rfl, rfl, rfl⟩ := h; exact rowStore_of_write (pendingWrite_cases (storeOrRange_cases ..))
  case writeHolidayQuad => obtain ⟨rfl, rfl, rfl, rfl⟩ := h; exact rowStore_of_write (pendingWrite_cases (storeOrRange_cases ..))
  case writeWeekTable => obtain ⟨rfl, rfl, rfl, rfl⟩ := h; exact rowStore_of_write (pendingWrite_cases (storeOrRange_cases ..))
  case writeCloseDateQuad => obtain ⟨rfl, rfl, rfl, rfl⟩ := h; exact rowStore_of_write (ownWriteCloseDateQuad_cases ..)
  case writeLimit => obtain ⟨rfl, rfl, rfl, rfl⟩ := h; exact rowStore_of_write (checkBusy_cases (storeOrRange_cases ..))
  case writeConfigItem => obtain ⟨rfl, rfl, rfl, rfl⟩ := h; exact rowStore_of_write (ownWriteConfigItem_cases ..)
  case setLockMode => obtain ⟨rfl, rfl, rfl, rfl⟩ := h; exact rowStore_of_write (checkBusy_cases (storeOrRange_cases ..))
  case lockCalibration => obtain ⟨rfl, rfl, rfl, rfl⟩ := h; exact rowStore_of_write (ownLockCalibration_cases ..)
  case activateSchedule => obtain ⟨rfl, rfl, rfl, rfl⟩ := h; exact ownActivateSchedule_rowStore ..
  case cancelPending q fr' =>
    obtain ⟨rfl, rfl, rfl, rfl⟩ := h
    show RowStore _ _ s.store (checkThen s.storeBusy .busy _ s).2.store
    unfold checkThen
    split
    · exact .held (.of_eq rfl)
    next hbusy => exact .cancelled _ rfl (storeBusy_eq_false hbusy)
  all_goals first | exact .held (ownOf_heldTo rfl hhold) | cases h

/-- Every class of write-class code but PORT needs the latch. -/
theorem latch_of_writeChecks {p : Port} {code : Byte} {fr : Framing} {s : State} (h : writeChecks p code fr s = none)
    (hcode : needsLatch code = true) : (s.port p).latch = true :=
  have ⟨_, _, _, hlatch, _⟩ := writeChecks_none h
  hlatch hcode

/-- A row that does more to the store than an activation is one that needs the latch (R160). -/
theorem heldTo_or_needsLatch {i : Instr} {p : Port} {fr : Framing} {code : Byte} {args : List Byte}
    (h : writeBytes i = some (p, fr, code, args)) {s : State} (hhold : s.sup.hold = false) :
    s.store.HeldTo (ownOf i s).2.store ∨ needsLatch code = true := by
  cases i
  case enableWrite => exact .inl (ownOf_heldTo rfl hhold)
  case disableWrite => exact .inl (ownOf_heldTo rfl hhold)
  case attentionEnable => exact .inl (ownOf_heldTo rfl hhold)
  case setEventMask => exact .inl (ownOf_heldTo rfl hhold)
  case resetEnable => exact .inl (ownOf_heldTo rfl hhold)
  case unknownCommand => exact .inl (ownOf_heldTo rfl hhold)
  all_goals first | (obtain ⟨rfl, rfl, rfl, rfl⟩ := h; exact .inr (by decide)) | cases h

/-- The commands of the pending schedule are the Utility Port's (R160). -/
theorem utility_of_acceptedOn {code : Byte} (h : code = 0x46 ∨ code = 0x47) {p : Port} (hacc : acceptedOn code p = true) :
    p = .utility := by
  obtain rfl | rfl := h
  · cases p
    · rfl
    · exact absurd hacc (by decide)
  · cases p
    · rfl
    · exact absurd hacc (by decide)

/-- What O15 says of a command that takes one state to another. -/
def LatchGuards (c : Instr) (s t : State) : Prop :=
  (∀ w, t.store.writing = some w → s.store.writing = some w ∨
      (s.store.writing = none ∧ portOf c = some w.port ∧ (s.port w.port).latch = true ∧ s.sup.hold = false))
    ∧ (t.config = s.config ∨ (c = .storeCompletion ∧ s.store.writing ≠ none) ∨
        (s.config.lockMode = .powerLocked ∧ t.config = { s.config with lockMode := .guarded }
          ∧ ∃ lv, c = .coldStart lv ∨ c = .warmStart lv))
    ∧ (t.store.closeDates = s.store.closeDates ∨ (c = .storeCompletion ∧ s.store.writing ≠ none))
    ∧ (t.store.active = s.store.active ∨
        ∃ tables day, s.store.pendSched = .armed tables day ∧ t.store.active = tables)
    ∧ (t.store.pendSched = s.store.pendSched
        ∨ (t.store.pendSched = .none ∧
            ((∃ tables day, s.store.pendSched = .armed tables day ∧ t.store.active = tables)
              ∨ (s.TakesOperation .utility ∧ s.store.writing = none
                  ∧ (c = .cancelPending .utility .whole ∨ ∃ d f, c = .selectRise .utility [0x47] 0 d f))))
        ∨ (c = .storeCompletion ∧ s.store.writing ≠ none ∧ ∃ tables, t.store.pendSched = .loading tables)
        ∨ (s.util.latch = true ∧
            ∃ tables day, s.store.pendSched = .loading tables ∧ t.store.pendSched = .armed tables day))

section
variable {s t : State} {c : Instr}

theorem Store.ScheduledTo.active (h : s.store.ScheduledTo t.store) : t.store.active = s.store.active ∨
    ∃ tables day, s.store.pendSched = .armed tables day ∧ t.store.active = tables :=
  h.imp And.left fun ⟨tables, day, harmed, ha, _⟩ => ⟨tables, day, harmed, ha⟩

theorem Store.ScheduledTo.pendSched (h : s.store.ScheduledTo t.store) : t.store.pendSched = s.store.pendSched ∨
    (t.store.pendSched = .none ∧ ∃ tables day, s.store.pendSched = .armed tables day ∧ t.store.active = tables) :=
  h.imp And.right fun ⟨tables, day, harmed, ha, hp⟩ => ⟨hp, tables, day, harmed, ha⟩

theorem LatchGuards.of_heldTo (h : s.store.HeldTo t.store) : LatchGuards c s t :=
  ⟨fun _ hw => .inl (h.writing.symm.trans hw), .inl h.config, .inl h.closeDates, h.schedule.active,
    h.schedule.pendSched.imp id fun ⟨hp, ha⟩ => .inl ⟨hp, .inl ha⟩⟩

/-- A row that has passed its checks keeps to what the latch guards. -/
theorem LatchGuards.of_rowStore {i : Instr} {p : Port} {fr : Framing} {code : Byte} {args : List Byte}
    (hi : writeBytes i = some (p, fr, code, args)) (hport : portOf c = some p) (hat : s.atCommand p = true)
    (hchecks : writeChecks p code fr s = none) (ht : t.store = (ownOf i s).2.store)
    (hcancel : ∀ q, i = .cancelPending q .whole → c = i ∨ ∃ d b, c = .selectRise q [0x47] 0 d b) : LatchGuards c s t := by
  obtain ⟨hfr, hacc, hhold, hlatch, -⟩ := writeChecks_none hchecks
  obtain hheld | hneeds := heldTo_or_needsLatch hi hhold
  · exact .of_heldTo (ht ▸ hheld)
  have hset := hlatch hneeds
  have hrow := ownOf_rowStore hi hhold
  rw [← ht] at hrow
  generalize hy : t.store = y at hrow
  have hconfig : t.config = y.config := congrArg Store.config hy
  unfold LatchGuards
  rw [hconfig, hy]
  cases hrow with
  | held h => exact LatchGuards.of_heldTo (t := s.setStore y) h
  | begun item hw =>
    refine ⟨fun w hwrite => .inr ⟨hw, ?_⟩, .inl rfl, .inl rfl, .inl rfl, .inl rfl⟩
    obtain rfl := Option.some.inj hwrite
    exact ⟨hport, hset, hhold⟩
  | armed fr' a tables day hact h =>
    subst hact
    obtain ⟨-, -, rfl, -⟩ := hi
    obtain rfl := utility_of_acceptedOn (.inl rfl) hacc
    exact ⟨fun w hwrite => .inl hwrite, .inl rfl, .inl rfl, .inl rfl, .inr (.inr (.inr ⟨hset, tables, day, h, rfl⟩))⟩
  | cancelled fr' hcan h =>
    subst hcan
    obtain ⟨rfl, rfl, rfl, -⟩ := hi
    obtain rfl := utility_of_acceptedOn (.inr rfl) hacc
    subst hfr
    obtain ⟨hmain, htx⟩ := Bool.and_eq_true_iff.mp hat
    have htakes : s.TakesOperation .utility := ⟨⟨⟨hmain, eq_of_beq htx⟩, hhold⟩, hset⟩
    exact ⟨fun w hwrite => .inl hwrite, .inl rfl, .inl rfl, .inl rfl,
      .inr (.inl ⟨rfl, .inr ⟨htakes, h, hcancel .utility rfl⟩⟩)⟩

/-- A command of a port keeps to what the latch guards. -/
theorem latchGuards_of_port {p : Port} (hp : portOf c = some p) (s : State) : LatchGuards c s (effect c s) := by
  obtain ⟨x, -, hx⟩ | ⟨i, fr, code, args, hi, hwf, heq, hcancel⟩ := effect_port_cases hp s
  · rw [hx]
    exact .of_heldTo (.of_eq (State.setPort_store ..))
  · rw [heq]
    obtain hsame | ⟨r, -, hend⟩ | ⟨hat, hchecks, hend⟩ := effect_write_cases hwf hi s
    · rw [hsame]
      exact .of_heldTo (.of_eq rfl)
    · rw [hend]
      exact .of_heldTo (.of_eq (endWriting_store ..))
    · rw [hend]
      exact .of_rowStore hi hp hat hchecks (endWriting_store ..) hcancel

theorem Start.store {s' : State} (h : Start c s s') (hc : ∀ lv, c ≠ .coldStart lv) : s'.store = s.store := by
  cases h with
  | cold lv h => exact absurd h (hc lv)
  | _ => rfl

/-- A start that reverts POWER_LOCKED and abandons the write in flight keeps to what the latch guards (R165, R186). -/
theorem LatchGuards.of_start (hc : ∃ lv, c = .coldStart lv ∨ c = .warmStart lv) (hw : t.store.writing = none)
    (hcfg : t.config = if s.config.lockMode = .powerLocked then { s.config with lockMode := .guarded } else s.config)
    (hd : t.store.closeDates = s.store.closeDates) (hs : s.store.ScheduledTo t.store) : LatchGuards c s t := by
  refine ⟨fun w hwrite => absurd (hw.symm.trans hwrite) (by simp), ?_, .inl hd, hs.active,
    hs.pendSched.imp id fun ⟨hp, ha⟩ => .inl ⟨hp, .inl ha⟩⟩
  by_cases hlock : s.config.lockMode = .powerLocked
  · exact .inr (.inr ⟨hlock, hcfg.trans (if_pos hlock), hc⟩)
  · exact .inl (hcfg.trans (if_neg hlock))

theorem coldStarted_latchGuards (lv : PinLevels) (s : State) : LatchGuards (.coldStart lv) s (coldStarted lv s) := by
  have hsched : s.store.ScheduledTo (coldStarted lv s).store :=
    Moves.scheduledTo (s := coldBlocks lv s) (coldStarted_moves lv s)
  exact .of_start ⟨lv, .inl rfl⟩ (by simp [coldStarted, coldBlocks]) (by simp [coldStarted, coldBlocks, State.config])
    (by simp [coldStarted, coldBlocks]) hsched

theorem revertLock_config (s : State) : (revertLock s).config
    = if s.config.lockMode = .powerLocked then { s.config with lockMode := .guarded } else s.config := by
  unfold revertLock
  split_ifs <;> rfl

theorem revertLock_writing (s : State) : (revertLock s).store.writing = s.store.writing := by
  unfold revertLock
  split_ifs <;> rfl

theorem warmBlocks_store (lv : PinLevels) (s : State) : (warmBlocks lv s).store = (revertLock (abandonWrite s)).store := by
  simp [warmBlocks_eq, wakeUp]

theorem warmStarted_latchGuards (lv : PinLevels) (s : State) : LatchGuards (.warmStart lv) s (warmStarted lv s) := by
  have hsched : s.store.ScheduledTo (warmStarted lv s).store := (warmStarted_moves lv s).scheduledTo
  have hconfig : (warmStarted lv s).store.config = (revertLock (abandonWrite s)).store.config := by
    simp [warmStarted, warmBlocks_store]
  have hwriting : (warmStarted lv s).store.writing = none := by
    simp only [warmStarted, requestLateClose_store, recordOutage_store, resumeSub_store_writing, finishClear_store,
      warmBlocks_store, revertLock_writing]
    rfl
  exact .of_start ⟨lv, .inr rfl⟩ hwriting (hconfig.trans (revertLock_config _)) (warmStarted_store_closeDates lv s) hsched

/-- A completion of a store write: pending tables become LOADING, or the schedule changes by an activation alone. -/
theorem commitItem_schedule {p : Port} {i : StoreItem} (hw : s.store.writing = some ⟨p, i⟩) :
    s.store.ScheduledTo (commitItem i s).store
      ∨ ((commitItem i s).store.active = s.store.active ∧ ∃ tables, (commitItem i s).store.pendSched = .loading tables) := by
  cases i with
  | setting v => exact .inl (commitSetting_moves hw).scheduledTo
  | limit k l => exact .inl (applyLimit_moves hw).scheduledTo
  | lockMode m => exact .inl (commitLockMode_moves hw).scheduledTo
  | closeDates l => exact .inl (.inl ⟨rfl, rfl⟩)
  | calibrationLock c => exact .inl (.inl ⟨rfl, rfl⟩)
  | switchQuad d start entries => exact .inr ⟨rfl, _, rfl⟩
  | holidayQuad start days => exact .inr ⟨rfl, _, rfl⟩
  | weekTable types => exact .inr ⟨rfl, _, rfl⟩

/-- The store after a completion: what the item's commit leaves, with no write in flight. -/
theorem completeStore_store (w : StoreWrite) (s : State) :
    (completeStore w s).store = { (commitItem w.item s).store with writing := none } := by
  unfold completeStore
  dsimp only
  split <;> simp

theorem storeCompletion_latchGuards (s : State) : LatchGuards .storeCompletion s (storeCompletion s) := by
  unfold storeCompletion
  split
  next w hw =>
    have hne : s.store.writing ≠ none := by simp [hw]
    have hstore := completeStore_store w s
    have hguard := commitItem_schedule (p := w.port) (i := w.item) hw
    refine ⟨fun x hx => absurd (hstore ▸ hx) (by simp), .inr (.inl ⟨rfl, hne⟩), .inr ⟨rfl, hne⟩, ?_, ?_⟩
    · rw [hstore]
      obtain h | ⟨ha, -⟩ := hguard
      · exact h.active
      · exact .inl ha
    · rw [hstore]
      obtain h | ⟨-, hp⟩ := hguard
      · exact h.pendSched.imp id fun ⟨hp, ha⟩ => .inl ⟨hp, .inl ha⟩
      · exact .inr (.inr (.inl ⟨rfl, hne, hp⟩))
  next => exact .of_heldTo (.of_eq rfl)

/-- Settles O15: by the ports' commands, the starts, the store completion, and all others, which change the store by
an activation at most. -/
theorem changesNeedTheLatch : Obligations.ChangesNeedTheLatch := by
  unfold Obligations.ChangesNeedTheLatch
  intro c s t h
  obtain rfl := effect_of_exec h
  show LatchGuards c s (effect c s)
  have same : LatchGuards c s s := .of_heldTo (.of_eq rfl)
  cases hp : portOf c with
  | some p => exact latchGuards_of_port hp s
  | none =>
    have held : c ≠ .storeCompletion → (∀ lv, c ≠ .coldStart lv) → reachOf c = .beside → LatchGuards c s (effect c s) := by
      intro hc hcold hreach
      obtain ⟨s', hstart, hmoves⟩ := effect_moves_of_no_port hp hc s
      rw [hreach] at hmoves
      exact .of_heldTo (hstart.store hcold ▸ hmoves.heldTo)
    cases c
    case storeCompletion =>
      show LatchGuards _ s (whileRunning storeCompletion s)
      unfold whileRunning
      split
      · exact storeCompletion_latchGuards s
      · exact same
    case coldStart lv =>
      show LatchGuards _ s (if !s.running && !s.sup.retentionValid then coldStarted lv s else s)
      split
      · exact coldStarted_latchGuards lv s
      · exact same
    case warmStart lv =>
      show LatchGuards _ s (if !s.running && s.sup.retentionValid then warmStarted lv s else s)
      split
      · exact warmStarted_latchGuards lv s
      · exact same
    all_goals first | exact held nofun nofun rfl | cases hp

end

end Sys2Proof.Machine
end

section
/-! PROOFS. The cold start (R187), and the reset state. -/

namespace Sys2Proof.Machine

open Sys2Proof

theorem exec_coldStart {lv : PinLevels} {s : State} (hmain : s.sup.mainSupply = false) (hret : s.sup.retentionValid = false) :
    exec (.coldStart lv) s = .next (coldStarted lv s) := by
  have hcond : (!s.running && !s.sup.retentionValid) = true := by simp [State.running, hmain, hret]
  exact congrArg Host.Outcome.next (if_pos hcond)

/-- The blocks of a cold start with the Limit Monitor's start values (R158, R187). -/
def coldMonitored (lv : PinLevels) (s : State) : State := monitorStarted (coldBlocks lv s)

/-- Without a schedule armed for day 0 a cold start places the first sub-interval, and no more. -/
theorem coldStarted_of_none {lv : PinLevels} {s : State} (h : ∀ tables, s.store.pendSched ≠ .armed tables 0) :
    coldStarted lv s = placeSub .zero (coldMonitored lv s) := by
  have hact : (coldMonitored lv s).activationAtStart = none := by
    unfold State.activationAtStart
    show (match s.store.pendSched with | .armed _ day => if day ≤ 0 then some day else none | _ => none) = none
    cases hp : s.store.pendSched with
    | armed tables day =>
      have : day ≠ 0 := fun hday => h tables (hday ▸ hp)
      exact if_neg (by omega)
    | _ => rfl
  show scheduleMarker (coldMonitored lv s).activationAtStart (placeSub .zero (activateAtStart (coldMonitored lv s))) = _
  unfold activateAtStart
  rw [hact]
  rfl

/-- A schedule armed for day 0 becomes active before the first sub-interval is placed, with its marker after (R39). -/
theorem coldStarted_of_armed {lv : PinLevels} {s : State} {tables : Tables} (h : s.store.pendSched = .armed tables 0) :
    coldStarted lv s = logMarker .schedule [0] (placeSub .zero (activateSchedule (coldMonitored lv s))) := by
  have hact : (coldMonitored lv s).activationAtStart = some 0 := by
    unfold State.activationAtStart
    show (match s.store.pendSched with | .armed _ day => if day ≤ 0 then some day else none | _ => none) = some 0
    rw [h]
    rfl
  show scheduleMarker (coldMonitored lv s).activationAtStart (placeSub .zero (activateAtStart (coldMonitored lv s))) = _
  unfold activateAtStart
  rw [hact]
  rfl

theorem reverted_eq (cfg : Config) : (if cfg.lockMode = .powerLocked then { cfg with lockMode := .guarded } else cfg)
    = { cfg with lockMode := if cfg.lockMode = .powerLocked then .guarded else cfg.lockMode } := by
  split_ifs <;> rfl

/-- With no channel STALLED and no TIME_VALID a sub-interval opens with NOTIME alone (R49). -/
theorem openingStatus_of_invalid {s : State} (hchans : ∀ c, (s.chans.get c).state ≠ .stalled)
    (htime : s.clock.timeValid = false) (f : StatusFlag) : (openingStatus s).has f = true ↔ f = .noTime := by
  rw [openingStatus_has]
  exact ⟨fun h => h.elim And.left fun ⟨_, d, hd⟩ => absurd hd (hchans d), fun h => .inl ⟨h, htime⟩⟩

theorem coldMonitored_chans (lv : PinLevels) (s : State) (c : Fin 4) : ((coldMonitored lv s).chans.get c).state ≠ .stalled := by
  have hc : ((coldMonitored lv s).chans.get c).state
      = if ((coldBlocks lv s).config.channels.get c).enabled then .waiting else .off := by
    simp [coldMonitored, coldBlocks, State.config, Channel.cold]
  rw [hc]
  split_ifs <;> simp

/-- The projection of a start is held, as early where the fill, which is 0, is at least N − 1 (R149, R158). -/
theorem coldMonitored_source (lv : PinLevels) (s : State) :
    (coldMonitored lv s).lim.projection.source = if s.config.windowLen ≤ 1 then .heldEarly else .heldFill := by
  have hready : (coldBlocks lv s).fillReady = decide (s.config.windowLen ≤ 1) := by
    have hN : (coldBlocks lv s).config.windowLen = s.config.windowLen := by
      simp only [coldBlocks, State.config]
      split_ifs <;> rfl
    rw [State.fillReady, hN]
    exact decide_eq_decide.mpr (show s.config.windowLen - 1 ≤ 0 ↔ _ by omega)
  show (coldBlocks lv s).heldSource = _
  rw [State.heldSource, hready]
  simp

/-- A cold start leaves START_COLD pending and no other flag (R182). -/
theorem started_has (f : AttnFlag) : (AttentionUnit.started true).has f = true ↔ f = .startCold := by
  cases f <;> decide

/-- Settles O3: with a schedule armed for day 0 and without one, block by block. -/
theorem coldStartValues : Obligations.ColdStartValues := by
  unfold Obligations.ColdStartValues
  intro lv s hmain hret
  refine ⟨_, exec_coldStart hmain hret, ?_⟩
  have hsource := coldMonitored_source lv s
  have hchans := coldMonitored_chans lv s
  by_cases harmed : ∃ tables, s.store.pendSched = .armed tables 0
  · obtain ⟨tables, h⟩ := harmed
    have hstatus := openingStatus_of_invalid (s := activateSchedule (coldMonitored lv s))
      (by rwa [activateSchedule_chans]) rfl
    rw [coldStarted_of_armed h]
    unfold coldMonitored coldBlocks at *
    simp only [reverted_eq] at *
    refine ⟨rfl, rfl, rfl, rfl, rfl, rfl, rfl, rfl, hstatus, PerFour.get_map _ _, rfl, rfl, rfl, PerFour.get_map _ _, rfl, rfl,
      rfl, rfl, hsource, rfl, rfl, rfl, rfl, rfl, rfl, fun p => ?_, rfl, rfl, rfl, rfl, ?_⟩
    · cases p <;> exact ⟨rfl, rfl, rfl, rfl, rfl, rfl, rfl, rfl, rfl, rfl⟩
    · rw [h]
      refine ⟨rfl, rfl, rfl, rfl, fun p => ⟨by cases p <;> rfl, fun f => ?_⟩⟩
      have hattn : (((AttentionUnit.started true).raise .scheduleSwitched).has f = true
          ↔ f = .startCold ∨ f = .scheduleSwitched) := by
        rw [AttentionUnit.has_raise, Bool.or_eq_true, started_has]
        simp
      cases p <;> exact hattn
  · have hstatus := openingStatus_of_invalid hchans rfl
    rw [coldStarted_of_none fun tables h => harmed ⟨tables, h⟩]
    unfold coldMonitored coldBlocks at *
    simp only [reverted_eq] at *
    refine ⟨rfl, rfl, rfl, rfl, rfl, rfl, rfl, rfl, hstatus, PerFour.get_map _ _, rfl, rfl, rfl, PerFour.get_map _ _, rfl, rfl,
      rfl, rfl, hsource, rfl, rfl, rfl, rfl, rfl, rfl, fun p => ?_, rfl, rfl, rfl, rfl, ?_⟩
    · cases p <;> exact ⟨rfl, rfl, rfl, rfl, rfl, rfl, rfl, rfl, rfl, rfl⟩
    · split
      next tables h => exact absurd ⟨tables, h⟩ harmed
      next =>
        exact ⟨rfl, rfl, rfl, rfl, fun p => ⟨by cases p <;> rfl, fun f => by cases p <;> exact started_has f⟩⟩

/-! ### The reset state (O4) -/

theorem delivered_inRange : Config.delivered.InRange := by
  unfold Config.InRange Config.WindowInRange ChannelConfig.InRange LimitConfig.InRange BillSettings.InRange
  decide +kernel

theorem reset_safe : State.reset.Safe :=
  ⟨State.configSafe_of_idle delivered_inRange rfl,
    ⟨⟨by decide, by decide⟩, ⟨by decide, by decide⟩, ⟨by decide, by decide⟩⟩,
    fun _ => by decide,
    ⟨by decide, trivial⟩,
    ⟨rfl, fun w hw => nomatch hw⟩,
    ⟨rfl, rfl, fun r _ => by cases r <;> rfl⟩,
    State.ringSafe_of_empty rfl,
    ⟨Nat.zero_le _, List.Pairwise.nil, fun r hr => (nomatch hr), fun h => absurd h Bool.false_ne_true⟩,
    ProfileLog.cold_safe,
    ⟨fun h => absurd h Bool.false_ne_true, rfl, Nat.zero_le 3, Nat.zero_le 3, rfl⟩,
    fun c => by simp [State.reset, Channel.cold]⟩

/-- The first sub-interval of a part as delivered (R32, R45). -/
theorem delivered_nominalEnd : nominalEndOf Config.delivered .zero = ⟨0, 900⟩ := by decide

/-- Settles O4: the cold start overwrites all but the store, the queue and the count of free values drawn. -/
theorem resetIsFirstColdStart : Obligations.ResetIsFirstColdStart := by
  unfold Obligations.ResetIsFirstColdStart
  refine ⟨fun s hstore hpending hmain hret => ?_, reset_safe⟩
  rw [exec_coldStart hmain hret]
  obtain ⟨⟩ := s
  dsimp only at hstore hpending
  subst hstore hpending
  refine congrArg Host.Outcome.next (State.ext_fields rfl rfl ?_ rfl rfl rfl rfl rfl rfl rfl rfl rfl rfl rfl rfl rfl)
  show (⟨.zero, nominalEndOf Config.delivered .zero, 0, .r1, 0x2000⟩ : OpenSub) = _
  rw [delivered_nominalEnd]
  rfl

end Sys2Proof.Machine
end

section
/-! PROOFS. The Sample Link and the stall timers (R1 to R12): what a frame, a count and a stall do. -/

namespace Sys2Proof.Machine

open Sys2Proof

/-! ## Flags raised and marked beside channels and energies -/

/-- From `s` to `t` only channels change, the flags `raised` are raised in both units, and the flags `marked` are
marked in the open sub-interval. -/
structure State.Notes (s t : State) (raised : AttnFlag → Prop) (marked : StatusFlag → Prop) : Prop where
  raises : s.RaisedOnly t raised
  marks : ∀ f, t.sub.status.has f = true ↔ s.sub.status.has f = true ∨ marked f
  frame : t = { s with
    chans := t.chans, sub := { s.sub with status := t.sub.status }
    util := { s.util with attn := t.util.attn }, cust := { s.cust with attn := t.cust.attn } }

theorem State.raisedOnly_refl (s : State) : s.RaisedOnly s (fun _ => False) :=
  fun _ => ⟨rfl, rfl, fun _ => by simp⟩

theorem State.raisedOnly_raise (s : State) (f : AttnFlag) : s.RaisedOnly (s.raise f) (fun g => g = f) := fun p =>
  ⟨by cases p <;> rfl, by cases p <;> rfl, fun g => by simp [State.raise_has, or_comm]⟩

theorem State.RaisedOnly.trans {s t u : State} {a b : AttnFlag → Prop} (h : s.RaisedOnly t a) (h' : t.RaisedOnly u b) :
    s.RaisedOnly u (fun f => a f ∨ b f) := fun p =>
  ⟨(h' p).1.trans (h p).1, (h' p).2.1.trans (h p).2.1, fun f => by rw [(h' p).2.2, (h p).2.2, or_assoc]⟩

theorem State.RaisedOnly.congr {s t : State} {a b : AttnFlag → Prop} (h : s.RaisedOnly t a) (hab : ∀ f, a f ↔ b f) :
    s.RaisedOnly t b := fun p => ⟨(h p).1, (h p).2.1, fun f => by rw [(h p).2.2, hab]⟩

/-- Flags are raised in the units alone: what a state's two units are decides it. -/
theorem State.RaisedOnly.of_units {s t u : State} {a : AttnFlag → Prop} (h : s.RaisedOnly t a)
    (hu : ∀ p, (u.port p).attn = (t.port p).attn) : s.RaisedOnly u a := fun p => by rw [hu p]; exact h p

theorem State.Notes.setChan {s t : State} {a : AttnFlag → Prop} {m : StatusFlag → Prop} (h : s.Notes t a m) (c : Fin 4)
    (x : Channel) : s.Notes (t.setChan c x) a m :=
  ⟨h.raises.of_units fun p => by cases p <;> rfl, h.marks,
    congrArg (fun u : State => u.setChan c x) h.frame⟩

theorem State.notes_refl (s : State) : s.Notes s (fun _ => False) (fun _ => False) :=
  ⟨s.raisedOnly_refl, fun _ => by simp, rfl⟩

theorem State.notes_raise_markSub (s : State) (f : AttnFlag) (g : StatusFlag) :
    s.Notes ((s.raise f).markSub g) (fun f' => f' = f) (fun g' => g' = g) :=
  ⟨(s.raisedOnly_raise f).of_units fun p => by cases p <;> rfl,
    fun g' => by simp [StatusSet.has_mark, or_comm], rfl⟩

theorem State.notes_markSub (s : State) (g : StatusFlag) : s.Notes (s.markSub g) (fun _ => False) (fun g' => g' = g) :=
  ⟨s.raisedOnly_refl.of_units fun p => by cases p <;> rfl, fun g' => by simp [StatusSet.has_mark, or_comm], rfl⟩

theorem State.Notes.trans {s t u : State} {a b : AttnFlag → Prop} {m n : StatusFlag → Prop} (h : s.Notes t a m)
    (h' : t.Notes u b n) : s.Notes u (fun f => a f ∨ b f) (fun f => m f ∨ n f) := by
  refine ⟨h.raises.trans h'.raises, fun f => by rw [h'.marks, h.marks, or_assoc], ?_⟩
  have hu := h'.frame
  rw [h.frame] at hu
  exact hu

theorem State.Notes.congr {s t : State} {a b : AttnFlag → Prop} {m n : StatusFlag → Prop} (h : s.Notes t a m)
    (hab : ∀ f, a f ↔ b f) (hmn : ∀ f, m f ↔ n f) : s.Notes t b n :=
  ⟨h.raises.congr hab, fun f => by rw [h.marks, hmn], h.frame⟩

/-! ## Counts (R10 to R12) -/

/-- What a magnitude of a quantity does to a channel (R11): nothing when it is 0, and otherwise the conversion with
its residue, the cumulative energy wrapping and the partial saturating. -/
def Channel.Took (cfg : ChannelConfig) (q : Quantity) (m : Nat) (old new : Channel) : Prop :=
  (m = 0 → new.residue.get q = old.residue.get q ∧ new.cum.get q = old.cum.get q ∧ new.part.get q = old.part.get q)
  ∧ (0 < m → new.residue.get q = (convertCount cfg.k cfg.ss m (old.residue.get q)).2
      ∧ new.cum.get q = old.cum.get q + BitVec.ofNat 64 (convertCount cfg.k cfg.ss m (old.residue.get q)).1
      ∧ new.part.get q = satEnergy ((old.part.get q).toNat + (convertCount cfg.k cfg.ss m (old.residue.get q)).1))

theorem Channel.took_refl (cfg : ChannelConfig) (q : Quantity) (ch : Channel) : Channel.Took cfg q 0 ch ch :=
  ⟨fun _ => ⟨rfl, rfl, rfl⟩, fun h => absurd h (by decide)⟩

/-- A magnitude taken between two changes that leave the energies alone. -/
theorem Channel.Took.of_energies {cfg : ChannelConfig} {q : Quantity} {m : Nat} {old new new' : Channel}
    (h : Channel.Took cfg q m old new) (hr : new'.residue = new.residue) (hc : new'.cum = new.cum)
    (hp : new'.part = new.part) : Channel.Took cfg q m old new' := by
  unfold Channel.Took; rw [hr, hc, hp]; exact h

theorem Channel.accumulate_took (ch : Channel) (cfg : ChannelConfig) (q : Quantity) {m : Nat} (hm : 0 < m) :
    Channel.Took cfg q m ch (ch.accumulate cfg q m) :=
  ⟨fun h => absurd h hm.ne', fun _ => by simp [Channel.accumulate]⟩

theorem Channel.accumulate_took_other (ch : Channel) (cfg : ChannelConfig) {q r : Quantity} (m : Nat) (h : r ≠ q) :
    Channel.Took cfg r 0 ch (ch.accumulate cfg q m) :=
  ⟨fun _ => by simp [Channel.accumulate, Quad.get_set_other, h], fun h => absurd h (by decide)⟩

/-- A change of one quantity before or after a change of another does not meet it. -/
theorem Channel.Took.after {cfg : ChannelConfig} {q : Quantity} {m : Nat} {a b c : Channel}
    (h : Channel.Took cfg q m a b) (h' : Channel.Took cfg q 0 b c) : Channel.Took cfg q m a c := by
  obtain ⟨hr, hc, hp⟩ := h'.1 rfl
  unfold Channel.Took; rw [hr, hc, hp]; exact h

theorem Channel.Took.before {cfg : ChannelConfig} {q : Quantity} {m : Nat} {a b c : Channel}
    (h : Channel.Took cfg q 0 a b) (h' : Channel.Took cfg q m b c) : Channel.Took cfg q m a c := by
  obtain ⟨hr, hc, hp⟩ := h.1 rfl
  unfold Channel.Took; rw [← hr, ← hc, ← hp]; exact h'

/-- The magnitude a signed count feeds into the quantity of its sign (R10). -/
def countFeeds (pos neg : Quantity) (v : BitVec 16) (q : Quantity) : Nat :=
  if q = pos then v.toInt.toNat else if q = neg then min (-v.toInt).toNat 32767 else 0

/-- A channel hears and keeps what it heard: its energies alone are changed. -/
def Channel.SameLink (a b : Channel) : Prop := b.state = a.state ∧ b.timer = a.timer ∧ b.expected = a.expected

theorem addCount_notes (c : Fin 4) (q : Quantity) (m : Nat) (s : State) :
    s.Notes (addCount c q m s) (fun _ => False) (fun _ => False) := s.notes_refl.setChan c _

/-- A magnitude added: it goes to its quantity of its channel, and to nothing else. -/
theorem addCount_spec (c : Fin 4) (q : Quantity) {m : Nat} (hm : 0 < m) (s : State) :
    (∀ r, Channel.Took (s.config.channels.get c) r (if r = q then m else 0) (s.chans.get c) ((addCount c q m s).chans.get c))
      ∧ (s.chans.get c).SameLink ((addCount c q m s).chans.get c)
      ∧ (∀ d, d ≠ c → (addCount c q m s).chans.get d = s.chans.get d) := by
  have hnew : (addCount c q m s).chans.get c = (s.chans.get c).accumulate (s.config.channels.get c) q m := by
    simp only [addCount, State.setChan_chans, PerFour.get_set_same]
  rw [hnew]
  refine ⟨fun r => ?_, ⟨rfl, rfl, rfl⟩, fun d hd => ?_⟩
  · by_cases hr : r = q
    · subst hr; simpa using Channel.accumulate_took _ _ r hm
    · simpa [hr] using Channel.accumulate_took_other _ _ m hr
  · simp only [addCount, State.setChan_chans]
    exact PerFour.get_set_other _ _ hd

/-- Taking a count: the channel's quantities, the other channels, and the clipping of −32768. -/
theorem takeCount_spec (c : Fin 4) {pos neg : Quantity} (hne : neg ≠ pos) (v : BitVec 16) (s : State) :
    (∀ q, Channel.Took (s.config.channels.get c) q (countFeeds pos neg v q) (s.chans.get c)
        ((takeCount c pos neg v s).chans.get c))
      ∧ (s.chans.get c).SameLink ((takeCount c pos neg v s).chans.get c)
      ∧ (∀ d, d ≠ c → (takeCount c pos neg v s).chans.get d = s.chans.get d)
      ∧ s.Notes (takeCount c pos neg v s) (fun f => f = .countClip ∧ v.toInt = -32768)
          (fun f => f = .clip ∧ v.toInt = -32768) := by
  unfold takeCount
  split_ifs with h0 hpos hmin
  · have feeds : ∀ r, 0 = countFeeds pos neg v r := fun r => by simp [countFeeds, h0]
    exact ⟨fun q => feeds q ▸ Channel.took_refl _ _ _, ⟨rfl, rfl, rfl⟩, fun _ _ => rfl,
      s.notes_refl.congr (by simp [h0]) (by simp [h0])⟩
  · have feeds : ∀ r, (if r = pos then v.toInt.toNat else 0) = countFeeds pos neg v r := fun r => by
      unfold countFeeds; split_ifs <;> omega
    obtain ⟨htook, hlink, hother⟩ := addCount_spec c pos (m := v.toInt.toNat) (by omega) s
    have hmin : v.toInt ≠ -32768 := by omega
    exact ⟨fun q => feeds q ▸ htook q, hlink, hother, (addCount_notes ..).congr (by simp [hmin]) (by simp [hmin])⟩
  · have feeds : ∀ r, (if r = neg then 32767 else 0) = countFeeds pos neg v r := fun r => by
      unfold countFeeds; split_ifs with h1 h2 <;> simp_all
    obtain ⟨htook, hlink, hother⟩ := addCount_spec c neg (m := 32767) (by decide) ((s.raise .countClip).markSub .clip)
    simp only [State.config, State.markSub_store, State.raise_store, State.markSub_chans, State.raise_chans] at htook hlink hother
    exact ⟨fun q => feeds q ▸ htook q, hlink, hother,
      ((s.notes_raise_markSub .countClip .clip).trans (addCount_notes ..)).congr (by simp [hmin]) (by simp [hmin])⟩
  · have hlow : -32768 ≤ v.toInt := by simpa using BitVec.le_toInt v
    have feeds : ∀ r, (if r = neg then (-v.toInt).toNat else 0) = countFeeds pos neg v r := fun r => by
      unfold countFeeds; split_ifs with h1 h2
      · exact absurd (h1.symm.trans h2) hne
      all_goals omega
    obtain ⟨htook, hlink, hother⟩ := addCount_spec c neg (m := (-v.toInt).toNat) (by omega) s
    exact ⟨fun q => feeds q ▸ htook q, hlink, hother, (addCount_notes ..).congr (by simp [hmin]) (by simp [hmin])⟩

/-! ## Frames (R1 to R6) -/

theorem isGap_iff (ch : Channel) (seq : BitVec 4) :
    isGap ch seq = true ↔ (ch.state = .active ∨ ch.state = .stalled) ∧ ch.expected ≠ some seq := by
  simp [isGap]

/-- The sequence check: the channel in ACTIVE with its new number, and SEQ_GAP with GAP at a gap (R4, R6). -/
theorem hearRecord_spec (c : Fin 4) (seq : BitVec 4) (s : State) :
    (hearRecord c seq s).chans.get c
        = { s.chans.get c with state := .active, expected := some (seq + 1), timer := 0 }
      ∧ (∀ d, d ≠ c → (hearRecord c seq s).chans.get d = s.chans.get d)
      ∧ s.Notes (hearRecord c seq s) (fun f => f = .seqGap ∧ isGap (s.chans.get c) seq = true)
          (fun f => f = .gap ∧ isGap (s.chans.get c) seq = true) := by
  unfold hearRecord
  split_ifs with h
  · exact ⟨by simp, fun d hd => by simp [PerFour.get_set_other _ _ hd],
      ((s.notes_raise_markSub .seqGap .gap).setChan c _).congr (by simp [h]) (by simp [h])⟩
  · exact ⟨by simp, fun d hd => by simp [PerFour.get_set_other _ _ hd],
      (s.notes_refl.setChan c _).congr (by simp [h]) (by simp [h])⟩

theorem recordByte_toNat (f : LinkFrame) {i : Nat} (hi : i < 6) :
    (recordByte f i).toNat = f.bits.toNat / 256 ^ (5 - i) % 256 := by
  have h : 40 - 8 * i = 8 * (5 - i) := by omega
  simp only [recordByte, BitVec.extractLsb'_toNat, Nat.shiftRight_eq_div_pow, h, Nat.pow_mul]

/-- A frame's fields stand where section 12.2 puts them. -/
theorem record_fields (f : LinkFrame) :
    recordSum f = ∑ i : Fin 6, f.bits.toNat / 256 ^ i.val % 256
    ∧ recordChannel f = f.bits.toNat / 2 ^ 44 ∧ recordSequence f = f.bits.extractLsb' 40 4
    ∧ recordP f = f.bits.extractLsb' 24 16 ∧ recordQ f = f.bits.extractLsb' 8 16 := by
  refine ⟨?_, ?_, ?_, ?_, ?_⟩
  · simp [recordSum, recordByte_toNat, Fin.sum_univ_succ]
    omega
  · have := f.bits.isLt
    rw [recordChannel, recordByte_toNat f (by decide)]
    omega
  · ext i hi
    simp [recordSequence, recordByte]
    omega
  · exact BitVec.extractLsb'_append_extractLsb'_eq_extractLsb' rfl
  · exact BitVec.extractLsb'_append_extractLsb'_eq_extractLsb' rfl

theorem fourOfByte_ofNat (n : Nat) (h : n < 16) (c : Fin 4) : fourOfByte (BitVec.ofNat 8 n) = some c ↔ n = c.val := by
  have : (BitVec.ofNat 8 n).toNat = n := by simp; omega
  unfold fourOfByte
  rw [this]
  fin_cases c <;> split <;> simp_all

theorem recordChannel_lt (f : LinkFrame) : recordChannel f < 16 := by
  have := (recordByte f 0).isLt
  unfold recordChannel
  omega

theorem takesFrame_iff (f : LinkFrame) (s : State) : takesFrame f s = true ↔
    s.sup.mainSupply = true ∧ s.sup.hold = false ∧ f.straddles = false ∧ f.nbits ≠ 0 := by
  simp [takesFrame, State.running, and_assoc]

theorem linkEnabled_iff (f : LinkFrame) (s : State) : linkEnabled s.config.polarity f.len = true ↔ s.Enabled f := by
  unfold linkEnabled State.Enabled
  cases s.config.polarity <;> simp

/-- A record that passes the checks is used with ENABLE active, and ignored otherwise (R3). -/
theorem exec_linkFrame_of_passes {f : LinkFrame} {c : Fin 4} {s : State} (h : s.Passes f c) :
    (s.Enabled f → exec (.linkFrame f) s = .next (useRecord c f s))
      ∧ (¬ s.Enabled f → exec (.linkFrame f) s = .next s) := by
  obtain ⟨hmain, hhold, hstr, hbits, hsum, hch, hoff⟩ := h
  have htakes : takesFrame f s = true := (takesFrame_iff f s).2 ⟨hmain, hhold, hstr, by omega⟩
  have hfour : fourOfByte (BitVec.ofNat 8 (recordChannel f)) = some c := (fourOfByte_ofNat _ (recordChannel_lt f) c).2 hch
  have hexec : exec (.linkFrame f) s = .next (if linkEnabled s.config.polarity f.len then useRecord c f s else s) := by
    change Host.Outcome.next (takeFrame f s) = _
    simp [takeFrame, takeRecord, htakes, hbits, hsum, hfour, hoff]
  rw [hexec]
  constructor <;> intro he
  · rw [if_pos ((linkEnabled_iff f s).2 he)]
  · rw [if_neg (fun h => he ((linkEnabled_iff f s).1 h))]

/-- What the use of a record adds to the flags of its channel's unit (R4, R10). -/
def useRaises (c : Fin 4) (f : LinkFrame) (s : State) (g : AttnFlag) : Prop :=
  (g = .seqGap ∧ ((s.chans.get c).state = .active ∨ (s.chans.get c).state = .stalled)
      ∧ (s.chans.get c).expected ≠ some (recordSequence f))
    ∨ (g = .countClip ∧ f.lval = true ∧ ((recordP f).toInt = -32768 ∨ (recordQ f).toInt = -32768))

/-- What the use of a record marks in the open sub-interval (R4, R6, R10). -/
def useMarks (c : Fin 4) (f : LinkFrame) (s : State) (g : StatusFlag) : Prop :=
  (g = .gap ∧ ((s.chans.get c).state = .active ∨ (s.chans.get c).state = .stalled)
      ∧ (s.chans.get c).expected ≠ some (recordSequence f))
    ∨ (g = .skip ∧ f.lval = false)
    ∨ (g = .clip ∧ f.lval = true ∧ ((recordP f).toInt = -32768 ∨ (recordQ f).toInt = -32768))

theorem useRecord_notes (c : Fin 4) (f : LinkFrame) (s : State) :
    s.Notes (useRecord c f s) (useRaises c f s) (useMarks c f s) := by
  obtain ⟨-, -, hheard⟩ := hearRecord_spec c (recordSequence f) s
  simp only [isGap_iff] at hheard
  cases hv : f.lval with
  | false =>
    rw [useRecord, hv, if_neg (by decide)]
    exact (hheard.trans (State.notes_markSub _ .skip)).congr (fun g => by simp [useRaises, hv])
      (fun g => by simp [useMarks, hv])
  | true =>
    rw [useRecord, hv, if_pos rfl]
    obtain ⟨-, -, -, hp⟩ := takeCount_spec c (pos := .impActive) (neg := .expActive) (by decide) (recordP f)
      (hearRecord c (recordSequence f) s)
    obtain ⟨-, -, -, hq⟩ := takeCount_spec c (pos := .lagging) (neg := .leading) (by decide) (recordQ f)
      (takeCount c .impActive .expActive (recordP f) (hearRecord c (recordSequence f) s))
    exact ((hheard.trans hp).trans hq).congr (fun g => by simp [useRaises, hv, or_assoc, and_or_left])
      (fun g => by simp [useMarks, hv, or_assoc, and_or_left])

/-- The channel after a record: what it heard, and with VALID the two counts in their quantities. -/
theorem useRecord_chan (c : Fin 4) (f : LinkFrame) (s : State) :
    ((useRecord c f s).chans.get c).state = .active ∧ ((useRecord c f s).chans.get c).timer = 0
      ∧ ((useRecord c f s).chans.get c).expected = some (recordSequence f + 1)
      ∧ (∀ d, d ≠ c → (useRecord c f s).chans.get d = s.chans.get d)
      ∧ (∀ q, Channel.Took (s.config.channels.get c) q (if f.lval then fedInto f q else 0) (s.chans.get c)
          ((useRecord c f s).chans.get c)) := by
  obtain ⟨hheard, hothers, -⟩ := hearRecord_spec c (recordSequence f) s
  cases hv : f.lval with
  | false =>
    rw [useRecord, hv, if_neg (by decide)]
    refine ⟨by simp [hheard], by simp [hheard], by simp [hheard], hothers, fun q => ?_⟩
    exact (Channel.took_refl _ _ _).of_energies (by simp [hheard]) (by simp [hheard]) (by simp [hheard])
  | true =>
    rw [useRecord, hv, if_pos rfl]
    obtain ⟨htookP, ⟨hstP, htmP, hexP⟩, hothersP, -⟩ := takeCount_spec c (pos := .impActive) (neg := .expActive) (by decide)
      (recordP f) (hearRecord c (recordSequence f) s)
    obtain ⟨htookQ, ⟨hstQ, htmQ, hexQ⟩, hothersQ, -⟩ := takeCount_spec c (pos := .lagging) (neg := .leading) (by decide)
      (recordQ f) (takeCount c .impActive .expActive (recordP f) (hearRecord c (recordSequence f) s))
    refine ⟨by rw [hstQ, hstP, hheard], by rw [htmQ, htmP, hheard], by rw [hexQ, hexP, hheard],
      fun d hd => by rw [hothersQ d hd, hothersP d hd, hothers d hd], fun q => ?_⟩
    have hheardTook : Channel.Took (s.config.channels.get c) q 0 (s.chans.get c)
        ((hearRecord c (recordSequence f) s).chans.get c) :=
      (Channel.took_refl _ _ _).of_energies (by simp [hheard]) (by simp [hheard]) (by simp [hheard])
    have hP := htookP q
    have hQ := htookQ q
    simp only [State.config, takeCount_store, hearRecord_store] at hP hQ
    cases q with
    | impActive => exact (hheardTook.before hP).after hQ
    | expActive => exact (hheardTook.before hP).after hQ
    | lagging => exact (hheardTook.after hP).before hQ
    | leading => exact (hheardTook.after hP).before hQ

theorem Quad.ext_get {α : Type} {x y : Quad α} (h : ∀ q, x.get q = y.get q) : x = y := by
  cases x; cases y
  simp only [Quad.mk.injEq]
  exact ⟨h .impActive, h .expActive, h .lagging, h .leading⟩

/-- Settles O17: the receiver's checks one by one, and the use of a record by what it notes and by its channel. -/
theorem linkFramesAreClassified : Obligations.LinkFramesAreClassified := by
  unfold Obligations.LinkFramesAreClassified
  refine ⟨record_fields, fun f s => ⟨fun h => ?_, fun ⟨hmain, hhold, hstr, hn⟩ => ?_⟩, fun f c s hpass => ?_⟩
  · have hno : ¬ takesFrame f s = true := by
      rw [takesFrame_iff]
      rintro ⟨hmain, hhold, hstr, -⟩
      simp [hmain, hhold, hstr] at h
    change Host.Outcome.next (takeFrame f s) = _
    rw [takeFrame, if_neg hno]
  · have htakes : takesFrame f s = true := (takesFrame_iff f s).2 ⟨hmain, hhold, hstr, by omega⟩
    have hexec : exec (.linkFrame f) s = .next (if f.nbits = 48 then takeRecord f s else dropWithCheck s) := by
      change Host.Outcome.next (takeFrame f s) = _
      rw [takeFrame, if_pos htakes]
    rw [hexec]
    refine ⟨fun hbad => ?_, fun ⟨hbits, hsum⟩ c hch hoff => ?_⟩
    · split_ifs with hbits
      · by_cases hsum : recordSum f % 256 ≠ 255
        · rw [takeRecord, if_pos hsum]; rfl
        · have hnone : fourOfByte (BitVec.ofNat 8 (recordChannel f)) = none := by
            rw [Option.eq_none_iff_forall_ne_some]
            intro c hc
            have := (fourOfByte_ofNat _ (recordChannel_lt f) c).1 hc
            omega
          rw [takeRecord, if_neg hsum, hnone]; rfl
      · rfl
    · have hfour := (fourOfByte_ofNat _ (recordChannel_lt f) c).2 hch
      simp [hbits, takeRecord, hsum, hfour, hoff]
  · obtain ⟨huse, hignore⟩ := exec_linkFrame_of_passes hpass
    refine ⟨hignore, fun he => ⟨_, huse he, ?_⟩⟩
    obtain ⟨hstate, htimer, hexp, hothers, htook⟩ := useRecord_chan c f s
    have hnotes := useRecord_notes c f s
    refine ⟨hstate, htimer, hexp, hothers, fun p => ⟨(hnotes.raises p).1, (hnotes.raises p).2.1⟩,
      fun g p => (hnotes.raises p).2.2 g, hnotes.marks, fun hv => ?_, hnotes.frame⟩
    have hkept : ∀ q, ((useRecord c f s).chans.get c).residue.get q = (s.chans.get c).residue.get q
        ∧ ((useRecord c f s).chans.get c).cum.get q = (s.chans.get c).cum.get q
        ∧ ((useRecord c f s).chans.get c).part.get q = (s.chans.get c).part.get q := fun q => (htook q).1 (by simp [hv])
    exact ⟨Quad.ext_get fun q => (hkept q).1, Quad.ext_get fun q => (hkept q).2.1, Quad.ext_get fun q => (hkept q).2.2⟩

theorem fedInto_le (f : LinkFrame) (q : Quantity) : fedInto f q ≤ 32767 := by
  have hp := BitVec.toInt_lt (x := recordP f)
  have hq := BitVec.toInt_lt (x := recordQ f)
  cases q <;> simp only [fedInto] <;> omega

/-- The product of a count and K, within their ranges (R11). -/
theorem product_le (f : LinkFrame) (q : Quantity) {cfg : ChannelConfig} (h : cfg.InRange) : fedInto f q * cfg.k ≤ 2147385345 :=
  Nat.mul_le_mul (fedInto_le f q) h.2.1

/-- Settles O18: the record's counts as its channel took them, by the two branches of the conversion. -/
theorem countsConverted : Obligations.CountsConverted := by
  unfold Obligations.CountsConverted
  intro f c q s hpass he hv
  obtain ⟨-, -, -, -, htook⟩ := useRecord_chan c f s
  obtain ⟨hzero, hpos⟩ := htook q
  rw [if_pos hv] at hzero hpos
  refine ⟨_, (exec_linkFrame_of_passes hpass).1 he, fedInto_le f q, hzero, fun hm => ?_⟩
  obtain ⟨hres, hcum, hpart⟩ := hpos hm
  refine ⟨_, hcum, by rw [hpart, satEnergy_toNat], fun hss => ?_, fun hin => ?_, fun hss => ?_⟩
  · have hconv : convertCount (s.config.channels.get c).k (s.config.channels.get c).ss (fedInto f q)
        ((s.chans.get c).residue.get q)
        = (fedInto f q * (s.config.channels.get c).k * 2 ^ ((s.config.channels.get c).ss).toNat, 0) := if_pos hss
    rw [hres, hconv]
    refine ⟨rfl, rfl, fun hin => (Nat.mul_le_mul (product_le f q hin) (Nat.pow_le_pow_right (by decide) ?_)).trans
      (by decide : 2147385345 * 2 ^ 6 ≤ _)⟩
    obtain ⟨-, -, -, hhi⟩ := hin
    omega
  · exact product_le f q hin
  · have hconv : convertCount (s.config.channels.get c).k (s.config.channels.get c).ss (fedInto f q)
        ((s.chans.get c).residue.get q)
        = ((fedInto f q * (s.config.channels.get c).k + (s.chans.get c).residue.get q) / 2 ^ (-(s.config.channels.get c).ss).toNat,
          (fedInto f q * (s.config.channels.get c).k + (s.chans.get c).residue.get q) % 2 ^ (-(s.config.channels.get c).ss).toNat) :=
      if_neg (by omega)
    rw [hres, hconv]
    exact ⟨Nat.div_add_mod' _ _, Nat.mod_lt _ (by positivity)⟩

/-! ## Stalls (R7) -/

/-- A stall left due is taken by its own row where the channel still counts and its timer is at the timeout. -/
theorem exec_stallTimeout {c : Fin 4} {s : State} (hmain : s.sup.mainSupply = true) (hdue : s.due.stall.get c = true)
    (hstate : (s.chans.get c).state = .waiting ∨ (s.chans.get c).state = .active)
    (htimer : s.config.stallTimeout ≤ (s.chans.get c).timer + 1) :
    exec (.stallTimeout c) s = .next (enterStalled c (s.setDue { s.due with stall := s.due.stall.set c false })) := by
  change Host.Outcome.next (whileRunning (takeStall c) s) = _
  have hstall : stallSecond c (s.setDue { s.due with stall := s.due.stall.set c false })
      = enterStalled c (s.setDue { s.due with stall := s.due.stall.set c false }) := (if_pos hstate).trans (if_pos htimer)
  rw [whileRunning, if_pos hmain, takeStall, if_pos hdue, hstall]

/-- Settles O19: the row is the entry to STALLED; that every step keeps which channels hold a number is
`step_expectedHeld`. -/
theorem stallTimeoutStalls : Obligations.StallTimeoutStalls := by
  unfold Obligations.StallTimeoutStalls
  refine ⟨fun c s hmain hdue hstate htimer => ⟨_, exec_stallTimeout hmain hdue hstate htimer, ?_⟩,
    fun s t hs hstep => step_expectedHeld hs hstep⟩
  set d := s.setDue { s.due with stall := s.due.stall.set c false } with hd
  have hchans := enterStalled_chans c d
  have hnotes := ((d.setChan c { d.chans.get c with state := .stalled, expected := (d.chans.get c).expectedStalled (unheardExpected d.free), timer := (d.chans.get c).timer + 1 }).setFree
    ((d.chans.get c).drawnStalled d.free)).notes_raise_markSub .linkFault .stall
  refine ⟨?_, fun hact => ⟨?_, enterStalled_free c (by simp [hd, hact])⟩, fun hwait => ⟨unheardExpected d.free, ?_⟩,
    fun e he => ⟨?_, ?_⟩, ?_, ?_, hnotes.marks, rfl⟩
  · rw [hchans]; simp [hd]
  · rw [hchans]; simp [hd, hact, Channel.expectedStalled]
  · rw [hchans]; simp [hd, hwait, Channel.expectedStalled]
  · rw [hchans, PerFour.get_set_other _ _ he]; rfl
  · simp [hd, PerFour.get_set_other _ _ he]
  · simp [hd]
  · intro p
    have := hnotes.raises p
    cases p <;> exact this

end Sys2Proof.Machine
end

section
/-! PROOFS. The schedule and the period: valid tables and the rate of a start (R32 to R40), and the rows that freeze or
defer a period (R109 to R123). -/

namespace Sys2Proof.Machine

open Sys2Proof

/-! ## The schedule (R32 to R38) -/

theorem ascending_iff (l : List Nat) : ascending l = true ↔ l.Pairwise (· < ·) := by
  rw [← List.isChain_iff_pairwise]
  induction l with
  | nil => simp [ascending]
  | cons a l ih =>
    cases l with
    | nil => simp [ascending]
    | cons b rest => simp [ascending, ih]

/-- The validation of a switch-point list: it begins at minute 0, ascends strictly, and holds rates 1 to 6 (R38). -/
theorem validPoints_iff (points : List SwitchPoint) : validPoints points = true ↔
    (∃ rest r, points = ⟨0, r⟩ :: rest) ∧ (points.map SwitchPoint.minute).Pairwise (· < ·)
      ∧ ∀ q ∈ points, 1 ≤ q.rate ∧ q.rate ≤ 6 := by
  have hhead : (points.map SwitchPoint.minute).head? = some 0 ↔ ∃ rest r, points = ⟨0, r⟩ :: rest := by
    constructor
    · intro h
      cases points with
      | nil => cases h
      | cons q rest => exact ⟨rest, q.rate, by cases q; cases h; rfl⟩
    · rintro ⟨rest, r, rfl⟩; rfl
  simp only [validPoints, Bool.and_eq_true, beq_iff_eq, hhead, ascending_iff, List.all_eq_true, decide_eq_true_eq, and_assoc]

theorem PerFour.all_toList {α : Type} (x : PerFour α) (p : α → Bool) : x.toList.all p = true ↔ ∀ d, p (x.get d) = true := by
  simp [PerFour.toList, Fin.forall_fin_succ, PerFour.get]

/-- The validation of pending tables (R38). -/
theorem validTables_iff (t : Tables) : validTables t = true ↔
    (∀ d, (∃ rest r, t.switches.get d = ⟨0, r⟩ :: rest)
      ∧ ((t.switches.get d).map SwitchPoint.minute).Pairwise (· < ·)
      ∧ ∀ q ∈ t.switches.get d, 1 ≤ q.rate ∧ q.rate ≤ 6) ∧ t.holidays.Pairwise (· < ·) := by
  simp only [validTables, Bool.and_eq_true, PerFour.all_toList, validPoints_iff, ascending_iff]

/-- A rate number names its rate. -/
theorem Rate.number_of_ofNumber {n : Nat} (h : 1 ≤ n ∧ n ≤ 6) : ∃ r, Rate.ofNumber n = some r ∧ r.number = n := by
  obtain ⟨hlo, hhi⟩ := h
  interval_cases n <;> exact ⟨_, rfl, rfl⟩

/-- In a strictly ascending list every element comes before the last or is it. -/
theorem le_getLast_of_pairwise {l : List SwitchPoint} {p : SwitchPoint} (hl : l.Pairwise (fun a b => a.minute < b.minute))
    (hp : l.getLast? = some p) : ∀ q ∈ l, q.minute ≤ p.minute := by
  obtain ⟨init, rfl⟩ := List.getLast?_eq_some_iff.mp hp
  intro q hq
  rw [List.pairwise_append] at hl
  rcases List.mem_append.mp hq with h | h
  · exact (hl.2.2 q h p (List.mem_singleton_self p)).le
  · rw [List.mem_singleton.mp h]

/-- The rate of a minute under a valid list is that of the last switch point not after it (R33). -/
theorem rateInList_spec {points : List SwitchPoint} (h : validPoints points = true) (minute : Nat) :
    ∃ p ∈ points, p.minute ≤ minute ∧ (∀ q ∈ points, q.minute ≤ minute → q.minute ≤ p.minute)
      ∧ (rateInList points minute).number = p.rate := by
  obtain ⟨⟨rest, r, hhead⟩, hasc, hrates⟩ := (validPoints_iff points).mp h
  have hfirst : (⟨0, r⟩ : SwitchPoint) ∈ points.filter (fun p => p.minute ≤ minute) := by simp [hhead]
  obtain ⟨p, hp⟩ : ∃ p, (points.filter (fun p => p.minute ≤ minute)).getLast? = some p :=
    ⟨_, List.getLast?_eq_some_getLast (List.ne_nil_of_mem hfirst)⟩
  obtain ⟨hmem, hle⟩ : p ∈ points ∧ p.minute ≤ minute := by simpa using List.mem_of_getLast? hp
  have hlast := le_getLast_of_pairwise ((List.pairwise_map.mp hasc).filter _) hp
  obtain ⟨rate, hrate, hnumber⟩ := Rate.number_of_ofNumber (hrates p hmem)
  exact ⟨p, hmem, hle, fun q hq hqm => hlast q (by simp [hq, hqm]), by rw [rateInList, hp]; simp [hrate, hnumber]⟩

/-- Settles O29: the day type by its definition, and the rate by the list of that day type. -/
theorem rateComesFromTheSchedule : Obligations.RateComesFromTheSchedule := by
  unfold Obligations.RateComesFromTheSchedule
  intro t offset start hvalid
  have hpoints : validPoints (t.switches.get (dayTypeOf t offset start.day)) = true := by
    simp only [validTables, Bool.and_eq_true, PerFour.all_toList] at hvalid
    exact hvalid.1 _
  exact ⟨fun h => by simp [dayTypeOf, h], fun h => by simp [dayTypeOf, h, weekdayOf], rateInList_spec hpoints (start.sec / 60)⟩

/-! ## Commands that pass their checks -/

/-- An OPERATION-class command of its port that passes the checks has its own effect, and then the end of its
transaction. -/
theorem exec_operation_passed {i : Instr} {p : Port} {code : Byte} {args : List Byte} (hwf : i.wellFormed = true)
    (hb : writeBytes i = some (p, .whole, code, args)) (hclass : commandClass code = some .operation)
    (hacc : acceptedOn code p = true) {s : State} (h : s.TakesOperation p) :
    exec i s = .next ((ownOf i s).2.finish p code (ownOf i s).1 false false) := by
  obtain ⟨⟨hsel, hhold⟩, hlatch⟩ := h
  have hchecks : writeChecks p code .whole s = none := by simp [writeChecks, hacc, hclass, hhold, hlatch]
  have hcode : (code == 0x34) = false := by
    rw [beq_eq_false_iff_ne]
    rintro rfl
    exact absurd hclass (by decide)
  rw [exec_of_writeBytes hwf hb, takeWrite_passed _ hsel.atCommand hchecks, endWriting_whole, hcode]
  simp [clearsLatch, hclass]

/-- A CONFIG-class command that passes the checks has its own effect, and then the end of its transaction. -/
theorem exec_config_passed {i : Instr} {code : Byte} {args : List Byte} (hwf : i.wellFormed = true)
    (hb : writeBytes i = some (.utility, .whole, code, args)) (hclass : commandClass code = some .config) {s : State}
    (h : s.TakesConfig) :
    exec i s = .next ((ownOf i s).2.finish .utility code (ownOf i s).1 false false) := by
  rw [exec_of_writeBytes hwf hb, takeWrite_config_passed _ hclass h]

theorem storeBusy_eq_true {s : State} (h : s.store.writing ≠ none) : s.storeBusy = true := by
  simpa [State.storeBusy, Option.isSome_iff_ne_none] using h

/-- Settles O32: the checks of R38 in order, with the validation spelled out. -/
theorem activateAndCancel : Obligations.ActivateAndCancel := by
  unfold Obligations.ActivateAndCancel
  intro s hs
  have harm : ∀ day, exec (.activateSchedule .utility .whole day) s
      = .next ((ownActivateSchedule day s).2.finish .utility 0x46 (ownActivateSchedule day s).1 false false) :=
    fun day => exec_operation_passed rfl rfl rfl rfl hs
  have hcancel : exec (.cancelPending .utility .whole) s
      = .next ((ownCancelPending s).2.finish .utility 0x47 (ownCancelPending s).1 false false) :=
    exec_operation_passed rfl rfl rfl rfl hs
  refine ⟨fun day => ⟨fun hbusy => ?_, fun hidle => ?_⟩, fun hbusy => ?_, fun hidle => ?_⟩
  · rw [harm, ownActivateSchedule, checkThen, storeBusy_eq_true hbusy]; rfl
  · have hown : ownActivateSchedule day s = armSchedule day s := by simp [ownActivateSchedule, checkThen, State.storeBusy, hidle]
    rw [harm, hown]
    refine ⟨fun t d hsched => by simp [armSchedule, hsched, refuse], fun hsched => by simp [armSchedule, hsched, refuse],
      fun t hsched => ⟨fun hvalid => ?_, fun hvalid => ?_⟩⟩
    · simp [armSchedule, hsched, (validTables_iff t).mpr hvalid]
    · simp [armSchedule, hsched, mt (validTables_iff t).mp hvalid, refuse]
  · rw [hcancel, ownCancelPending, checkThen, storeBusy_eq_true hbusy]; rfl
  · have hown : ownCancelPending s = (.ok, s.setStore { s.store with pendSched := .none }) := by
      simp [ownCancelPending, checkThen, State.storeBusy, hidle]
    exact ⟨_, hcancel, by rw [hown], by rw [hown]; rfl⟩

/-- The store completion of a pending write leaves its new tables LOADING (R35, R168). -/
theorem exec_storeCompletion_pending {s : State} {p : Port} {i : StoreItem} {t : Tables} (hmain : s.sup.mainSupply = true)
    (hw : s.store.writing = some ⟨p, i⟩) (hcommit : commitItem i s = s.setStore { s.store with pendSched := .loading t }) :
    ∃ u, exec .storeCompletion s = .next u ∧ u.store = { s.store with writing := none, pendSched := .loading t } := by
  refine ⟨completeStore ⟨p, i⟩ s, ?_, by rw [completeStore_store, hcommit]; rfl⟩
  change Host.Outcome.next (whileRunning storeCompletion s) = _
  rw [whileRunning, if_pos hmain, storeCompletion, hw]

/-- Settles O31: a quad by how many of its entries are used, and the three pending items by their new tables. -/
theorem quadsAreWrittenInPlace : Obligations.QuadsAreWrittenInPlace := by
  unfold Obligations.QuadsAreWrittenInPlace
  refine ⟨fun list start a b c d _ => ?_, fun s p hmain base hbase => ?_⟩
  · cases a <;> cases b <;> cases c <;> cases d <;> simp [writeQuad]
  · have htables : s.store.pendingTables = base := by rw [hbase]; rfl
    refine ⟨fun d i e hw => exec_storeCompletion_pending hmain hw ?_, fun i e hw => exec_storeCompletion_pending hmain hw ?_,
      fun w hw => exec_storeCompletion_pending hmain hw ?_⟩
    · rw [← htables]; rfl
    · rw [← htables]; rfl
    · rw [← htables]; rfl

/-! ## Midnight (R34, R39) -/

theorem State.activationAtMidnight_armed {s : State} {tables : Tables} {day : Nat}
    (h : s.store.pendSched = .armed tables day) :
    s.activationAtMidnight = if day = s.clock.now.day then some day else none := by
  simp [State.activationAtMidnight, h]

/-- An activation at a midnight: the tables, the flag and the marker (R39). -/
theorem midnight_activates {s : State} {tables : Tables} {day : Nat} (h : s.store.pendSched = .armed tables day) :
    (scheduleMarker (some day) (activateSchedule s)).store = { s.store with active := tables, pendSched := .none }
      ∧ (∀ p, ((scheduleMarker (some day) (activateSchedule s)).port p).attn.has .scheduleSwitched = true)
      ∧ s.Logged (scheduleMarker (some day) (activateSchedule s))
          { kind := .schedule, rate := s.sub.rate, status := 0, stamp := s.clock.now, payload := [BitVec.ofNat 32 day] }
      ∧ (scheduleMarker (some day) (activateSchedule s)).clock
          = { s.clock with dayType := dayTypeOf tables s.config.weekdayOffset s.clock.now.day } := by
  refine ⟨?_, fun p => ?_, ?_, ?_⟩
  · simp [activateSchedule, refreshDayType, Store.pendingTables, h]
  · rw [scheduleMarker_has _ _ _ (by decide), activateSchedule, State.raise_has]
    simp
  · rw [State.Logged, scheduleMarker_log]
    simp [ProfileLog.scheduled, activateSchedule, refreshDayType]
  · simp [activateSchedule, refreshDayType, Store.pendingTables, h, State.config]

/-- Settles O21: by what the pending schedule is and whether its effective day is the present one. -/
theorem midnightEventTurnsTheDay : Obligations.MidnightEventTurnsTheDay := by
  unfold Obligations.MidnightEventTurnsTheDay
  intro s hmain hdue
  set d := s.setDue { s.due with midnight := false } with hd
  have hexec : exec .midnightEvent s = .next (if d.activationAtMidnight.isSome then
      scheduleMarker d.activationAtMidnight (activateSchedule d) else refreshDayType d) := by
    change Host.Outcome.next (whileRunning takeMidnight s) = _
    rw [whileRunning, if_pos hmain, takeMidnight, if_pos hdue]
  rw [hexec]
  cases hsched : s.store.pendSched with
  | none =>
    rw [if_neg (by simp [State.activationAtMidnight, hd, hsched])]
    exact ⟨_, rfl, rfl, rfl, rfl, rfl, rfl, rfl, rfl, rfl, rfl, rfl, rfl, rfl⟩
  | loading t =>
    rw [if_neg (by simp [State.activationAtMidnight, hd, hsched])]
    exact ⟨_, rfl, rfl, rfl, rfl, rfl, rfl, rfl, rfl, rfl, rfl, rfl, rfl, rfl⟩
  | armed tables day =>
    have hact := State.activationAtMidnight_armed (s := d) hsched
    by_cases hday : day = s.clock.now.day
    · rw [if_pos (show day = d.clock.now.day from hday)] at hact
      rw [hact, if_pos (show (some day).isSome = true from rfl)]
      obtain ⟨hstore, hflag, hlogged, hclock⟩ := midnight_activates (s := d) hsched
      refine ⟨_, rfl, by simp [hd], ?_, by simp [hd], by simp [hd], by simp [hd], by simp [hd], by simp [hd], by simp [hd], ?_⟩
      · rw [hclock, hstore]; rfl
      · simp only [if_pos hday]
        exact ⟨hstore, hflag, hlogged⟩
    · rw [if_neg (show ¬ day = d.clock.now.day from hday)] at hact
      rw [hact, if_neg (by decide)]
      refine ⟨_, rfl, rfl, rfl, rfl, rfl, rfl, rfl, rfl, rfl, ?_⟩
      simp only [if_neg hday]
      exact ⟨rfl, rfl, rfl, rfl⟩

/-! ## Freezes (R110 to R116) -/

/-- A freeze is judged by the totals, the period and what stands beside; the lockout timer and what is due are none of it. -/
theorem State.FrozenInto.of_same {s s' t : State} {cause : Cause} (h : s'.FrozenInto t cause) (hper : s'.per.number = s.per.number
    ∧ s'.per.start = s.per.start ∧ s'.per.history = s.per.history ∧ s'.per.partialMark = s.per.partialMark)
    (htot : s'.tot = s.tot) (hdem : s'.dem = s.dem) (hlog : s'.log = s.log) (hstore : s'.store = s.store)
    (hclock : s'.clock = s.clock) (hsub : s'.sub = s.sub) (hchans : s'.chans = s.chans) (hlim : s'.lim = s.lim)
    (hsup : s'.sup = s.sup) : s.FrozenInto t cause := by
  obtain ⟨hn, hst, hh, hp⟩ := hper
  unfold State.FrozenInto State.Logged State.config at h ⊢
  rw [hn, hst, hh, hp, htot, hdem, hlog, hstore, hclock, hsub, hchans, hlim, hsup] at h
  exact h

theorem carryOutDeferred_none {s : State} (h : s.per.deferred = none) : carryOutDeferred s = s := by
  simp [carryOutDeferred, h]

theorem carryOutDeferred_last {s : State} {cause : Cause} (h : s.per.deferred = some cause) (hn : s.per.number = lastPeriod) :
    carryOutDeferred s = s.setPer { s.per with deferred := none } := by
  simp [carryOutDeferred, h, hn]

theorem carryOutDeferred_freezes {s : State} {cause : Cause} (h : s.per.deferred = some cause)
    (hn : s.per.number ≠ lastPeriod) : carryOutDeferred s = freeze cause true s := by
  simp [carryOutDeferred, h, hn]

theorem freeze_has (cause : Cause) (clear : Bool) (s : State) (p : Port) {g : AttnFlag} (h : g ≠ .logOverrun) :
    ((freeze cause clear s).port p).attn.has g = (s.port p).attn.has g := by
  rw [freeze, logMarker, logRecord_has _ _ _ h]
  cases p <;> rfl

theorem carryOutDeferred_has (s : State) (p : Port) {g : AttnFlag} (h : g ≠ .logOverrun) :
    ((carryOutDeferred s).port p).attn.has g = (s.port p).attn.has g := by
  unfold carryOutDeferred
  split
  · split_ifs
    · cases p <;> rfl
    · exact freeze_has _ _ _ _ h
  · rfl

/-- Settles O36: the date request by what the Period Unit can take, and the lockout expiry by the deferred close. -/
theorem dateRequestsAndTheLockout : Obligations.DateRequestsAndTheLockout := by
  unfold Obligations.DateRequestsAndTheLockout
  refine ⟨fun s hmain hdates => ?_, fun s hmain hdue hone => ?_⟩
  · set d := s.setDue { s.due with dates := s.due.dates - 1 } with hd
    have hexec : exec .closeDateEvent s = .next (dateRequest .date d) := by
      change Host.Outcome.next (whileRunning takeDate s) = _
      rw [whileRunning, if_pos hmain, takeDate, if_neg hdates]
    refine ⟨_, hexec, by simp [hd], fun hfree => ?_, fun ⟨hidle, hlock, hlast⟩ => ?_, fun hbusy => ?_⟩
    · have hcan : d.canFreeze = true := d.canFreeze_iff.mpr hfree
      rw [dateRequest, if_pos hcan]
      exact ⟨freeze_frozenInto .date false d, by rw [freeze_per_deferred]; rfl⟩
    · have hcan : ¬ d.canFreeze = true := fun h => (d.canFreeze_iff.mp h).2.2 hlast
      have hclose : d.closeIdle = true := (State.closeIdle_iff d).mpr hidle
      have hlock' : d.per.lockout = 0 := hlock
      rw [dateRequest, if_neg hcan, if_pos (by simp [hclose, hlock'])]; rfl
    · have hcan : ¬ d.canFreeze = true := fun h => by
        obtain ⟨hidle, hlock, -⟩ := d.canFreeze_iff.mp h
        exact hbusy.elim (· hidle) (· hlock)
      have hno : ¬ (d.closeIdle && d.per.lockout == 0) = true := by
        simp only [Bool.and_eq_true, State.closeIdle_iff, beq_iff_eq]
        rintro ⟨hidle, hlock⟩
        exact hbusy.elim (· hidle) (· hlock)
      rw [dateRequest, if_neg hcan, if_neg hno]
      refine ⟨by simp [deferClose, hd], ?_, by simp [hd], by simp [hd], by simp [hd], by simp [hd], by simp [hd]⟩
      exact State.raisedOnly_raise (d.setPer { d.per with deferred := some (d.per.deferred.getD .date) }) .closeDeferred
  · set u := (s.setDue { s.due with lockout := false }).setPer { s.per with lockout := 0 } with hu
    have hexec : exec .lockoutExpiry s = .next (if u.closeIdle then carryOutDeferred u else u) := by
      change Host.Outcome.next (whileRunning takeLockout s) = _
      rw [whileRunning, if_pos hmain, takeLockout, if_pos hdue]
      simp [hone, hu]
    rw [hexec]
    refine ⟨_, rfl, ?_, fun hno => ?_, fun cause hidle hdef => ⟨fun hlast => ?_, fun hlast => ?_⟩⟩
    · split <;> simp [hu]
    · split_ifs with hidle
      · have hidle' : s.per.close = .idle := (State.closeIdle_iff u).mp hidle
        rw [carryOutDeferred_none (s := u) (hno.resolve_left (fun h => h hidle'))]; rfl
      · rfl
    · have hidle' : u.closeIdle = true := (State.closeIdle_iff u).mpr hidle
      rw [if_pos hidle', carryOutDeferred_last (s := u) hdef hlast]; rfl
    · have hidle' : u.closeIdle = true := (State.closeIdle_iff u).mpr hidle
      rw [if_pos hidle', carryOutDeferred_freezes (s := u) hdef hlast]
      exact ⟨freeze_frozenInto cause true u, by simp⟩

/-- Settles O45: a press by the level before it, and a new one by what the Period Unit can take. -/
theorem buttonPressFreezes : Obligations.ButtonPressFreezes := by
  unfold Obligations.ButtonPressFreezes
  intro s hmain
  have hexec : exec .buttonPress s = .next (if s.pins.close then s else buttonPress s) := by
    change Host.Outcome.next (whileRunning (fun s => if s.pins.close then s else buttonPress s) s) = _
    rw [whileRunning, if_pos hmain]
  set d := s.setPins { s.pins with close := true } with hd
  refine ⟨fun h => by rw [hexec, if_pos h], fun h => ⟨fun ⟨hguard, hhold, hfree⟩ => ?_, fun hno => ?_⟩, ?_⟩
  · have hcan : d.canFreeze = true := d.canFreeze_iff.mpr hfree
    have hpress : buttonPress s = freeze .button false d := by simp [buttonPress, ← hd, hcan]; simp [hd, hguard, hhold]
    rw [hexec, if_neg (by simp [h]), hpress]
    exact ⟨_, rfl, freeze_frozenInto .button false d, freeze_per_deferred _ _, freeze_pins _ _ _⟩
  · have hpress : buttonPress s = d := by
      have : ¬ (d.pins.guard && !d.sup.hold && d.canFreeze) = true := by
        simp only [Bool.and_eq_true, Bool.not_eq_true', State.canFreeze_iff]
        rintro ⟨⟨hguard, hhold⟩, hidle, hlock, hlast⟩
        rcases hno with h | h | h | h | h
        · exact absurd (h.symm.trans hguard) (by decide)
        · exact absurd (h.symm.trans hhold) (by decide)
        · exact h hidle
        · exact h hlock
        · exact hlast h
      exact if_neg this
    rw [hexec, if_neg (by simp [h]), hpress]
  · change Host.Outcome.next (whileRunning (fun s => s.setPins { s.pins with close := false }) s) = _
    rw [whileRunning, if_pos hmain]

/-- Settles O44: the completion leaves IDLE with the record pushed, and then the deferred close, where no lockout runs. -/
theorem closeCompletionFilesTheRecord : Obligations.CloseCompletionFilesTheRecord := by
  unfold Obligations.CloseCompletionFilesTheRecord
  intro x s s1 hmain hclose hs1
  have hpush : s.setPer { s.per with close := .idle, history := pushHistory s.per.history x.record } = s1 := by
    rw [hs1, pushHistory, List.drop_one]; rfl
  have hexec : exec .closeCompletion s = .next (if s.per.lockout = 0 then carryOutDeferred (s1.raise .closeDone)
      else s1.raise .closeDone) := by
    change Host.Outcome.next (whileRunning closeCompletion s) = _
    have hdone : closeCompletion s = completeClose x s := by unfold closeCompletion; rcases hclose with h | h <;> rw [h]
    rw [whileRunning, if_pos hmain, hdone, completeClose, hpush]
    simp [hs1]
  have hraised : s.RaisedOnly (s1.raise .closeDone) (fun f => f = .closeDone) := by
    rw [← hpush]; exact State.raisedOnly_raise _ _
  rw [hexec]
  refine ⟨_, rfl, fun p => ?_, ?_, fun hno => ?_, fun cause hlock hdef => ⟨fun hlast => ?_, fun hlast => ?_⟩,
    rfl, rfl, rfl, rfl, rfl, rfl⟩
  · have hdone := ((hraised p).2.2 .closeDone).mpr (.inr rfl)
    split_ifs
    · rw [carryOutDeferred_has _ _ (by decide)]; exact hdone
    · exact hdone
  · split_ifs <;> simp
  · have hsame : (if s.per.lockout = 0 then carryOutDeferred (s1.raise .closeDone) else s1.raise .closeDone)
        = s1.raise .closeDone := by
      split_ifs with hlock
      · exact carryOutDeferred_none (by simpa [hs1] using hno.resolve_left (· hlock))
      · rfl
    rw [hsame]
    exact ⟨by simp, hraised, by simp [hs1], by simp [hs1], by simp [hs1]⟩
  · rw [if_pos hlock, carryOutDeferred_last (cause := cause) (by simpa [hs1] using hdef) (by rw [State.raise_per, hs1]; exact hlast)]
    simp [hs1]
  · rw [if_pos hlock, carryOutDeferred_freezes (cause := cause) (by simpa [hs1] using hdef) (by rw [State.raise_per, hs1]; exact hlast)]
    exact ⟨(freeze_frozenInto cause true _).of_same (by simp) (by simp) (by simp) (by simp) (by simp) (by simp) (by simp)
      (by simp) (by simp) (by simp), by simp⟩

end Sys2Proof.Machine
end

section
/-! PROOFS. Transactions (R159 to R164, R170, R191): the checks of a write, the bytes that spell a command, the rise of
select past a snapshot instant, and the port reset. -/

namespace Sys2Proof.Machine

open Sys2Proof

/-! ## Classes by number (R160) -/

theorem commandClass_port_iff (code : Byte) : commandClass code = some .port ↔ 0x30 ≤ code.toNat ∧ code.toNat ≤ 0x34 := by
  unfold commandClass; split_ifs <;> simp <;> omega

theorem commandClass_operation_iff (code : Byte) :
    commandClass code = some .operation ↔ 0x40 ≤ code.toNat ∧ code.toNat ≤ 0x49 := by
  unfold commandClass; split_ifs <;> simp <;> omega

theorem commandClass_config_iff (code : Byte) : commandClass code = some .config ↔ 0x50 ≤ code.toNat ∧ code.toNat ≤ 0x55 := by
  unfold commandClass; split_ifs <;> simp <;> omega

theorem commandClass_read_iff (code : Byte) : commandClass code = some .read ↔ 0x10 ≤ code.toNat ∧ code.toNat ≤ 0x23 := by
  unfold commandClass; split_ifs <;> simp <;> omega

/-- Every code of the list has its class. -/
theorem commandClass_cases (code : Byte) : commandClass code = none ∨ commandClass code = some .read
    ∨ commandClass code = some .port ∨ commandClass code = some .operation ∨ commandClass code = some .config := by
  unfold commandClass; split_ifs <;> simp

theorem commandArgs_of_unknown {code : Byte} (h : commandClass code = none) : commandArgs code = 0 := by
  unfold commandArgs
  split
  all_goals first | rfl | (rename_i hc; obtain rfl := eq_of_toNat_eq hc; exact absurd h (by decide))

/-- A write-class row is of no READ code, and its argument bytes are as many as its code takes. -/
theorem writeBytes_code {i : Instr} {p : Port} {fr : Framing} {code : Byte} {args : List Byte} (hwf : i.wellFormed = true)
    (h : writeBytes i = some (p, fr, code, args)) : commandClass code ≠ some .read ∧ commandArgs code = args.length := by
  cases i
  case unknownCommand =>
    obtain ⟨rfl, rfl, rfl, rfl⟩ := h
    have hnone : commandClass code = none := Option.isNone_iff_eq_none.mp hwf
    exact ⟨by simp [hnone], commandArgs_of_unknown hnone⟩
  all_goals first | (obtain ⟨rfl, rfl, rfl, rfl⟩ := h; exact ⟨by decide, rfl⟩) | cases h

/-! ## The checks of a write (R162) -/

/-- The end of a transaction that is refused: the latch stays for the PORT class alone, and nothing arms. -/
theorem endWriting_refused {p : Port} {fr : Framing} {code : Byte} {r : Result} (hr : r ≠ .ok) (s : State) :
    endWriting p code fr r s
      = s.finishAfter p code (framedBytes fr code) r ((s.port p).latch && !clearsLatch code) false := by
  have harm : (p == .utility && code == 0x34 && r == .ok) = false := by simp [hr]
  unfold endWriting PortState.endWrite
  rw [harm]; rfl

theorem clearsLatch_of_write {code : Byte} (h : commandClass code ≠ some .read) :
    (!clearsLatch code) = (decide (0x30 ≤ code.toNat) && decide (code.toNat ≤ 0x34)) := by
  have hport := commandClass_port_iff code
  obtain hc | hc | hc | hc | hc := commandClass_cases code
  · rw [hc] at hport; simp [clearsLatch, hc]; simp at hport; omega
  · exact absurd hc h
  · rw [hc] at hport; simp [clearsLatch, hc]; simpa using hport
  · rw [hc] at hport; simp [clearsLatch, hc]; simp at hport; omega
  · rw [hc] at hport; simp [clearsLatch, hc]; simp at hport; omega

/-- The commands of the list that a port accepts (R160). -/
theorem acceptedOn_iff {code : Byte} (p : Port) (hread : commandClass code ≠ some .read) (hknown : commandClass code ≠ none) :
    acceptedOn code p = true ↔
      code.toNat ≤ 0x33 ∨ (p = .utility ∧ code.toNat ≠ 0x49) ∨ (p = .customer ∧ code.toNat = 0x49) := by
  have hport := commandClass_port_iff code
  have hop := commandClass_operation_iff code
  have hconfig := commandClass_config_iff code
  have heq : ∀ n : Byte, code = n ↔ code.toNat = n.toNat := fun n => BitVec.toNat_inj.symm
  obtain hc | hc | hc | hc | hc := commandClass_cases code
  · exact absurd hc hknown
  · exact absurd hc hread
  · have := hport.mp hc
    cases p <;> simp [acceptedOn, hc, heq] <;> omega
  · have := hop.mp hc
    cases p <;> simp [acceptedOn, hc, heq] <;> omega
  · have := hconfig.mp hc
    cases p <;> simp [acceptedOn, hc] <;> omega

theorem lockAllows_iff (s : State) : s.lockAllows = true ↔ s.Unlocked := by
  unfold State.lockAllows State.Unlocked
  cases s.config.lockMode <;> simp

/-- Settles O51: each refusal is the first check that fails, and ends the transaction alone. -/
theorem writeChecksInOrder : Obligations.WriteChecksInOrder := by
  unfold Obligations.WriteChecksInOrder
  intro i p fr code args s hwf hb known accepted after refused
  obtain ⟨hread, hargs⟩ := writeBytes_code hwf hb
  have hexec := exec_of_writeBytes hwf hb s
  have hport := commandClass_port_iff code
  have hop := commandClass_operation_iff code
  have hconfig := commandClass_config_iff code
  refine ⟨fun hsel => ?_, fun hsel => ?_⟩
  · rw [hexec, takeWrite, if_neg (fun h => hsel ?_)]
    simpa [State.atCommand, State.running, State.Selected] using h
  have hafter : framedBytes fr code = after := by cases fr <;> simp [framedBytes, after, hargs]
  have refuses : ∀ {r : Result}, r ≠ .ok → writeChecks p code fr s = some r → refused r := fun {r} hr hchecks => by
    have := takeWrite_refused (ownOf i) hsel.atCommand hchecks
    rw [endWriting_refused hr, hafter, clearsLatch_of_write hread] at this
    exact hexec.trans (congrArg _ this)
  have hknown : known ↔ (commandClass code).isSome = true := by
    obtain hc | hc | hc | hc | hc := commandClass_cases code
    · simp only [hc] at hport hop hconfig; simp [known, hc] at *; omega
    · exact absurd hc hread
    · simp only [hc] at hport; simp [known, hc] at *; omega
    · simp only [hc] at hop; simp [known, hc] at *; omega
    · simp only [hc] at hconfig; simp [known, hc] at *; omega
  refine ⟨fun hbad => ?_, fun hk hfr => ⟨fun hacc => ?_, fun hacc => ⟨fun hhold => ?_, fun hhold => ⟨fun hclass hlatch => ?_,
    fun hclass hlatch hlock => ?_⟩⟩⟩⟩
  · refine refuses (by decide) ?_
    rw [hknown] at hbad
    unfold writeChecks
    rcases hbad with h | h
    · rw [if_pos (by simpa using h)]
    · split_ifs <;> rfl
  all_goals
    have hsome := hknown.mp hk
    have hne : commandClass code ≠ none := Option.isSome_iff_ne_none.mp hsome
    have hin : ¬ (commandClass code).isNone = true := by simpa using hne
    have hacc' := acceptedOn_iff p hread hne
  · refine refuses (by decide) ?_
    have : (!acceptedOn code p) = true := by simpa using mt hacc'.mp hacc
    rw [writeChecks, if_neg hin, if_neg (not_not.mpr hfr), if_pos this]
  all_goals
    have hpass : ¬ (!acceptedOn code p) = true := by simpa using hacc'.mpr hacc
  · refine refuses (by decide) ?_
    rw [writeChecks, if_neg hin, if_neg (not_not.mpr hfr), if_neg hpass, if_pos hhold]
  · refine refuses (by decide) ?_
    have hneeds : needsLatch code = true := by
      have : commandClass code = some .operation ∨ commandClass code = some .config := by
        rw [hop, hconfig]; omega
      rcases this with h | h <;> simp [needsLatch, h]
    rw [writeChecks, if_neg hin, if_neg (not_not.mpr hfr), if_neg hpass, if_neg (by simp [hhold]),
      if_pos (by simp [hneeds, hlatch])]
  · refine refuses (by decide) ?_
    have hcfg : commandClass code = some .config := by rw [hconfig]; omega
    have hno : s.lockAllows = false := by simpa using mt (lockAllows_iff s).mp hlock
    rw [writeChecks, if_neg hin, if_neg (not_not.mpr hfr), if_neg hpass, if_neg (by simp [hhold]),
      if_neg (by simp [hlatch]), if_pos (by simp [hcfg, hno])]

/-- A PORT-class command that its port accepts. -/
theorem exec_port_passed {i : Instr} {p : Port} {code : Byte} {args : List Byte} (hwf : i.wellFormed = true)
    (hb : writeBytes i = some (p, .whole, code, args)) (hclass : commandClass code = some .port)
    (hacc : acceptedOn code p = true) {s : State} (h : s.TakesPort p) :
    exec i s = .next ((ownOf i s).2.finish p code (ownOf i s).1 ((ownOf i s).2.port p).latch
      (p == .utility && code == 0x34 && (ownOf i s).1 == .ok)) := by
  obtain ⟨hsel, hhold⟩ := h
  have hchecks : writeChecks p code .whole s = none := by simp [writeChecks, hacc, hclass, hhold, needsLatch]
  rw [exec_of_writeBytes hwf hb, takeWrite_passed _ hsel.atCommand hchecks, endWriting_whole]
  simp [clearsLatch, hclass]

/-- A transaction ends alike whatever the latch was set to on the way. -/
theorem State.finish_setPort_latch (s : State) (p : Port) (b : Bool) (code : Byte) (r : Result) (latch arm : Bool) :
    (s.setPort p { s.port p with latch := b }).finish p code r latch arm = s.finish p code r latch arm := by
  simp [State.finish, State.finishAfter]

/-- Settles O52: each command's own effect, with the end of its transaction. -/
theorem portCommandsTakeEffect : Obligations.PortCommandsTakeEffect := by
  unfold Obligations.PortCommandsTakeEffect
  intro p s hs
  refine ⟨?_, ?_, ?_, fun m => ?_, fun hp => ?_, fun hp => ?_⟩
  · rw [exec_port_passed rfl rfl rfl (by cases p <;> rfl) hs]
    simp [ownOf, ownEnableWrite, State.finish_setPort_latch]
  · rw [exec_port_passed rfl rfl rfl (by cases p <;> rfl) hs]
    simp [ownOf, ownDisableWrite, State.finish_setPort_latch]
  · rw [exec_port_passed rfl rfl rfl (by cases p <;> rfl) hs]
    simp [ownOf, ownAttentionEnable, State.setAttn]
  · rw [exec_port_passed rfl rfl rfl (by cases p <;> rfl) hs]
    have hmask : m.extractLsb' 0 14 = BitVec.ofNat 14 m.toNat := by
      apply BitVec.eq_of_toNat_eq; simp
    simp [ownOf, ownSetEventMask, State.setAttn, hmask]
  · subst hp
    rw [exec_port_passed rfl rfl rfl rfl hs]
    simp [ownOf, ownResetEnable]
  · subst hp
    obtain ⟨hsel, hhold⟩ := hs
    have hchecks : writeChecks .customer 0x34 .whole s = some .denied := rfl
    rw [exec_of_writeBytes (args := []) rfl rfl, takeWrite_refused _ hsel.atCommand hchecks, endWriting_refused (by decide)]
    simp [State.finish, framedBytes, clearsLatch, commandClass]

/-! ## Bytes (section 12.1, R159) -/

theorem bytes16_joined (v : BitVec 16) : v.extractLsb' 8 8 ++ v.extractLsb' 0 8 = v :=
  (BitVec.extractLsb'_append_extractLsb'_eq_extractLsb' rfl).trans BitVec.extractLsb'_eq_self

theorem bytes24_joined (v : BitVec 24) : v.extractLsb' 16 8 ++ v.extractLsb' 8 8 ++ v.extractLsb' 0 8 = v := by
  have hhigh : v.extractLsb' 16 8 ++ v.extractLsb' 8 8 = v.extractLsb' 8 16 :=
    BitVec.extractLsb'_append_extractLsb'_eq_extractLsb' rfl
  rw [hhigh]
  exact (BitVec.extractLsb'_append_extractLsb'_eq_extractLsb' rfl).trans BitVec.extractLsb'_eq_self

theorem bytes32_joined (v : BitVec 32) :
    (v.extractLsb' 24 8 ++ v.extractLsb' 16 8) ++ (v.extractLsb' 8 8 ++ v.extractLsb' 0 8) = v := by
  have hhigh : v.extractLsb' 24 8 ++ v.extractLsb' 16 8 = v.extractLsb' 16 16 :=
    BitVec.extractLsb'_append_extractLsb'_eq_extractLsb' rfl
  have hlow : v.extractLsb' 8 8 ++ v.extractLsb' 0 8 = v.extractLsb' 0 16 :=
    BitVec.extractLsb'_append_extractLsb'_eq_extractLsb' rfl
  rw [hhigh, hlow]
  exact (BitVec.extractLsb'_append_extractLsb'_eq_extractLsb' rfl).trans BitVec.extractLsb'_eq_self

/-- A code of no READ class is taken as a write of that code, with some judgement of its own. -/
theorem takeWriteCode_takeWrite {code : Byte} (hread : commandClass code ≠ some .read) (p : Port) (fr : Framing)
    (args : List Byte) (f : Bool) (s : State) : ∃ own, takeWriteCode p code fr args f s = takeWrite p code fr own s := by
  unfold takeWriteCode
  split
  case h_22 =>
    simp only [imp_false] at *
    have hnone : commandClass code = none := by
      obtain hc | hc | hc | hc | hc := commandClass_cases code
      · exact hc
      · exact absurd hc hread
      · have := (commandClass_port_iff code).mp hc; omega
      · have := (commandClass_operation_iff code).mp hc; omega
      · have := (commandClass_config_iff code).mp hc; omega
    exact ⟨_, if_pos (by simp [hnone])⟩
  all_goals rename_i hc; obtain rfl := eq_of_toNat_eq hc; exact ⟨_, rfl⟩

theorem takeWriteCode_unknown {code : Byte} (hnone : commandClass code = none) (p : Port) (fr : Framing) (args : List Byte)
    (f : Bool) (s : State) : takeWriteCode p code fr args f s = takeUnknownCommand p fr code s := by
  unfold takeWriteCode
  split
  case h_22 => rfl
  all_goals rename_i hc; obtain rfl := eq_of_toNat_eq hc; exact absurd hnone (by decide)

/-- The bytes of a whole write-class row are taken as that row. -/
theorem takeWriteCode_of_bytes {i : Instr} {p : Port} {fr : Framing} {code : Byte} {args : List Byte} {f : Bool}
    (hwf : i.wellFormed = true) (h : writeBytes i = some (p, fr, code, args))
    (hf : ∀ v b, i = .adjustTime p fr v b → b = f) (s : State) : takeWriteCode p code fr args f s = effect i s := by
  cases i
  case unknownCommand =>
    obtain ⟨rfl, rfl, rfl, rfl⟩ := h
    exact takeWriteCode_unknown (Option.isNone_iff_eq_none.mp hwf) ..
  case adjustTime v b =>
    obtain ⟨rfl, rfl, rfl, rfl⟩ := h
    obtain rfl := hf _ _ rfl
    show takeAdjustTime _ _ (v.extractLsb' 8 8 ++ v.extractLsb' 0 8) _ s = _
    rw [bytes16_joined]; rfl
  case setEventMask => 
    obtain ⟨rfl, rfl, rfl, rfl⟩ := h
    exact congrArg (takeSetEventMask _ _ · s) (bytes16_joined _)
  case writeSwitchQuad e =>
    obtain ⟨rfl, rfl, rfl, rfl⟩ := h
    show takeWriteSwitchQuad _ _ _ _ ⟨⟨e.e0.minute.extractLsb' 8 8 ++ e.e0.minute.extractLsb' 0 8, e.e0.rate⟩,
      ⟨e.e1.minute.extractLsb' 8 8 ++ e.e1.minute.extractLsb' 0 8, e.e1.rate⟩,
      ⟨e.e2.minute.extractLsb' 8 8 ++ e.e2.minute.extractLsb' 0 8, e.e2.rate⟩,
      ⟨e.e3.minute.extractLsb' 8 8 ++ e.e3.minute.extractLsb' 0 8, e.e3.rate⟩⟩ s = _
    simp only [bytes16_joined]; rfl
  case writeHolidayQuad d =>
    obtain ⟨rfl, rfl, rfl, rfl⟩ := h
    show takeWriteHolidayQuad _ _ _ ⟨d.e0.extractLsb' 8 8 ++ d.e0.extractLsb' 0 8,
      d.e1.extractLsb' 8 8 ++ d.e1.extractLsb' 0 8, d.e2.extractLsb' 8 8 ++ d.e2.extractLsb' 0 8,
      d.e3.extractLsb' 8 8 ++ d.e3.extractLsb' 0 8⟩ s = _
    simp only [bytes16_joined]; rfl
  case writeCloseDateQuad d =>
    obtain ⟨rfl, rfl, rfl, rfl⟩ := h
    show takeWriteCloseDateQuad _ _ _ ⟨d.e0.extractLsb' 8 8 ++ d.e0.extractLsb' 0 8,
      d.e1.extractLsb' 8 8 ++ d.e1.extractLsb' 0 8, d.e2.extractLsb' 8 8 ++ d.e2.extractLsb' 0 8,
      d.e3.extractLsb' 8 8 ++ d.e3.extractLsb' 0 8⟩ s = _
    simp only [bytes16_joined]; rfl
  case activateSchedule =>
    obtain ⟨rfl, rfl, rfl, rfl⟩ := h
    exact congrArg (takeActivateSchedule _ _ · s) (bytes16_joined _)
  case writeLimit a =>
    obtain ⟨rfl, rfl, rfl, rfl⟩ := h
    show takeWriteLimit _ _ ⟨a.comparator, a.enable, a.quantity,
      (a.threshold.extractLsb' 24 8 ++ a.threshold.extractLsb' 16 8) ++ (a.threshold.extractLsb' 8 8 ++ a.threshold.extractLsb' 0 8),
      (a.hysteresis.extractLsb' 24 8 ++ a.hysteresis.extractLsb' 16 8) ++ (a.hysteresis.extractLsb' 8 8 ++ a.hysteresis.extractLsb' 0 8),
      a.minHold.extractLsb' 8 8 ++ a.minHold.extractLsb' 0 8, a.shed⟩ s = _
    simp only [bytes16_joined, bytes32_joined]; rfl
  case writeConfigItem n v =>
    obtain ⟨rfl, rfl, rfl, rfl⟩ := h
    show takeWriteConfigItem _ _ (n.extractLsb' 8 8 ++ n.extractLsb' 0 8)
      ((v.extractLsb' 24 8 ++ v.extractLsb' 16 8) ++ (v.extractLsb' 8 8 ++ v.extractLsb' 0 8)) s = _
    rw [bytes16_joined, bytes32_joined]; rfl
  case setTime d t =>
    obtain ⟨rfl, rfl, rfl, rfl⟩ := h
    show takeSetTime _ _ (d.extractLsb' 8 8 ++ d.extractLsb' 0 8)
      (t.extractLsb' 16 8 ++ t.extractLsb' 8 8 ++ t.extractLsb' 0 8) s = _
    rw [bytes16_joined, bytes24_joined]; rfl
  all_goals first | (obtain ⟨rfl, rfl, rfl, rfl⟩ := h; rfl) | cases h

/-- The bytes of a READ-class row are taken as that row, whatever follows them. -/
theorem takeReadCode_of_bytes {i : Instr} {p : Port} {code : Byte} {args : List Byte}
    (h : readBytes i = some (p, code, args)) (more : List Byte) (s : State) :
    takeReadCode p code (args ++ more) s = effect i s := by
  cases i
  case readConfigItem n =>
    obtain ⟨rfl, rfl, rfl⟩ := h
    exact congrArg (takeReadConfigItem _ · s) (bytes16_joined _)
  case setProfileCursor d t q =>
    obtain ⟨rfl, rfl, rfl⟩ := h
    exact congrArg (takeSetProfileCursor _ _ _ · s) (bytes32_joined _)
  case setProfileWindow k a b =>
    obtain ⟨rfl, rfl, rfl⟩ := h
    show takeSetProfileWindow _ _ ((a.extractLsb' 24 8 ++ a.extractLsb' 16 8) ++ (a.extractLsb' 8 8 ++ a.extractLsb' 0 8))
      ((b.extractLsb' 24 8 ++ b.extractLsb' 16 8) ++ (b.extractLsb' 8 8 ++ b.extractLsb' 0 8)) s = _
    rw [bytes32_joined, bytes32_joined]; rfl
  all_goals first | (obtain ⟨rfl, rfl, rfl⟩ := h; rfl) | cases h

theorem readBytes_code {i : Instr} {p : Port} {code : Byte} {args : List Byte} (h : readBytes i = some (p, code, args)) :
    commandClass code = some .read ∧ commandArgs code = args.length := by
  cases i
  all_goals first | (obtain ⟨rfl, rfl, rfl⟩ := h; exact ⟨rfl, rfl⟩) | cases h

/-- A READ-class command taken stands past its snapshot instant. -/
theorem takeReadCode_tx {p : Port} {code : Byte} (hread : commandClass code = some .read) (args : List Byte) {s : State}
    (hsel : s.Selected p) : ∃ reply e, ((takeReadCode p code args s).port p).tx = .replying code reply e := by
  have htaken : ∀ a, ((snapshotRead p code a s).port p).tx = .replying code (replyOf s a) a.effect := fun a => by
    rw [snapshotRead_taken code a hsel.atCommand]; simp [PortState.snapped]
  have hrange := (commandClass_read_iff code).mp hread
  unfold takeReadCode
  split
  case h_18 hc =>
    obtain rfl := eq_of_toNat_eq hc
    refine ⟨replyOf s (unlessHold s (previewAnswer p s)), (unlessHold s (previewAnswer p s)).effect, ?_⟩
    unfold takeRequestPreview
    dsimp only
    split
    · rw [State.setPort_port]; exact htaken _
    · exact htaken _
  case h_21 => simp only [imp_false] at *; omega
  all_goals rename_i hc; obtain rfl := eq_of_toNat_eq hc; exact ⟨_, _, htaken _⟩

theorem takeReadCode_sup (p : Port) (code : Byte) (args : List Byte) (s : State) :
    (takeReadCode p code args s).sup = s.sup := by
  obtain ⟨x, -, h⟩ := takeReadCode_onPort p code args s
  rw [h]; simp

theorem exec_selectRise_selected {p : Port} {s : State} (hsel : s.Selected p) (bytes : List Byte) (n : Nat) (d f : Bool) :
    exec (.selectRise p bytes n d f) s = .next (riseSelected p bytes n d f s) := by
  obtain ⟨hmain, htx⟩ := hsel
  change Host.Outcome.next (whileRunning (riseSelect p bytes n d f) s) = _
  rw [whileRunning, if_pos hmain, riseSelect, htx]

theorem takeWrite_broken {p : Port} {code : Byte} {fr : Framing} (hfr : fr ≠ .whole) (own own' : State → Result × State)
    (s : State) : takeWrite p code fr own s = takeWrite p code fr own' s := by
  have hchecks : ∃ r, writeChecks p code fr s = some r := by
    unfold writeChecks
    split_ifs <;> exact ⟨_, rfl⟩
  obtain ⟨r, hr⟩ := hchecks
  unfold takeWrite judgeWrite
  rw [hr]

/-- Settles O54: the bytes parsed back, for a write by its framing, and for a READ by what follows its arguments. -/
theorem transactionBytesRunTheirCommand : Obligations.TransactionBytesRunTheirCommand := by
  unfold Obligations.TransactionBytesRunTheirCommand
  intro i p code args s hsel
  refine ⟨fun d f hwf hb hf => ?_, fun d f given k hwf hb hcut => ?_, fun d f more k t hb ht => ?_, fun d f given k hb hcut => ?_⟩
  · obtain ⟨hread, hargs⟩ := writeBytes_code hwf hb
    rw [exec_selectRise_selected hsel, exec_eq_effect, ← takeWriteCode_of_bytes hwf hb hf s, riseSelected, if_neg hread, framingOf,
      if_pos ⟨hargs.symm, rfl⟩]
  · obtain ⟨hread, hargs⟩ := writeBytes_code hwf hb
    obtain ⟨own, hown⟩ := takeWriteCode_takeWrite hread p (.broken given.length) given f s
    rw [exec_selectRise_selected hsel, exec_of_writeBytes hwf hb, riseSelected, if_neg hread, framingOf,
      if_neg (by rw [hargs]; tauto), hown, takeWrite_broken (by simp)]
  · obtain ⟨hread, hargs⟩ := readBytes_code hb
    have htaken := takeReadCode_of_bytes hb more s
    have heffect : effect i s = t := effect_of_exec ht
    obtain ⟨reply, e, htx⟩ := takeReadCode_tx hread (args ++ more) hsel
    have hsup := takeReadCode_sup p code (args ++ more) s
    rw [htaken, heffect] at htx hsup
    rw [exec_selectRise_selected hsel, riseSelected, if_pos hread, riseAfterRead, if_neg (by simp [hargs]), htaken, heffect,
      exec_selectRise_replying (by rw [hsup]; exact hsel.1) htx, finishReading, htx]
    simp [hargs]
  · obtain ⟨hread, hargs⟩ := readBytes_code hb
    rw [exec_selectRise_selected hsel, riseSelected, if_pos hread, riseAfterRead, if_pos (by omega)]
    rfl

/-! ## The end of a reading (R161, R191) -/

/-- The effect of a READ-class command touches the cursor and the unit of its port alone. -/
theorem applyEffect_port (p : Port) (e : ReadEffect) (k : Nat) (s : State) :
    ∃ c u, applyEffect p e k s = s.setPort p { s.port p with cursor := c, attn := u } := by
  have none : ∃ c u, s = s.setPort p { s.port p with cursor := c, attn := u } := ⟨_, _, (s.setPort_self p).symm⟩
  have placed : ∀ c, ∃ c' u, placeChecked p c s = s.setPort p { s.port p with cursor := c', attn := u } := by
    intro c
    unfold placeChecked
    dsimp only
    split
    · split <;> exact ⟨_, _, rfl⟩
    · split_ifs <;> exact ⟨_, _, rfl⟩
    · exact ⟨_, _, rfl⟩
  cases e with
  | none => exact none
  | advance steps =>
    unfold applyEffect
    dsimp only
    split
    · exact placed _
    · exact none
  | place n c =>
    unfold applyEffect
    dsimp only
    split
    · exact placed _
    · exact none
  | fetch g mask =>
    unfold applyEffect
    dsimp only
    split
    · exact ⟨_, _, rfl⟩
    · exact none
  | test bit =>
    cases bit with
    | none => exact none
    | some b =>
      unfold applyEffect
      dsimp only
      split
      · exact ⟨_, _, rfl⟩
      · exact none

/-- The end of a reading: the bytes driven on data out, and the port idle with nothing armed. -/
theorem endReading_port (p : Port) (reply : List Byte) (e : ReadEffect) (k : Nat) (s : State) : ∃ c u,
    endReading p reply e k s = s.setPort p { s.port p with
      tx := .idle, arm := false, pattern := 0, dataOut := (s.port p).dataOut ++ drivenReply reply k, cursor := c, attn := u } := by
  obtain ⟨c, u, h⟩ := applyEffect_port p e k s
  refine ⟨c, u, ?_⟩
  rw [endReading, h]
  simp [PortState.endRead]

/-- What data out drives after a snapshot instant, byte by byte (R191). -/
theorem drivenReply_eq (reply : List Byte) (k : Nat) :
    drivenReply reply k = (List.range k).map (fun i => (reply[i]?).getD 0xFF) := by
  refine List.ext_getElem (by simp [drivenReply, fillers]; omega) fun i h h' => ?_
  by_cases hi : i < reply.length
  · have hk : i < k := by simpa using h'
    simp [drivenReply, hi, hk]
  · simp [drivenReply, fillers, filler, List.getElem_append, hi]

/-- Settles O55: a void transaction by its pattern count, a transaction with bytes by its class, and the end of a
reading by `endReading_port`. -/
theorem selectAndPortReset : Obligations.SelectAndPortReset := by
  unfold Obligations.SelectAndPortReset
  intro p s
  refine ⟨fun hmain htx => ⟨?_, fun bytes n d f => ?_⟩, fun hsel => ?_, fun code reply e bytes n d f hmain htx => ?_⟩
  · change Host.Outcome.next (beginTransaction p s) = _
    rw [beginTransaction, if_pos (by simp [State.running, hmain, htx])]
  · change Host.Outcome.next (whileRunning (riseSelect p bytes n d f) s) = _
    rw [whileRunning, if_pos hmain, riseSelect, htx]
  · have hvoid : ∀ d f, exec (.selectRise p [] 0 d f) s = .next (s.setPort p ((s.port p).voidRise d)) :=
      fun d f => exec_selectRise_selected hsel [] 0 d f
    refine ⟨fun n d f hn => ?_, fun d f hlt hd => ?_, fun d f hle hd => ?_, fun byte rest n d f => ?_, fun hthree => ⟨fun f => ?_, ?_⟩⟩
    · rw [exec_selectRise_selected hsel, riseSelected, voidTransaction, if_neg (by omega)]
    · have hlevel : d = expectedLevel (s.port p).pattern := by
        rw [hd, expectedLevel]; interval_cases (s.port p).pattern <;> rfl
      rw [hvoid, PortState.voidRise, if_pos hlevel, if_neg (by omega)]
    · have hlevel : ¬ d = expectedLevel (s.port p).pattern := by
        intro h; apply hd
        rw [h, expectedLevel]; interval_cases (s.port p).pattern <;> rfl
      rw [hvoid, PortState.voidRise, if_neg hlevel]
    · rw [exec_selectRise_selected hsel, riseSelected]
      refine ⟨_, rfl, ?_⟩
      split_ifs with hread
      · rw [riseAfterRead]
        split_ifs
        · simp [PortState.endRead]
        · obtain ⟨reply, e, htx⟩ := takeReadCode_tx hread rest hsel
          obtain ⟨c, u, hend⟩ := endReading_port p reply e (rest.length - commandArgs byte) (takeReadCode p byte rest s)
          rw [finishReading, htx]
          exact (congrArg (fun t : State => (t.port p).pattern) hend).trans (by simp)
      · obtain ⟨own, hown⟩ := takeWriteCode_takeWrite hread p (framingOf byte rest n) rest f s
        rw [hown, takeWrite, if_pos hsel.atCommand]
        simp [endWriting, PortState.endWrite]
    · have hlevel : true = expectedLevel (s.port p).pattern := by rw [hthree]; rfl
      rw [hvoid, PortState.voidRise, if_pos hlevel, if_pos hthree]; rfl
    · change Host.Outcome.next (portReset p s) = _
      rw [portReset, if_pos (by simp [hsel.atCommand, hthree])]; rfl
  · obtain ⟨c, u, hend⟩ := endReading_port p reply e bytes.length s
    refine ⟨_, exec_selectRise_replying hmain htx bytes n d f, ?_⟩
    rw [hend, drivenReply_eq]
    simp

/-! ## Event Test (R178, R180) -/

/-- A READ-class command of a port at its snapshot instant, spelled as the rules list it (R161). -/
theorem snapshotRead_answered {p : Port} {s : State} (hsel : s.Selected p) (code : Byte) (a : Answer) :
    snapshotRead p code a s = s.answered p code a.result (if a.result = .ok then a.data else []) a.effect := by
  rw [snapshotRead_taken _ _ hsel.atCommand]
  simp [PortState.snapped, replyOf, State.answered, State.tag_eq_ofNat, fillers, filler]

theorem exec_eventTest {p : Port} {s : State} (h : s.TakesPort p) (n : Byte) : exec (.eventTest p n) s = .next
    (s.answered p 0x23 (testAnswer p n s).result (if (testAnswer p n s).result = .ok then (testAnswer p n s).data else [])
      (testAnswer p n s).effect) := by
  obtain ⟨hsel, hhold⟩ := h
  rw [exec_of_readBytes rfl (by decide), snapshotRead_answered hsel]
  simp [answerOf, unlessHold, hhold]

theorem applyEffect_test_attn (p : Port) (b : Nat) (k : Nat) (s : State) :
    ((applyEffect p (.test (some b)) k s).port p).attn
      = if 3 ≤ k then (s.port p).attn.clearBit b else (s.port p).attn := by
  unfold applyEffect
  dsimp only
  split <;> simp [State.setAttn]

theorem attnLevel_iff (u : AttentionUnit) : u.level = true ↔ u.has .supplyWarn = true
    ∨ (u.enable = true ∧ ∃ f : AttnFlag, 1 ≤ f.bit ∧ f.bit ≤ 14 ∧ u.has f = true ∧ u.mask.getLsbD (f.bit - 1) = false) := by
  have hany : (List.range' 1 14).any u.counts = true
      ↔ ∃ f : AttnFlag, 1 ≤ f.bit ∧ f.bit ≤ 14 ∧ u.has f = true ∧ u.mask.getLsbD (f.bit - 1) = false := by
    simp only [List.any_eq_true, List.mem_range'_1]
    constructor
    · rintro ⟨b, ⟨hlo, hhi⟩, hb⟩
      obtain ⟨f, rfl, hf⟩ := (u.counts_iff (by omega) (by omega)).mp hb
      exact ⟨f, hlo, by omega, hf⟩
    · rintro ⟨f, hlo, hhi, hf⟩
      exact ⟨f.bit, ⟨hlo, by omega⟩, (u.counts_iff (by omega) (by omega)).mpr ⟨f, rfl, hf⟩⟩
  rw [AttentionUnit.level, Bool.or_eq_true, Bool.and_eq_true]
  exact or_congr Iff.rfl (and_congr Iff.rfl hany)

theorem AttnFlag.bit_injective {f g : AttnFlag} (h : f.bit = g.bit) : f = g := by
  revert h; cases f <;> cases g <;> decide

/-- Settles O57: the answer by the flag number, and the rise of select by the clear of its bit. -/
theorem eventTestClears : Obligations.EventTestClears := by
  unfold Obligations.EventTestClears
  intro p s
  refine ⟨by simp [State.attnAsserted, State.running, attnLevel_iff], fun htakes => ⟨fun n hn => ?_, ?_, fun n f hf => ?_⟩⟩
  · have hrange : testAnswer p n s = .refuse .range := by
      rw [testAnswer, if_neg (by omega), if_neg (by omega)]
    rw [exec_eventTest htakes, hrange]; rfl
  · have hguard : testAnswer p 21 s = { result := .ok, data := byteField (boolCode s.pins.guard), effect := .test none } := rfl
    refine ⟨_, exec_eventTest htakes 21, ?_, fun bytes k d f0 => ?_⟩
    · rw [hguard]; cases s.pins.guard <;> rfl
    · have ⟨⟨hmain, _⟩, _⟩ := htakes
      rw [hguard]
      refine ⟨_, exec_selectRise_replying (by rwa [State.answered_sup]) (State.answered_tx ..) bytes k d f0,
        endReading_tx .., by rw [endReading_attn]; rfl, ?_⟩
      rw [endReading_pins]; simp [State.answered]
  · have hlt := f.bit_lt
    have htest : testAnswer p n s = { result := .ok, data := byteField (boolCode ((s.port p).attn.has f)), effect := .test (some f.bit) } := by
      rw [testAnswer, if_neg (by omega), if_pos (by omega), hf]; rfl
    have ⟨⟨hmain, _⟩, _⟩ := htakes
    have hexec := exec_eventTest htakes n
    rw [htest] at hexec
    refine ⟨_, hexec, ?_, fun bytes k d f0 => ⟨?_, ?_⟩⟩
    · cases (s.port p).attn.has f <;> rfl
    · refine ⟨_, exec_selectRise_replying (by rwa [State.answered_sup]) (State.answered_tx ..) bytes k d f0,
        endReading_tx .., ?_⟩
      rw [endReading_attn, applyEffect_test_attn, State.answered_attn]
      by_cases hclocked : 3 ≤ bytes.length
      · rw [if_pos hclocked]
        refine ⟨rfl, rfl, fun h => ?_⟩
        have hbit : h.bit = f.bit ↔ h = f := ⟨AttnFlag.bit_injective, congrArg _⟩
        rw [AttentionUnit.clearBit_has]
        simp [hclocked, hbit, AttentionUnit.has]
      · rw [if_neg hclocked]
        exact ⟨rfl, rfl, fun h => by simp [hclocked, AttentionUnit.has]⟩
    · refine ⟨_, exec_selectRise_replying (by simpa [State.answered_sup] using hmain)
        (by rw [State.raiseOn_port]; exact State.answered_tx ..) bytes k d f0, ?_⟩
      have hraised := AttentionUnit.has_raise ((s.answered p 0x23 .ok (byteField (boolCode ((s.port p).attn.has f)))
        (.test (some f.bit))).port p).attn f f
      rw [endReading_attn, applyEffect_test_attn, State.raiseOn_port]
      split
      · rw [AttentionUnit.clearBit_has, AttentionUnit.raise_fresh, Bool.or_true, Bool.and_true]
        simpa using hraised
      · simpa using hraised

/-! ## Previews (R122, R123) -/

/-- Settles O46: the answer in its order, the copy taken at the snapshot instant, and the completion on its own port. -/
theorem previewRunsOnItsCopy : Obligations.PreviewRunsOnItsCopy := by
  unfold Obligations.PreviewRunsOnItsCopy
  refine fun p s => ⟨fun hsel => ?_, fun x hmain hx => ?_⟩
  · have hexec : ∀ a, unlessHold s (previewAnswer p s) = a → exec (.requestPreview p) s = .next (if a.result = .ok then
        (s.answered p 0x21 a.result (if a.result = .ok then a.data else []) a.effect).setPort p
          { (s.answered p 0x21 a.result (if a.result = .ok then a.data else []) a.effect).port p with
            preview := some (takeSnapshot .preview s) }
        else s.answered p 0x21 a.result (if a.result = .ok then a.data else []) a.effect) := by
      rintro a rfl
      change Host.Outcome.next (takeRequestPreview p s) = _
      rw [takeRequestPreview]
      dsimp only
      rw [snapshotRead_answered hsel]
      simp only [hsel.atCommand, Bool.true_and, beq_iff_eq]
    refine ⟨fun hhold => ?_, fun hhold hbusy => ?_, fun hhold hidle hnone => ?_⟩
    · rw [hexec (.refuse .hold) (by simp [unlessHold, hhold])]; rfl
    · have hanswer : previewAnswer p s = .refuse .busy := by
        unfold previewAnswer
        split_ifs with h1 h2
        · rfl
        · rfl
        · refine absurd hbusy ?_
          rw [not_or, not_not, not_not]
          exact ⟨(State.closeIdle_iff s).mp (by simpa using h1), by simpa using h2⟩
      rw [hexec (.refuse .busy) (by simp [unlessHold, hhold, hanswer])]; rfl
    · have hanswer : previewAnswer p s = .ok (beBytes 4 s.per.number.toNat) := by
        simp [previewAnswer, (State.closeIdle_iff s).mpr hidle, hnone]
      rw [hexec (.ok (beBytes 4 s.per.number.toNat)) (by simp [unlessHold, hhold, hanswer])]; rfl
  · refine ⟨completePreview p x s, ?_, ?_⟩
    · change Host.Outcome.next (whileRunning (previewCompletion p) s) = _
      rw [whileRunning, if_pos hmain, previewCompletion, hx]
    · have hport : (completePreview p x s).port p
          = { s.port p with preview := none, previewRec := some x.record, attn := (s.port p).attn.raise .previewReady } := by
        simp [completePreview, State.raiseOn]
      have hothers : ∀ q, q ≠ p → (completePreview p x s).port q = s.port q := fun q hq => by
        
        rw [completePreview, State.raiseOn, State.setPort_port_other _ _ hq, State.setPort_port_other _ _ hq]
      refine ⟨by rw [hport], by rw [hport]; rfl, by rw [hport]; rfl, fun q f => ?_, hothers, ?_⟩
      · by_cases hq : q = p
        · subst hq
          rw [hport]
          simp [AttentionUnit.has_raise]
        · rw [hothers q hq]; simp [hq]
      · cases p <;> rfl

/-! ## Hold and the loss of supply (R183 to R186) -/

/-- Without the main supply a row that neither counts on VBAT nor starts the part reaches nothing (R186). -/
theorem exec_without_supply {s : State} (hmain : s.sup.mainSupply = false) {c : Instr} (hsec : ∀ b, c ≠ .secondEvent b)
    (hret : c ≠ .retentionInvalid) (hcold : ∀ lv, c ≠ .coldStart lv) (hwarm : ∀ lv, c ≠ .warmStart lv) : exec c s = .next s := by
  have hno : ¬ s.running = true := by simp [State.running, hmain]
  have hat : ∀ p, ¬ s.atCommand p = true := fun p => by simp [State.atCommand, State.running, hmain]
  cases c
  case secondEvent b => exact absurd rfl (hsec b)
  case retentionInvalid => exact absurd rfl hret
  case coldStart lv => exact absurd rfl (hcold lv)
  case warmStart lv => exact absurd rfl (hwarm lv)
  case linkFrame f => exact congrArg Host.Outcome.next (if_neg (by simp [takesFrame, hno]))
  case selectFall p => exact congrArg Host.Outcome.next (if_neg (by simp [hno]))
  case portReset p => exact congrArg Host.Outcome.next (if_neg (by simp [hat]))
  case requestPreview p =>
    refine congrArg Host.Outcome.next ?_
    simp [takeRequestPreview, snapshotRead, hat]
  case unknownCommand p code fr =>
    refine congrArg Host.Outcome.next ?_
    simp [takeUnknownCommand, takeWrite, hat]
  all_goals first | exact congrArg Host.Outcome.next (if_neg hno) | exact congrArg Host.Outcome.next (if_neg (hat _))

/-- Settles O58: each event by the level before it, and, without the main supply, each row by its guard. -/
theorem holdLevelsAndSupplyLoss : Obligations.HoldLevelsAndSupplyLoss := by
  unfold Obligations.HoldLevelsAndSupplyLoss
  refine ⟨fun s hmain => ⟨fun hfail => ⟨enterHold s, ?_, ?_⟩, fun hfail => ⟨releaseHold s, ?_, ?_⟩⟩,
    fun s => ⟨fun hmain => ⟨?_, ?_, fun hsync => ?_, fun b => ?_, ?_⟩, fun hmain => ⟨?_, fun c h1 h2 h3 h4 => ?_⟩⟩⟩
  · change Host.Outcome.next (whileRunning (fun s => if s.pins.pfail then s else enterHold s) s) = _
    rw [whileRunning, if_pos hmain, if_neg (by simp [hfail])]
  · have hsub : (enterHold s).sub = { s.sub with status := s.sub.status.mark .outage } := rfl
    have hport : ∀ p, (enterHold s).port p
        = { s.port p with latch := false, arm := false, attn := (s.port p).attn.raise .supplyWarn } :=
      fun p => by cases p <;> rfl
    refine ⟨rfl, fun p => ?_, fun f => ?_, fun p => ?_, ?_⟩
    rotate_right
    · rw [hsub]
      refine State.ext_fields ?_ ?_ ?_ ?_ ?_ ?_ ?_ ?_ ?_ ?_ ?_ ?_ ?_ ?_ ?_ ?_ <;> rfl
    · rw [hport]
      exact ⟨rfl, rfl, fun f => by simp [AttentionUnit.has_raise]⟩
    · rw [hsub]
      simp [StatusSet.has_mark]
    · rw [hport]
  · change Host.Outcome.next (whileRunning (fun s => if s.pins.pfail then releaseHold s else s) s) = _
    rw [whileRunning, if_pos hmain, if_pos hfail]
  · have hsub : (releaseHold s).sub = { s.sub with status := s.sub.status.mark .outage } := rfl
    exact ⟨fun f => by rw [hsub]; simp [StatusSet.has_mark], rfl⟩
  · change Host.Outcome.next (whileRunning loseSupply s) = _
    rw [whileRunning, if_pos hmain]; rfl
  · change Host.Outcome.next (whileRunning (fun s => s.setPins { s.pins with sync := false }) s) = _
    rw [whileRunning, if_pos hmain]; rfl
  · change Host.Outcome.next (whileRunning (fun s => if s.pins.sync then s else syncPulse s) s) = _
    rw [whileRunning, if_pos hmain]
    split_ifs with hlevel
    · exact congrArg Host.Outcome.next (congrArg s.setPins (by rw [← hlevel]) : s.setPins s.pins = _)
    · have hmode := hsync.resolve_right hlevel
      have hpulse : syncPulse s = s.setPins { s.pins with sync := true } := by
        simp [syncPulse, State.config, show s.store.config.syncMode = .internal from hmode]
      rw [hpulse]; rfl
  · change Host.Outcome.next (whileRunning (fun s => s.setPins { s.pins with guard := b }) s) = _
    rw [whileRunning, if_pos hmain]; rfl
  · exact congrArg Host.Outcome.next (if_pos hmain)
  · exact congrArg Host.Outcome.next (if_neg (by simp [State.running, hmain]))
  · exact exec_without_supply hmain h1 h2 h3 h4

end Sys2Proof.Machine
end

section
/-! PROOFS. The commands that begin a store write (R35 to R41, R146, R165 to R169): their refusals in order, and the item
they store. -/

namespace Sys2Proof.Machine

open Sys2Proof

/-! ## Judgements -/

/-- A judgement of a command ended on its port: what it answers, and what it leaves (R162). -/
def Judged.ended (j : Judged) (p : Port) (code : Byte) : State := j.2.finish p code j.1 false false

theorem refuse_ended (r : Result) (s : State) (p : Port) (code : Byte) :
    (refuse r s).ended p code = s.finish p code r false false := rfl

theorem storeItem_ended (i : StoreItem) (s : State) (p : Port) (code : Byte) :
    (storeItem p i s).ended p code = (s.storing p i).finish p code .ok false false := rfl

theorem schedArmed_iff (s : State) : s.schedArmed = true ↔ ∃ t day, s.store.pendSched = .armed t day := by
  unfold State.schedArmed
  cases s.store.pendSched <;> simp

theorem storeBusy_iff (s : State) : s.storeBusy = true ↔ s.store.writing ≠ none := by
  simp [State.storeBusy, Option.isSome_iff_ne_none]

/-- The checks of a pending write come before its own (R35). -/
theorem pendingWrite_eq (own : State → Judged) (s : State) : pendingWrite own s =
    if s.schedArmed = true ∨ s.store.writing ≠ none then refuse .busy s else own s := by
  simp only [← storeBusy_iff]
  unfold pendingWrite checkThen
  cases s.schedArmed <;> cases s.storeBusy <;> rfl

theorem pendingWrite_busy (own : State → Judged) {s : State}
    (h : (∃ t day, s.store.pendSched = .armed t day) ∨ s.store.writing ≠ none) : pendingWrite own s = refuse .busy s := by
  rw [pendingWrite_eq, if_pos (h.imp_left (schedArmed_iff s).mpr)]

theorem pendingWrite_of_free (own : State → Judged) {s : State} (hsched : ∀ t day, s.store.pendSched ≠ .armed t day)
    (hidle : s.store.writing = none) : pendingWrite own s = own s := by
  rw [pendingWrite_eq, if_neg]
  rintro (h | h)
  · obtain ⟨t, day, h⟩ := (schedArmed_iff s).mp h
    exact hsched t day h
  · exact h hidle

theorem storeOrRange_ite (c : Prop) [Decidable c] (p : Port) (i : StoreItem) (s : State) :
    storeOrRange p (if c then some i else none) s = if c then storeItem p i s else refuse .range s := by
  split_ifs <;> rfl

/-! ## The pending schedule and the close dates -/

theorem fourOfByte_eq_some {b : Byte} {d : Fin 4} (h : b.toNat = d.val) : fourOfByte b = some d := by
  unfold fourOfByte
  rw [h]
  fin_cases d <;> rfl

theorem fourOfByte_eq_none {b : Byte} (h : 3 < b.toNat) : fourOfByte b = none := by
  unfold fourOfByte
  split <;> first | omega | rfl

theorem weekTypeOfByte_eq_some {b : Byte} {d : Fin 3} (h : b.toNat = d.val) : weekTypeOfByte b = some d := by
  unfold weekTypeOfByte
  rw [h]
  fin_cases d <;> rfl

theorem weekTypeOfByte_eq_none {b : Byte} (h : 2 < b.toNat) : weekTypeOfByte b = none := by
  unfold weekTypeOfByte
  split <;> first | omega | rfl

theorem weekItem_eq_some {w : Week Byte} {v : Week (Fin 3)} (h : w.mon.toNat = v.mon.val ∧ w.tue.toNat = v.tue.val
    ∧ w.wed.toNat = v.wed.val ∧ w.thu.toNat = v.thu.val ∧ w.fri.toNat = v.fri.val ∧ w.sat.toNat = v.sat.val
    ∧ w.sun.toNat = v.sun.val) : weekItem w = some (.weekTable v) := by
  obtain ⟨h1, h2, h3, h4, h5, h6, h7⟩ := h
  simp [weekItem, weekTypeOfByte_eq_some h1, weekTypeOfByte_eq_some h2, weekTypeOfByte_eq_some h3, weekTypeOfByte_eq_some h4,
    weekTypeOfByte_eq_some h5, weekTypeOfByte_eq_some h6, weekTypeOfByte_eq_some h7]

theorem weekItem_eq_none {w : Week Byte}
    (h : ∃ b ∈ [w.mon, w.tue, w.wed, w.thu, w.fri, w.sat, w.sun], 2 < b.toNat) : weekItem w = none := by
  obtain ⟨b, hb, hlt⟩ := h
  have hnone := weekTypeOfByte_eq_none hlt
  unfold weekItem
  split
  · simp only [List.mem_cons, List.not_mem_nil, or_false] at hb
    rcases hb with rfl | rfl | rfl | rfl | rfl | rfl | rfl <;> simp_all
  · rfl

/-- Settles O30: the checks that the pending writes share, and then each command's own arguments. -/
theorem scheduleWritesStart : Obligations.ScheduleWritesStart := by
  unfold Obligations.ScheduleWritesStart
  intro s hs base dates
  have hbase : s.store.pendingTables = base := rfl
  have hswitch : ∀ d i e, exec (.writeSwitchQuad .utility .whole d i e) s
      = .next ((ownWriteSwitchQuad .utility d i e s).ended .utility 0x42) := fun d i e => exec_operation_passed rfl rfl rfl rfl hs
  have hholiday : ∀ i e, exec (.writeHolidayQuad .utility .whole i e) s
      = .next ((ownWriteHolidayQuad .utility i e s).ended .utility 0x43) := fun i e => exec_operation_passed rfl rfl rfl rfl hs
  have hweek : ∀ w, exec (.writeWeekTable .utility .whole w) s
      = .next ((ownWriteWeekTable .utility w s).ended .utility 0x44) := fun w => exec_operation_passed rfl rfl rfl rfl hs
  have hdates : ∀ i e, exec (.writeCloseDateQuad .utility .whole i e) s
      = .next ((ownWriteCloseDateQuad .utility i e s).ended .utility 0x45) := fun i e => exec_operation_passed rfl rfl rfl rfl hs
  refine ⟨fun d i e => ⟨fun hbusy => ?_, fun hsched hidle => ?_⟩, fun i e => ?_, fun w => ⟨fun hbusy => ?_, fun hsched hidle => ?_⟩,
    fun i e => ?_⟩
  · rw [hswitch, ownWriteSwitchQuad, pendingWrite_busy _ hbusy, refuse_ended]
  · rw [hswitch, ownWriteSwitchQuad, pendingWrite_of_free _ hsched hidle, hbase, switchItem]
    refine ⟨fun hd => by rw [fourOfByte_eq_none hd]; rfl, fun dt hd => ?_⟩
    have hcond : (i.toNat % 4 = 0 ∧ i.toNat ≤ 8 ∧ i.toNat ≤ (base.switches.get dt).length
          ∧ (fourList e).all SwitchArg.inRange = true)
        ↔ i.toNat ∈ [0, 4, 8] ∧ i.toNat ≤ (base.switches.get dt).length
          ∧ ∀ a ∈ [e.e0, e.e1, e.e2, e.e3], a.minute = 0xFFFF ∨ a.minute.toNat ≤ 1439 := by
      have hidx : i.toNat ∈ [0, 4, 8] ↔ i.toNat % 4 = 0 ∧ i.toNat ≤ 8 := by simp; omega
      rw [hidx, List.all_eq_true]
      simp only [fourList, SwitchArg.inRange, Bool.or_eq_true, beq_iff_eq, decide_eq_true_eq, and_assoc]
    rw [fourOfByte_eq_some hd]
    simp only [hcond, storeOrRange_ite]
    split_ifs <;> rfl
  · rw [hholiday, ownWriteHolidayQuad, pendingWrite_eq, hbase, holidayItem, storeOrRange_ite]
    simp only [startAllowed, decide_eq_true_eq]
    change Host.Outcome.next (Judged.ended (if s.schedArmed = true ∨ s.store.writing ≠ none then refuse .busy s else _) _ _)
      = .next (if s.schedArmed = true ∨ s.store.writing ≠ none then _ else _)
    split_ifs <;> rfl
  · rw [hweek, ownWriteWeekTable, pendingWrite_busy _ hbusy, refuse_ended]
  · rw [hweek, ownWriteWeekTable, pendingWrite_of_free _ hsched hidle]
    exact ⟨fun h => by rw [weekItem_eq_none h]; rfl, fun v h => by rw [weekItem_eq_some h]; rfl⟩
  · have hres : resultingDates s.store i e = dates i e := rfl
    rw [hdates, ownWriteCloseDateQuad, hres]
    simp only [Bool.not_eq_true', ← Bool.not_eq_true, startAllowed, decide_eq_true_eq, storeBusy_iff, ascending_iff]
    split_ifs <;> rfl

/-! ## Write Config Item (R169) -/

/-- What a Write Config Item past STORE_BUSY and its lock does with the setting its value is checked to: it stores it, or
is refused RANGE where there is none. -/
def State.Stores (s : State) (n : BitVec 16) (v : BitVec 32) (o : Option Setting) : Prop :=
  exec (.writeConfigItem .utility .whole n v) s = .next (match o with
    | some y => (s.storing .utility (.setting y)).finish .utility 0x50 .ok false false
    | none => s.finish .utility 0x50 .range false false)

theorem exec_writeConfigItem {s : State} (hs : s.TakesConfig) (hidle : s.store.writing = none) (n : BitVec 16)
    (v : BitVec 32) : exec (.writeConfigItem .utility .whole n v) s = .next (Judged.ended (match ItemName.ofNumber n with
      | none => refuse .range s
      | some name => writeItem .utility name v s) .utility 0x50) := by
  have hbusy : ¬ s.storeBusy = true := by simp [State.storeBusy, hidle]
  rw [exec_config_passed rfl rfl rfl hs]
  change Host.Outcome.next ((ownWriteConfigItem .utility n v s).ended .utility 0x50) = _
  rw [ownWriteConfigItem, if_neg hbusy] <;> rfl

theorem stores_of_item {s : State} (hs : s.TakesConfig) (hidle : s.store.writing = none) {n : BitVec 16} {item : ItemName}
    (hn : ItemName.ofNumber n = some item) (hro : item.readOnly = false) (hcal : item.calibrationLocked s.config = false)
    (v : BitVec 32) : s.Stores n v (Setting.checked s.config item v) := by
  unfold State.Stores
  rw [exec_writeConfigItem hs hidle, hn]
  simp only [writeItem, hro, hcal, Bool.false_eq_true, if_false]
  cases Setting.checked s.config item v <;> rfl

theorem locked_of_item {s : State} (hs : s.TakesConfig) (hidle : s.store.writing = none) {n : BitVec 16} {item : ItemName}
    (hn : ItemName.ofNumber n = some item) (hro : item.readOnly = false) (hcal : item.calibrationLocked s.config = true)
    (v : BitVec 32) : exec (.writeConfigItem .utility .whole n v) s = .next (s.finish .utility 0x50 .locked false false) := by
  rw [exec_writeConfigItem hs hidle, hn]
  simp only [writeItem, hro, hcal, Bool.false_eq_true, if_false, if_true]
  rfl

/-- A setting stored where its value is within, and refused RANGE where not. -/
theorem State.Stores.within {s : State} {n : BitVec 16} {v : BitVec 32} {c : Prop} [Decidable c] {y : Setting}
    (h : s.Stores n v (if c then some y else none)) :
    (c → exec (.writeConfigItem .utility .whole n v) s = .next ((s.storing .utility (.setting y)).finish .utility 0x50 .ok false false))
      ∧ (¬ c → exec (.writeConfigItem .utility .whole n v) s = .next (s.finish .utility 0x50 .range false false)) :=
  ⟨fun hc => by rwa [if_pos hc] at h, fun hc => by rwa [if_neg hc] at h⟩

theorem inRange_map (lo hi v : Nat) (f : Nat → Setting) :
    (inRange lo hi v).map f = if lo ≤ v ∧ v ≤ hi then some (f v) else none := by
  unfold inRange; split_ifs <;> rfl

/-- The numbers of the items that Write Config Item writes (section 12.8). -/
def writtenNumbers : List Nat :=
  [0x0100, 0x0101, 0x0102, 0x0103, 0x0110, 0x0111, 0x0112, 0x0113, 0x0120, 0x0121, 0x0122, 0x0123, 0x0130,
    0x0131, 0x0132, 0x0133, 0x0140, 0x0141, 0x0200, 0x0201, 0x0202, 0x0203, 0x0204, 0x0400, 0x0401, 0x0402, 0x0500,
    0x0501, 0x0502, 0x0503, 0x0600, 0x0601, 0x0602, 0x0603, 0x0604, 0x0605, 0x0606, 0x0607, 0x0608, 0x0609, 0x060A, 0x0700]

/-- An item that is not read-only has its number in the list. -/
theorem mem_writtenNumbers {n : BitVec 16} {item : ItemName} (h : ItemName.ofNumber n = some item)
    (hro : item.readOnly = false) : n.toNat ∈ writtenNumbers := by
  have hchannel : ∀ (k : Nat) (c : Fin 4), n.toNat / 16 = k → fourOfByte (BitVec.ofNat 8 (n.toNat % 16)) = some c →
      n.toNat = 16 * k + c.val := fun k c hk hc => by
    have := (fourOfByte_ofNat (n.toNat % 16) (by omega) c).mp hc
    omega
  unfold ItemName.ofNumber at h
  split at h
  case h_6 =>
    split at h
    case h_28 =>
      split at h
      case h_5 => cases h
      all_goals (cases h; cases hro)
    all_goals first | (rename_i hn; rw [hn]; decide) | (cases h; cases hro)
  case h_5 => cases h; cases hro
  all_goals
    rename_i c hdiv hfour
    rw [hchannel _ _ hdiv hfour]
    fin_cases c <;> decide

theorem ofNumber_channel (c : Fin 4) :
    ItemName.ofNumber (BitVec.ofNat 16 (0x0100 + c.val)) = some (.channelK c)
      ∧ ItemName.ofNumber (BitVec.ofNat 16 (0x0110 + c.val)) = some (.channelSS c)
      ∧ ItemName.ofNumber (BitVec.ofNat 16 (0x0120 + c.val)) = some (.channelEnable c)
      ∧ ItemName.ofNumber (BitVec.ofNat 16 (0x0130 + c.val)) = some (.channelWeight c) := by
  fin_cases c <;> exact ⟨rfl, rfl, rfl, rfl⟩


section
variable {s : State} {n : BitVec 16} {v : BitVec 32}

theorem State.Stores.stored {y y' : Setting} (h : s.Stores n v (some y)) (hy : y = y') :
    exec (.writeConfigItem .utility .whole n v) s
      = .next ((s.storing .utility (.setting y')).finish .utility 0x50 .ok false false) := hy ▸ h

theorem State.Stores.within_bounds {lo hi x : Nat} {f : Nat → Setting} (h : s.Stores n v ((inRange lo hi x).map f)) :
    (lo ≤ x ∧ x ≤ hi → exec (.writeConfigItem .utility .whole n v) s
        = .next ((s.storing .utility (.setting (f x))).finish .utility 0x50 .ok false false))
      ∧ (¬ (lo ≤ x ∧ x ≤ hi) → exec (.writeConfigItem .utility .whole n v) s
        = .next (s.finish .utility 0x50 .range false false)) :=
  State.Stores.within (inRange_map lo hi x f ▸ h)

theorem State.Stores.within_top {hi x : Nat} {f : Nat → Setting} (h : s.Stores n v ((inRange 0 hi x).map f)) :
    (x ≤ hi → exec (.writeConfigItem .utility .whole n v) s
        = .next ((s.storing .utility (.setting (f x))).finish .utility 0x50 .ok false false))
      ∧ (¬ x ≤ hi → exec (.writeConfigItem .utility .whole n v) s
        = .next (s.finish .utility 0x50 .range false false)) := by
  simpa using h.within_bounds

/-- What a value of two codes, or of three, comes to. -/
def twoCodes (x : Nat) (a b other : Prop) : Prop :=
  match x with
  | 0 => a
  | 1 => b
  | _ => other

def threeCodes (x : Nat) (a b c other : Prop) : Prop :=
  match x with
  | 0 => a
  | 1 => b
  | 2 => c
  | _ => other

/-- An item of two codes. -/
theorem State.Stores.of_two {o : Nat → Option Setting} {x : Nat} {y₀ y₁ : Setting} (h : s.Stores n v (o x))
    (h₀ : o 0 = some y₀) (h₁ : o 1 = some y₁) (hmore : ∀ k, o (k + 2) = none) : twoCodes x
      (exec (.writeConfigItem .utility .whole n v) s
        = .next ((s.storing .utility (.setting y₀)).finish .utility 0x50 .ok false false))
      (exec (.writeConfigItem .utility .whole n v) s
        = .next ((s.storing .utility (.setting y₁)).finish .utility 0x50 .ok false false))
      (exec (.writeConfigItem .utility .whole n v) s = .next (s.finish .utility 0x50 .range false false)) := by
  rcases x with _ | _ | k
  · rwa [h₀] at h
  · rwa [h₁] at h
  · rwa [hmore] at h

/-- An item of three codes. -/
theorem State.Stores.of_three {o : Nat → Option Setting} {x : Nat} {y₀ y₁ y₂ : Setting} (h : s.Stores n v (o x))
    (h₀ : o 0 = some y₀) (h₁ : o 1 = some y₁) (h₂ : o 2 = some y₂) (hmore : ∀ k, o (k + 3) = none) : threeCodes x
      (exec (.writeConfigItem .utility .whole n v) s
        = .next ((s.storing .utility (.setting y₀)).finish .utility 0x50 .ok false false))
      (exec (.writeConfigItem .utility .whole n v) s
        = .next ((s.storing .utility (.setting y₁)).finish .utility 0x50 .ok false false))
      (exec (.writeConfigItem .utility .whole n v) s
        = .next ((s.storing .utility (.setting y₂)).finish .utility 0x50 .ok false false))
      (exec (.writeConfigItem .utility .whole n v) s = .next (s.finish .utility 0x50 .range false false)) := by
  rcases x with _ | _ | _ | k
  · rwa [h₀] at h
  · rwa [h₁] at h
  · rwa [h₂] at h
  · rwa [hmore] at h

end

/-- An item whose number is known, and that no lock refuses, is stored or refused as its value is checked. -/
theorem stores_of_number {s : State} (hs : s.TakesConfig) (hidle : s.store.writing = none) {n : BitVec 16} (v : BitVec 32)
    {k : Nat} {item : ItemName} (hk : n.toNat = k) (hn : ItemName.ofNumber (BitVec.ofNat 16 k) = some item)
    (hro : item.readOnly = false) (hcal : item.calibrationLocked s.config = false) :
    s.Stores n v (Setting.checked s.config item v) :=
  stores_of_item hs hidle (by rw [eq_of_toNat_eq hk]; exact hn) hro hcal v

theorem unwritten_refused {s : State} (hs : s.TakesConfig) (hidle : s.store.writing = none) {n : BitVec 16} (v : BitVec 32)
    (h : n.toNat ∉ writtenNumbers) :
    exec (.writeConfigItem .utility .whole n v) s = .next (s.finish .utility 0x50 .range false false) := by
  rw [exec_writeConfigItem hs hidle]
  cases hn : ItemName.ofNumber n with
  | none => rfl
  | some item =>
    cases hro : item.readOnly with
    | false => exact absurd (mem_writtenNumbers hn hro) h
    | true => simp only [writeItem, hro, if_true]; rfl

theorem limitItem_eq_none {a : LimitArgs}
    (h : 3 < a.comparator.toNat ∨ 1 < a.enable.toNat ∨ 1 < a.quantity.toNat ∨ 3 < a.shed.toNat) : limitItem a = none := by
  unfold limitItem
  split
  case h_2 => rfl
  case h_1 k on q out hk hon hq hout =>
    rcases h with h | h | h | h
    · rw [fourOfByte_eq_none h] at hk; cases hk
    · unfold offOnOfCode at hon; split at hon <;> first | omega | cases hon
    · unfold Basis.ofCode at hq; split at hq <;> first | omega | cases hq
    · rw [fourOfByte_eq_none h] at hout; cases hout

theorem limitItem_eq_some {a : LimitArgs} {k j : Fin 4} (hk : a.comparator.toNat = k.val) (hon : a.enable.toNat ≤ 1)
    (hq : a.quantity.toNat ≤ 1) (hj : a.shed.toNat = j.val) : limitItem a = some (.limit k
      { enabled := a.enable.toNat = 1, quantity := if a.quantity.toNat = 0 then .kw else .kva,
        threshold := a.threshold.toNat, hysteresis := min a.hysteresis.toNat a.threshold.toNat,
        minHold := min a.minHold.toNat 3600, shed := j }) := by
  have henable : offOnOfCode a.enable.toNat = some (decide (a.enable.toNat = 1)) := by
    interval_cases a.enable.toNat <;> rfl
  have hquantity : Basis.ofCode a.quantity.toNat = some (if a.quantity.toNat = 0 then .kw else .kva) := by
    interval_cases a.quantity.toNat <;> rfl
  unfold limitItem
  rw [fourOfByte_eq_some hk, fourOfByte_eq_some hj, henable, hquantity]
  simp only [clampTo, Nat.zero_max, Nat.min_comm]

/-- Settles O35: each item number by its item, the checked setting of its value, and the judgement of the command. -/
theorem configWritesStart : Obligations.ConfigWritesStart := by
  unfold Obligations.ConfigWritesStart
  refine ⟨fun n v s hs => ⟨fun hbusy => ?_, fun hidle => ?_⟩, fun m s hs => ?_, fun b s hs => ⟨fun hb => ?_, fun c hc => ?_⟩,
    fun a s hs => ⟨fun hbusy => ?_, fun hidle => ⟨fun hbad => ?_, fun k j hk hon hq hj => ?_⟩⟩⟩
  · rw [exec_config_passed rfl rfl rfl hs]
    change Host.Outcome.next ((ownWriteConfigItem .utility n v s).ended .utility 0x50) = _
    rw [ownWriteConfigItem, if_pos (storeBusy_eq_true hbusy), refuse_ended]
  · have named := fun {k : Nat} {item : ItemName} => stores_of_number (k := k) (item := item) hs hidle (n := n) v
    have chans := ofNumber_channel
    have locked := fun {k : Nat} {item : ItemName} (hk : n.toNat = k) (hn : ItemName.ofNumber (BitVec.ofNat 16 k) = some item)
      (hro : item.readOnly = false) (hcal : item.calibrationLocked s.config = true) =>
      locked_of_item hs hidle (n := n) (by rw [eq_of_toNat_eq hk]; exact hn) hro hcal v
    have stall : ∀ x, clampTo 1 60 x = if x = 0 then 1 else if 60 < x then 60 else x := fun x => by
      unfold clampTo; split_ifs <;> omega
    have top : ∀ hi x, clampTo 0 hi x = min x hi := fun hi x => by unfold clampTo; omega
    have clamps : ∀ lo hi x, lo ≤ hi → clampTo lo hi x = if x < lo then lo else if hi < x then hi else x :=
      fun lo hi x h => by unfold clampTo; split_ifs <;> omega
    refine ⟨unwritten_refused hs hidle v, fun c h => ⟨locked h (chans c).1 rfl, fun hcal => ?_⟩,
      fun c h => ⟨locked h (chans c).2.1 rfl, fun hcal => ?_⟩, fun c h => ?_, fun c h => ?_, fun h => ?_, fun h => ?_,
      fun h => ?_, fun h => ?_, fun h => ?_, fun h => ?_, fun h => ?_, fun h => ?_, fun h => ?_, fun h => ?_, fun h => ?_,
      fun h => ?_, fun h => ?_, fun h => ?_, fun h => ?_, fun h => ?_, fun h => ?_, fun h => ?_, fun h => ?_, fun h => ?_,
      fun h => ?_, fun h => ?_, fun h => ?_, fun h => ?_, fun h => ?_, fun h => ?_⟩
    · exact (named h (chans c).1 rfl hcal).within_bounds
    · exact (named h (chans c).2.1 rfl hcal).within
    · exact (named h (chans c).2.2.1 rfl rfl).of_two (o := fun k => (offOnOfCode k).map (.channelEnable c)) rfl rfl fun _ => rfl
    · exact (named h (chans c).2.2.2 rfl rfl).of_three (o := fun k => (Weight.ofCode k).map (.channelWeight c)) rfl rfl rfl
        fun _ => rfl
    · exact (named h rfl rfl rfl).of_two (o := fun k => (Polarity.ofCode k).map .polarity) rfl rfl fun _ => rfl
    · exact (named h rfl rfl rfl).stored (congrArg Setting.stallTimeout (stall _))
    · have hvalues : v.toNat ∈ subLenValues ∧ v.toNat * s.config.windowLen ≤ 3600 ↔
          (v.toNat = 60 ∨ v.toNat = 120 ∨ v.toNat = 180 ∨ v.toNat = 300 ∨ v.toNat = 600 ∨ v.toNat = 900 ∨ v.toNat = 1800
            ∨ v.toNat = 3600) ∧ s.config.windowLen * v.toNat ≤ 3600 := by
        simp only [subLenValues, List.mem_cons, List.not_mem_nil, or_false, Nat.mul_comm]
      have hin := (named (item := .subLen) h rfl rfl rfl).within
      rwa [hvalues] at hin
    · exact (named h rfl rfl rfl).of_two (o := fun k => (SyncMode.ofCode k).map .syncMode) rfl rfl fun _ => rfl
    · exact (named h rfl rfl rfl).stored (congrArg Setting.grace (top _ _))
    · exact (named h rfl rfl rfl).within_top
    · exact (named h rfl rfl rfl).within_top
    · exact (named h rfl rfl rfl).of_three (o := fun k => (ReactiveMode.ofCode k).map .reactive) rfl rfl rfl fun _ => rfl
    · exact (named h rfl rfl rfl).within_bounds
    · exact (named h rfl rfl rfl).of_two (o := fun k => (RegisterMode.ofCode k).map .registerMode) rfl rfl fun _ => rfl
    · exact (named h rfl rfl rfl).within
    · exact (named h rfl rfl rfl).of_two (o := fun k => (onOffOfCode k).map .excludeFlagged) rfl rfl fun _ => rfl
    · exact (named h rfl rfl rfl).stored (congrArg Setting.pickupThreshold (top _ _))
    · exact (named h rfl rfl rfl).stored (congrArg Setting.pickupLength (top _ _))
    · exact (named h rfl rfl rfl).of_two (o := fun k => (Basis.ofCode k).map .basis) rfl rfl fun _ => rfl
    · exact (named h rfl rfl rfl).within_top
    · exact (named h rfl rfl rfl).stored (congrArg Setting.ratchetPct (top _ _))
    · exact (named h rfl rfl rfl).stored (congrArg Setting.lookback (top _ _))
    · exact (named h rfl rfl rfl).stored rfl
    · exact (named h rfl rfl rfl).of_two (o := fun k => (onOffOfCode k).map .excessOn) rfl rfl fun _ => rfl
    · exact (named h rfl rfl rfl).within_top
    · exact (named h rfl rfl rfl).of_two (o := fun k => (onOffOfCode k).map .pfAdjustOn) rfl rfl fun _ => rfl
    · exact (named h rfl rfl rfl).stored (congrArg Setting.pfRef (clamps _ _ _ (by decide)))
    · exact (named h rfl rfl rfl).stored (congrArg Setting.pfFloor (clamps _ _ _ (by decide)))
    · exact (named h rfl rfl rfl).stored (congrArg Setting.lockoutLen (top _ _))
    · exact (named h rfl rfl rfl).within_top
  · rw [exec_config_passed rfl rfl rfl hs]
    change Host.Outcome.next ((ownSetLockMode .utility m s).ended .utility 0x54) = _
    unfold ownSetLockMode checkThen LockMode.ofCode
    simp only [storeBusy_iff]
    split_ifs
    · rfl
    · rcases m.toNat with _ | _ | _ | _ | x <;> rfl
  · rw [exec_config_passed rfl rfl rfl hs]
    change Host.Outcome.next ((ownLockCalibration .utility b s).ended .utility 0x55) = _
    rw [ownLockCalibration, fourOfByte_eq_none hb, refuse_ended]
  · rw [exec_config_passed rfl rfl rfl hs]
    change Host.Outcome.next ((ownLockCalibration .utility b s).ended .utility 0x55) = _
    rw [ownLockCalibration, fourOfByte_eq_some hc]
    simp only [lockChannel, storeBusy_iff]
    split_ifs <;> rfl
  all_goals
    rw [exec_operation_passed rfl rfl rfl rfl hs]
    change Host.Outcome.next ((ownWriteLimit .customer a s).ended .customer 0x49) = _
    unfold ownWriteLimit checkThen
  · rw [if_pos (storeBusy_eq_true hbusy), refuse_ended]
  · rw [if_neg (by simp [State.storeBusy, hidle]), limitItem_eq_none hbad]; rfl
  · rw [if_neg (by simp [State.storeBusy, hidle]), limitItem_eq_some hk hon hq hj]; rfl

end Sys2Proof.Machine
end

section
/-! PROOFS. The whole of a close (R52), as the rules list it: the record built and filed, its arrival, the opening, the
schedule, the projection, the log and the cursors. -/

namespace Sys2Proof.Machine

open Sys2Proof

/-! ## The record, filed and handed on -/

/-- The record of a close is built as R46 to R51 list it. -/
theorem closingRecord_builds {cause : StatusSet} {flags : List StatusFlag} (h : ∀ f, cause.has f = true ↔ f ∈ flags)
    (stop : Instant) (s : State) : s.Builds stop flags (closingRecord cause stop s) :=
  ⟨rfl, rfl, rfl, rfl, PerFour.get_map Channel.part s.chans, fun f => by rw [← h]; exact closingStatus_has cause s f,
    totalOf_toNat s _, totalOf_toNat s _, totalOf_toNat s _, totalOf_toNat s _, reactiveOf_toNat s.config.reactive _ _⟩

/-- The Totalizer with a record filed (R47, R53, R54, R59). -/
theorem filed_files (r : SubRecord) (s : State) : s.Files r (s.tot.filed r s.cumulative) :=
  ⟨rfl, rfl, addToRates_get _ _ _, addToRates_get _ _ _,
    fun x => by simp [Totalizer.filed, RateMask.has_join, or_comm], PerFour.get_map Channel.cum s.chans⟩

/-- A status set that R70 names a flag of. -/
theorem isFlagged_iff (st : StatusSet) : isFlagged st = true
    ↔ ∃ f ∈ [StatusFlag.outage, .short, .long, .stall, .timeSet, .noSync], st.has f = true := by
  simp [isFlagged, or_assoc]

/-- The window of an arrival (R64 to R70). -/
theorem nextWindow_spec (d : Demand) (cfg : Config) (r : SubRecord) :
    let w := d.nextWindow cfg r
    let ring := (d.arrived cfg r).ring
    w.sequence = r.sequence ∧ w.stop = r.stop ∧ w.rate = r.rate ∧ w.fill = ring.length
      ∧ w.dp = min 4294967295 (((ring.map (fun x => x.ep.toNat)).sum * 36
            + 5 * (cfg.windowLen * cfg.subLen)) / (10 * (cfg.windowLen * cfg.subLen)))
      ∧ w.dq = min 4294967295 (((ring.map (fun x => x.eq.toNat)).sum * 36
            + 5 * (cfg.windowLen * cfg.subLen)) / (10 * (cfg.windowLen * cfg.subLen)))
      ∧ w.dva = apparentOf w.dp w.dq ∧ w.pf = windowPF w.dp w.dva
      ∧ (w.failFill = true ↔ ring.length ≠ cfg.windowLen) ∧ (w.failPickup = true ↔ d.pickup ≠ 0)
      ∧ (w.failFlagged = true ↔ cfg.excludeFlagged = true ∧ ∃ x ∈ ring,
          ∃ f ∈ [StatusFlag.outage, .short, .long, .stall, .timeSet, .noSync], x.status.has f = true) := by
  refine ⟨rfl, rfl, rfl, rfl, rfl, rfl, rfl, rfl, bne_iff_ne, bne_iff_ne, ?_⟩
  simp only [← isFlagged_iff]
  exact (Bool.and_eq_true _ _).to_iff.trans (and_congr Iff.rfl List.any_eq_true)

theorem arrived_ring (d : Demand) (cfg : Config) (r : SubRecord) : (d.arrived cfg r).ring
    = (if d.ring.length = cfg.windowLen then d.ring.drop 1 else d.ring)
      ++ [⟨r.sequence, r.rate, r.status, r.totals.pp, r.totals.eq⟩] := by
  rw [List.drop_one]; rfl

/-- The Demand Engine after an arrival, as R64 to R77 list it. -/
theorem arrived_arrives (r : SubRecord) (s : State) : s.Arrives r (s.dem.arrived s.config r) := by
  obtain ⟨hseq, hstop, hrate, hfill, hdp, hdq, hdva, hpf, hff, hfp, hfl⟩ := nextWindow_spec s.dem s.config r
  refine ⟨arrived_ring _ _ _, rfl, s.dem.nextWindow s.config r, rfl, hseq, hstop, hrate, hfill, hdp, hdq, hdva, hpf, hff, hfp,
    hfl, fun hfail => ?_, fun hpass x => ⟨fun hx => ?_, fun hx => ?_⟩⟩
  · rw [Demand.arrived_maxima, if_neg ((Window.not_eligible_iff _).mpr hfail)]
  · rw [Demand.arrived_maxima, if_pos ((Window.eligible_iff _).mpr hpass), updateMaxima_get_other _ _ _ hx.1 hx.2]
  · rw [Demand.arrived_maxima, if_pos ((Window.eligible_iff _).mpr hpass), updateMaxima_get _ _ _ hx]
    exact ⟨MaxPair.updated_kw .., MaxPair.updated_kva ..⟩

/-! ## The opening, the schedule and the projection -/

/-- The schedule at a start: armed tables whose effective day has begun, made active (R39). -/
theorem activateAtStart_activates (s : State) : s.Activates (activateAtStart s) := by
  unfold State.Activates
  cases h : s.store.pendSched with
  | none => simp [activateAtStart, State.activationAtStart, h]
  | loading t => simp [activateAtStart, State.activationAtStart, h]
  | armed tables day =>
    by_cases hday : day ≤ s.clock.now.day
    · have hact : activateAtStart s = activateSchedule s := by simp [activateAtStart, State.activationAtStart, h, hday]
      have hnow : (activateSchedule s).clock.now.day = s.clock.now.day := by simp
      simp only [hact, hnow, if_pos hday]
      exact ⟨activateSchedule_active h, activateSchedule_pendSched s⟩
    · have hact : activateAtStart s = s := by simp [activateAtStart, State.activationAtStart, h, hday]
      simp [hact, hday, h]

section
variable {between : State → State} (h : ClockOnly between) (cause : StatusSet) (stop start : Instant) (s : State)
include h

theorem closeWith_activates : s.Activates (closeWith cause stop between start s) := by
  have hact := activateAtStart_activates (between (takeClose cause stop s))
  unfold State.Activates at hact ⊢
  rw [closeWith_store, closeWith_clock]
  rw [h.store, takeClose_store] at hact
  exact hact

theorem closeWith_rate : (closeWith cause stop between start s).sub.rate
    = rateAt (closeWith cause stop between start s).store.active s.config.weekdayOffset start := by
  rw [closeWith_sub, closeWith_store]
  show rateAt (activateAtStart (between (takeClose cause stop s))).store.active
    (activateAtStart (between (takeClose cause stop s))).store.config.weekdayOffset start = _
  rw [activateAtStart_store_config, h.store, takeClose_store]

omit h in
theorem closeWith_elapsed : (closeWith cause stop between start s).sub.elapsed = 0 := by
  rw [closeWith_sub]; rfl

theorem closeWith_status_has (f : StatusFlag) : (closeWith cause stop between start s).sub.status.has f = true ↔
    (f = .noTime ∧ (closeWith cause stop between start s).clock.timeValid = false)
      ∨ (f = .stall ∧ ∃ d, (s.chans.get d).state = .stalled) := by
  have hchans : (activateAtStart (between (takeClose cause stop s))).chans = s.chans.map fun ch => { ch with part := .all 0 } := by
    rw [activateAtStart_chans, h.chans, takeClose_chans]
  rw [closeWith_sub, closeWith_clock]
  refine (openingStatus_has _ f).trans ?_
  simp only [hchans, PerFour.get_map]

/-- The sub-interval that a close opens at the instant that stands by then (R22, R33, R49). -/
theorem closeWith_opens (hnow : (closeWith cause stop between start s).clock.now = start) :
    (closeWith cause stop between start s).Opens s.chans := by
  have hcfg := closeWith_config h cause stop start s
  refine ⟨by rw [closeWith_start, hnow], closeWith_elapsed .., ?_, ?_, closeWith_status_has h cause stop start s,
    fun d => ?_⟩
  · rw [closeWith_nominalEnd h, hcfg, hnow]
  · rw [closeWith_rate h, hcfg, hnow]
  · rw [closeWith_chans h, PerFour.get_map]

theorem ClockOnly.lim : (between s).lim = s.lim := by rw [h]; rfl

/-- The Limit Monitor after a close: the held projection, and nothing of its comparators and outputs (R149). -/
theorem closeWith_lim : (closeWith cause stop between start s).lim.projection
      = { dp := (s.dem.nextWindow s.config (closingRecord cause stop s)).dp,
          dq := (s.dem.nextWindow s.config (closingRecord cause stop s)).dq,
          dva := (s.dem.nextWindow s.config (closingRecord cause stop s)).dva, elapsed := 0
          source := if (s.dem.arrived s.config (closingRecord cause stop s)).ring.length < s.config.windowLen - 1 then .heldFill
            else .heldEarly }
    ∧ (closeWith cause stop between start s).lim.comparators = s.lim.comparators
    ∧ (closeWith cause stop between start s).lim.shed = s.lim.shed := by
  set u := scheduleMarker (between (takeClose cause stop s)).activationAtStart
    (logData (closingRecord cause stop s) (demandArrival (closingRecord cause stop s) (closedFrom cause stop between start s)))
    with hu
  have hclose : closeWith cause stop between start s = resetProjection u := rfl
  have hdem : u.dem = s.dem.arrived s.config (closingRecord cause stop s) := by
    rw [hu, scheduleMarker_dem, logData_dem, demandArrival_dem, closedFrom_dem h, closedFrom_config h]
  have hcfg : u.store.config = s.config := by
    rw [hu, scheduleMarker_store, logData_store, demandArrival_store]
    exact closedFrom_config h ..
  have hlim : u.lim = s.lim := by simp [hu, closedFrom, h.lim]
  rw [hclose]
  have hkept : (resetProjection u).lim.comparators = u.lim.comparators ∧ (resetProjection u).lim.shed = u.lim.shed := ⟨rfl, rfl⟩
  refine ⟨?_, hkept.1.trans (congrArg _ hlim), hkept.2.trans (congrArg _ hlim)⟩
  show heldDemand 0 u = _
  have hready : u.fillReady = decide (s.config.windowLen - 1 ≤ (s.dem.arrived s.config (closingRecord cause stop s)).ring.length) := by
    unfold State.fillReady
    rw [hdem, State.config, hcfg]
  unfold heldDemand State.heldSource
  rw [hdem, hready]
  simp only [Demand.arrived_window]
  congr 1
  by_cases hlt : (s.dem.arrived s.config (closingRecord cause stop s)).ring.length < s.config.windowLen - 1
  · rw [if_pos hlt, if_neg (by rw [decide_eq_true_eq]; omega)]
  · rw [if_neg hlt, if_pos (by rw [decide_eq_true_eq]; omega)]

/-- A close is what the rules list (R46 to R54, R64 to R77, R149). -/
theorem closeWith_closesInto {flags : List StatusFlag} (hcause : ∀ f, cause.has f = true ↔ f ∈ flags)
    (hnow : (closeWith cause stop between start s).clock.now = start) :
    s.ClosesInto (closeWith cause stop between start s) s.chans stop flags (closingRecord cause stop s)
      (closeWith cause stop between start s).tot (closeWith cause stop between start s).dem := by
  rw [closeWith_tot h, closeWith_dem h]
  refine ⟨closingRecord_builds hcause stop s, filed_files _ s, arrived_arrives _ s, closeWith_opens h _ _ _ _ hnow,
    closeWith_activates h .., ?_⟩
  rw [Demand.arrived_window]
  rintro w ⟨⟩
  exact (closeWith_lim h cause stop start s).1

end

/-! ## The log of a close (R128 to R133, R142) -/

theorem logWh_eq (v : Energy) (k : Nat) : logWh v k = wordOf v k := by
  unfold logWh wordOf
  by_cases h : 4294967295 < (v.toNat + k) / 1000
  · rw [if_pos h, if_neg (Nat.not_le.mpr h)]
  · rw [if_neg h, if_pos (Nat.le_of_not_lt h)]

theorem logBlock_words (v : Quad Energy) (k : Quad Nat) : (logBlock v k).1
    = [Quantity.impActive, .expActive, .lagging, .leading].map (fun q => (wordOf (v.get q) (k.get q)).1) := by
  simp [logBlock, Quad.zipWith, Quad.get, logWh_eq]

theorem logBlock_carries (v : Quad Energy) (k : Quad Nat) : (logBlock v k).2 = v.zipWith (fun v k => (wordOf v k).2) k := by
  simp [logBlock, Quad.zipWith, logWh_eq]

theorem channelBlock_words (mask : BitVec 4) (c : Fin 4) (v : Quad Energy) (k : Quad Nat) : (channelBlock mask c v k).1
    = if mask.getLsbD c.val then [Quantity.impActive, .expActive, .lagging, .leading].map (fun q => (wordOf (v.get q) (k.get q)).1)
      else [] := by
  unfold channelBlock; split_ifs
  · exact logBlock_words v k
  · rfl

theorem channelBlock_carries (mask : BitVec 4) (c : Fin 4) (v : Quad Energy) (k : Quad Nat) : (channelBlock mask c v k).2
    = if mask.getLsbD c.val then v.zipWith (fun v k => (wordOf v k).2) k else k := by
  unfold channelBlock; split_ifs
  · exact logBlock_carries v k
  · rfl

theorem flatMap_filter {α β : Type} (l : List α) (p : α → Bool) (f : α → List β) :
    (l.filter p).flatMap f = l.flatMap fun d => if p d then f d else [] := by
  induction l with
  | nil => rfl
  | cons a l ih => by_cases h : p a = true <;> simp [h, ih]

/-- The DATA record of a close, spelled by R128 to R130. -/
theorem dataBody_eq (r : SubRecord) (s : State) : dataBody s.config.logMask r s.log.carries = s.dataOf r := by
  simp only [dataBody, State.dataOf, dataPayload, logBlock_words, channelBlock_words, flatMap_filter, List.flatMap_cons,
    List.flatMap_nil, List.append_nil, List.append_assoc]
  rfl

theorem dataPayload_carries (r : SubRecord) (s : State) : (dataPayload s.config.logMask r s.log.carries).2 = s.carriesOf r := by
  simp only [State.carriesOf, dataPayload, logBlock_carries, channelBlock_carries]
  rfl

/-- The log after a close (R52 step 10, R39 step 4). -/
theorem closeWith_closeLogged {between : State → State} (h : ClockOnly between) (cause : StatusSet) (stop start : Instant)
    (s : State) : (closeWith cause stop between start s).log
      = s.closeLogged (closeWith cause stop between start s) s.log (closingRecord cause stop s) := by
  have hnow : (closeWith cause stop between start s).clock.now = (between (takeClose cause stop s)).clock.now := by
    rw [closeWith_clock, activateAtStart_clock_now]
  rw [closeWith_log h, dataBody_eq, dataPayload_carries]
  unfold State.closeLogged State.activationAtStart ProfileLog.scheduled
  rw [hnow, h.store, takeClose_store]
  cases s.store.pendSched with
  | none => rfl
  | loading t => rfl
  | armed t day =>
    by_cases hday : day ≤ (between (takeClose cause stop s)).clock.now.day
    · simp only [if_pos hday]
    · simp only [if_neg hday]

/-! ## REG_ROLLOVER (R58, R59) -/

theorem hasRolled_iff (cfg : Config) (a0 a1 : Energy) : hasRolled cfg.registerMode cfg.digits a0 a1 = true ↔
    (cfg.registerMode = .rollover ∧ a1.toNat / 1000 / 10 ^ cfg.digits ≠ a0.toNat / 1000 / 10 ^ cfg.digits)
      ∨ (cfg.registerMode = .saturate
        ∧ a0.toNat / 1000 < 10 ^ cfg.digits - 1 ∧ 10 ^ cfg.digits - 1 ≤ a1.toNat / 1000) := by
  unfold hasRolled
  cases cfg.registerMode with
  | rollover => exact decide_eq_true_iff.trans (by simp [whOf])
  | saturate => exact decide_eq_true_iff.trans (by simp [whOf])

theorem zip_any_iff {α : Type} (l l' : List α) (p : α × α → Bool) : (l.zip l').any p = true
    ↔ ∃ i, ∃ h : i < l.length, ∃ h' : i < l'.length, p (l[i], l'[i]) = true := by
  rw [List.any_eq_true]
  constructor
  · rintro ⟨x, hx, hp⟩
    obtain ⟨i, hi, rfl⟩ := List.getElem_of_mem hx
    rw [List.length_zip] at hi
    exact ⟨i, by omega, by omega, by simpa using hp⟩
  · rintro ⟨i, h, h', hp⟩
    exact ⟨(l[i], l'[i]), List.mem_iff_getElem.mpr ⟨i, by rw [List.length_zip]; omega, by simp⟩, hp⟩

theorem PerRate.exists_zip_toList {α : Type} (x y : PerRate α) (p : α × α → Bool) :
    (x.toList.zip y.toList).any p = true ↔ ∃ r, p (x.get r, y.get r) = true := by
  have hsets : ∀ f : RateSet → Bool, ([.one .r1, .one .r2, .one .r3, .one .r4, .one .r5, .one .r6, .all] : List RateSet).any f = true
      ↔ ∃ r, f r = true := fun f => by
    rw [List.any_eq_true]
    refine ⟨fun ⟨r, _, h⟩ => ⟨r, h⟩, fun ⟨r, h⟩ => ⟨r, ?_, h⟩⟩
    rcases r with r | _
    · cases r <;> decide
    · decide
  exact hsets fun r => p (x.get r, y.get r)

theorem PerFour.exists_zip_toList {α : Type} (x y : PerFour α) (p : α × α → Bool) :
    (x.toList.zip y.toList).any p = true ↔ ∃ d, p (x.get d, y.get d) = true := by
  simp [PerFour.toList, PerFour.get, Fin.exists_fin_succ]

theorem Quad.exists_zip_toList {α : Type} (x y : Quad α) (p : α × α → Bool) :
    (x.toList.zip y.toList).any p = true ↔ ∃ q, p (x.get q, y.get q) = true := by
  have hquantities : ∀ f : Quantity → Bool, [Quantity.impActive, .expActive, .lagging, .leading].any f = true ↔ ∃ q, f q = true :=
    fun f => by
      rw [List.any_eq_true]
      exact ⟨fun ⟨q, _, h⟩ => ⟨q, h⟩, fun ⟨q, h⟩ => ⟨q, by cases q <;> decide, h⟩⟩
  exact hquantities fun q => p (x.get q, y.get q)

theorem anyTotalRolled_iff (cfg : Config) (x y : PerRate (Quint Energy)) : anyTotalRolled cfg x y = true ↔
    ∃ r, ∃ i, ∃ _ : i < (x.get r).toList.length, ∃ _ : i < (y.get r).toList.length,
      hasRolled cfg.registerMode cfg.digits ((x.get r).toList[i]) ((y.get r).toList[i]) = true := by
  rw [anyTotalRolled, PerRate.exists_zip_toList]
  simp only [zip_any_iff]
  exact Iff.rfl

theorem anyChannelRolled_iff (cfg : Config) (x y : PerFour (Quad Energy)) : anyChannelRolled cfg x y = true ↔
    ∃ d q, hasRolled cfg.registerMode cfg.digits ((x.get d).get q) ((y.get d).get q) = true := by
  simp only [anyChannelRolled, PerFour.exists_zip_toList, Quad.exists_zip_toList]

/-- A register that rolled is all that sets REG_ROLLOVER in a close (R58, R59). -/
theorem closeNow_regRollover (cause : StatusSet) (s : State) (p : Port) :
    ((closeNow cause s).port p).attn.has .regRollover = ((s.port p).attn.has .regRollover
      || (anyTotalRolled s.config s.tot.acc (closeNow cause s).tot.acc || anyChannelRolled s.config s.tot.marks s.cumulative)) := by
  rw [closeNow_tot, closeNow, closeWith, handOn_has _ _ _ p (by decide) (by decide) (by decide), openNext_has _ _ p (by decide),
    id_eq, takeClose_has, takeClose_tot]
  simp

/-- Settles O23: the Totalizer of a close is `filed_files`, and its rolls the two lists of registers. -/
theorem endEventsFileTheEnergy : Obligations.EndEventsFileTheEnergy := by
  unfold Obligations.EndEventsFileTheEnergy
  intro c s cause h rolled
  obtain ⟨status, pins, hexec, -⟩ := exec_of_endStatus h
  have htot := closeNow_tot status (s.setPins pins)
  obtain ⟨hlast, -, hacc, hperiod, hpresent, hmarks⟩ := filed_files (closingRecord status s.clock.now (s.setPins pins)) (s.setPins pins)
  refine ⟨_, _, hexec, congrArg Totalizer.last htot, ?_, ?_, ?_, ?_, fun p => ?_⟩
  · rw [htot]; exact hacc
  · rw [htot]; exact hperiod
  · rw [htot]; exact hpresent
  · rw [htot]; exact hmarks
  · rw [closeNow_regRollover, Bool.or_eq_true, Bool.or_eq_true, anyTotalRolled_iff, anyChannelRolled_iff]
    simp only [hasRolled_iff, State.cumulative, PerFour.get_map]
    rfl

/-- Settles O24: the arrival of the record, and what the Limit Monitor then holds. -/
theorem endEventsMoveTheWindow : Obligations.EndEventsMoveTheWindow := by
  unfold Obligations.EndEventsMoveTheWindow
  intro c s cause h
  obtain ⟨status, pins, hexec, -⟩ := exec_of_endStatus h
  have hdem := closeNow_dem status (s.setPins pins)
  obtain ⟨hseq, hstop, hrate, hfill, hdp, hdq, hdva, hpf, hff, hfp, hfl⟩ :=
    nextWindow_spec s.dem s.config (closingRecord status s.clock.now (s.setPins pins))
  obtain ⟨hproj, hcomp, hshed⟩ := closeWith_lim clockOnly_id status s.clock.now s.clock.now (s.setPins pins)
  refine ⟨_, _, s.dem.nextWindow s.config (closingRecord status s.clock.now (s.setPins pins)), hexec,
    congrArg Totalizer.last (closeNow_tot _ _), ?_⟩
  rw [hdem]
  exact ⟨rfl, arrived_ring _ _ _, hseq, hstop, hrate, hfill, hdp, hdq, hdva, hpf, hff, hfp, hfl, rfl, hproj, hcomp, hshed⟩

end Sys2Proof.Machine
end

section
/-! PROOFS. The cursors at a write of the log (R133 to R135, R142), and through a whole close. -/

namespace Sys2Proof.Machine

open Sys2Proof

/-! ## What the log holds -/

theorem heldIn_append (a b : List LogRecord) (q : Seq) : heldIn (a ++ b) q = (heldIn a q || heldIn b q) := List.any_append

theorem heldIn_single (r : LogRecord) (q : Seq) : heldIn [r] q = decide (r.sequence = q) := by simp [heldIn]; rfl

theorem heldIn_iff (rs : List LogRecord) (q : Seq) : heldIn rs q = true ↔ ∃ r ∈ rs, r.sequence = q := by simp [heldIn]

theorem heldIn_of_trimFor {need : Nat} {rs : List LogRecord} {q : Seq} (h : heldIn (trimFor need rs) q = true) :
    heldIn rs q = true := by
  obtain ⟨k, hk⟩ := trimFor_eq_drop need rs
  obtain ⟨r, hr, hq⟩ := (heldIn_iff _ q).mp h
  rw [hk] at hr
  exact (heldIn_iff _ q).mpr ⟨r, List.mem_of_mem_drop hr, hq⟩

theorem four_mul_length_le_wordsOf (rs : List LogRecord) : 4 * rs.length ≤ wordsOf rs := by
  induction rs with
  | nil => simp [wordsOf]
  | cons r rest ih => simp only [wordsOf, List.map_cons, List.sum_cons, List.length_cons, LogBody.words] at ih ⊢; omega

/-- A record of a log stands 1 to 4096 places before the next sequence (R127). -/
theorem ProfileLog.Safe.sequence {l : ProfileLog} (h : l.Safe) {r : LogRecord} (hr : r ∈ l.records) :
    ∃ k : Nat, 1 ≤ k ∧ k ≤ 4096 ∧ r.sequence = l.nextSeq - BitVec.ofNat 32 k := by
  obtain ⟨hwords, hseq, -, -⟩ := h
  obtain ⟨i, hi, rfl⟩ := List.getElem_of_mem hr
  have hlen := four_mul_length_le_wordsOf l.records
  rw [show logWords = 16384 from rfl] at hwords
  exact ⟨l.records.length - i, by omega, by omega, hseq i hi⟩

/-- The next two sequences are held nowhere in a log (R127). -/
theorem ProfileLog.Safe.ne_next {l : ProfileLog} (h : l.Safe) {q : Seq} (hq : heldIn l.records q = true) :
    q ≠ l.nextSeq ∧ q ≠ l.nextSeq + 1 := by
  obtain ⟨r, hr, rfl⟩ := (heldIn_iff _ q).mp hq
  obtain ⟨k, hlo, hhi, hk⟩ := h.sequence hr
  rw [hk]
  constructor <;> intro heq <;> bv_omega

theorem ProfileLog.logged_of_free {l : ProfileLog} (h : l.clearBusy = false) (b : LogBody) : l.logged b
    = { l with records := trimFor b.words l.records ++ [{ sequence := l.nextSeq, body := b }], nextSeq := l.nextSeq + 1 } := by
  simp [ProfileLog.logged, h]

theorem ProfileLog.logged_of_busy {l : ProfileLog} (h : l.clearBusy = true) (b : LogBody) : (l.logged b).records = l.records
    ∧ (l.logged b).nextSeq = l.nextSeq := by
  simp [ProfileLog.logged, h]

theorem ProfileLog.logged_clearBusy (l : ProfileLog) (b : LogBody) : (l.logged b).clearBusy = l.clearBusy := by
  unfold ProfileLog.logged; split <;> rfl

/-- A record that fits beside the newest leaves the newest in the log (R133). -/
theorem trimFor_keeps_last {need : Nat} (rs : List LogRecord) {r : LogRecord} (h : r.body.words + need ≤ logWords) :
    r ∈ trimFor need (rs ++ [r]) := by
  induction rs with
  | nil => simp [trimFor, wordsOf, Nat.not_lt.mpr h]
  | cons a rest ih =>
    rw [List.cons_append, trimFor]
    split
    · exact ih
    · simp

/-! ## A port at a write -/

/-- A port, before and after records have come to a log that is not in a clear: a cursor at the end takes the first of
them, one whose record has left is in OVERRUN with LOG_OVERRUN, and the others stay (R134, R135). -/
structure PortState.Follows (x y : PortState) (before after : ProfileLog) : Prop where
  atEnd : x.cursor.state = .atEnd → x.cursor.position = before.nextSeq → y.cursor = { x.cursor with state := .atRecord }
  atRecord : x.cursor.state = .atRecord → heldIn before.records x.cursor.position = true →
    y.cursor = (if heldIn after.records x.cursor.position then x.cursor else { x.cursor with state := .overrun })
      ∧ (y.attn.has .logOverrun = true ↔ x.attn.has .logOverrun = true ∨ heldIn after.records x.cursor.position = false)
  else_same : x.cursor.state = .atEdge ∨ x.cursor.state = .overrun →
    y.cursor = x.cursor ∧ y.attn.has .logOverrun = x.attn.has .logOverrun

theorem logRecord_port {b : LogBody} {s : State} (h : s.log.clearBusy = false) (p : Port) : (logRecord b s).port p
    = (s.port p).afterWrite s.log.records (trimFor b.words s.log.records) s.log.nextSeq := by
  rw [logRecord, if_neg (by simp [h])]
  cases p <;> rfl

theorem logRecord_port_of_busy {b : LogBody} {s : State} (h : s.log.clearBusy = true) (p : Port) :
    (logRecord b s).port p = s.port p := by
  rw [logRecord, if_pos h, slotRecord, State.setLog_port]

/-- One record that comes to the log. -/
theorem afterWrite_follows (x : PortState) {l : ProfileLog} (hs : l.Safe) (hfree : l.clearBusy = false) (b : LogBody) :
    x.Follows (x.afterWrite l.records (trimFor b.words l.records) l.nextSeq) l (l.logged b) where
  atEnd hstate hpos := by
    unfold PortState.afterWrite
    rw [hstate]
    simp only [hpos, if_true]
  atRecord hstate hheld := by
    have hrecords : heldIn (l.logged b).records x.cursor.position = heldIn (trimFor b.words l.records) x.cursor.position := by
      rw [ProfileLog.logged_of_free hfree, heldIn_append, heldIn_single, decide_eq_false (Ne.symm (hs.ne_next hheld).1),
        Bool.or_false]
    unfold PortState.afterWrite
    rw [hstate, hrecords]
    cases hkept : heldIn (trimFor b.words l.records) x.cursor.position with
    | true => simp [hheld]
    | false => simp [hheld, AttentionUnit.has_raise]
  else_same hstate := by
    unfold PortState.afterWrite
    rcases hstate with h | h <;> rw [h] <;> exact ⟨rfl, rfl⟩

/-- Records that come to the log one after another. -/
theorem PortState.Follows.trans {x y z : PortState} {l m n : ProfileLog} (h : x.Follows y l m) (h' : y.Follows z m n)
    (hm : heldIn m.records l.nextSeq = true) (hn : heldIn n.records l.nextSeq = true)
    (hsub : ∀ q, heldIn l.records q = true → heldIn n.records q = true → heldIn m.records q = true) : x.Follows z l n where
  atEnd hstate hpos := by
    have hy := h.atEnd hstate hpos
    have hz := (h'.atRecord (by rw [hy]) (by rw [hy]; exact hpos ▸ hm)).1
    have hheld : heldIn n.records y.cursor.position = true := by rw [hy]; exact hpos ▸ hn
    rw [hz, if_pos hheld, hy]
  atRecord hstate hheld := by
    obtain ⟨hy, hflag⟩ := h.atRecord hstate hheld
    cases hkept : heldIn m.records x.cursor.position with
    | true =>
      rw [if_pos hkept] at hy
      obtain ⟨hz, hflag'⟩ := h'.atRecord (by rw [hy]; exact hstate) (by rw [hy]; exact hkept)
      rw [hy] at hz hflag'
      refine ⟨hz, hflag'.trans ?_⟩
      rw [hflag, hkept]
      simp
    | false =>
      rw [if_neg (by simp [hkept])] at hy
      obtain ⟨hz, hflag'⟩ := h'.else_same (.inr (by rw [hy]))
      have hgone : heldIn n.records x.cursor.position = false := by
        by_contra hcon
        have := hsub _ hheld (by simpa using hcon)
        rw [hkept] at this
        cases this
      rw [hgone, hz, hflag', hflag, hkept]
      exact ⟨by simp [hy], by simp⟩
  else_same hstate := by
    obtain ⟨hy, hflag⟩ := h.else_same hstate
    obtain ⟨hz, hflag'⟩ := h'.else_same (by rw [hy]; exact hstate)
    exact ⟨hz.trans hy, hflag'.trans hflag⟩

/-- A record follows another in the log: what the first left, the second leaves or takes. -/
theorem follows_twice (x : PortState) {l : ProfileLog} (hs : l.Safe) (hfree : l.clearBusy = false) {b c : LogBody}
    (hb : b.LengthSafe) (hc : c.LengthSafe) :
    x.Follows ((x.afterWrite l.records (trimFor b.words l.records) l.nextSeq).afterWrite (l.logged b).records
      (trimFor c.words (l.logged b).records) (l.logged b).nextSeq) l ((l.logged b).logged c) := by
  have hfree' : (l.logged b).clearBusy = false := (l.logged_clearBusy b).trans hfree
  have hnext : (l.logged b).nextSeq = l.nextSeq + 1 := by rw [ProfileLog.logged_of_free hfree]
  have hrecords : (l.logged b).records = trimFor b.words l.records ++ [⟨l.nextSeq, b⟩] := by
    rw [ProfileLog.logged_of_free hfree]
  have hrecords' : ((l.logged b).logged c).records = trimFor c.words (l.logged b).records ++ [⟨l.nextSeq + 1, c⟩] := by
    rw [ProfileLog.logged_of_free hfree', hnext]
  refine (afterWrite_follows x hs hfree b).trans (afterWrite_follows _ (hs.logged hb) hfree' c) ?_ ?_ fun q hq hheld => ?_
  · rw [hrecords, heldIn_append, heldIn_single]; simp
  · have hlast : (⟨l.nextSeq, b⟩ : LogRecord) ∈ trimFor c.words (l.logged b).records := by
      rw [hrecords]
      refine trimFor_keeps_last _ (show b.words + c.words ≤ logWords from ?_)
      obtain ⟨-, h1⟩ := hb
      obtain ⟨-, h2⟩ := hc
      have : logWords = 16384 := rfl
      omega
    rw [hrecords', heldIn_append, (heldIn_iff _ _).mpr ⟨_, hlast, rfl⟩, Bool.true_or]
  · rw [hrecords', heldIn_append, heldIn_single, decide_eq_false (Ne.symm (hs.ne_next hq).2), Bool.or_false] at hheld
    exact heldIn_of_trimFor hheld

/-! ## The cursors through a close -/

/-- Every port keeps its cursor and its LOG_OVERRUN. -/
def State.KeepsCursors (s t : State) : Prop := ∀ p, (t.port p).cursor = (s.port p).cursor
  ∧ (t.port p).attn.has .logOverrun = (s.port p).attn.has .logOverrun

section
variable {s t : State}

theorem State.KeepsCursors.refl (s : State) : s.KeepsCursors s := fun _ => ⟨rfl, rfl⟩

theorem State.KeepsCursors.of_eq {u : State} (h : s.KeepsCursors t) (heq : ∀ p, u.port p = t.port p) : s.KeepsCursors u :=
  fun p => by rw [heq]; exact h p

theorem State.KeepsCursors.raise (h : s.KeepsCursors t) {f : AttnFlag} (hf : f ≠ .logOverrun) : s.KeepsCursors (t.raise f) :=
  fun p => ⟨Eq.trans (by cases p <;> rfl) (h p).1, by simp [State.raise_has, (h p).2, hf.symm]⟩

theorem State.KeepsCursors.raiseIf (h : s.KeepsCursors t) (c : Bool) {f : AttnFlag} (hf : f ≠ .logOverrun) :
    s.KeepsCursors (t.raiseIf c f) := by
  unfold State.raiseIf
  split
  · exact h.raise hf
  · exact h

theorem State.KeepsCursors.takeClose (h : s.KeepsCursors t) (cause : StatusSet) (stop : Instant) :
    s.KeepsCursors (takeClose cause stop t) := by
  rw [takeClose_eq]
  exact State.KeepsCursors.raise
    (State.KeepsCursors.raiseIf (h.of_eq fun p => by rw [State.setChans_port, State.setTot_port]) _ (by decide)) (by decide)

theorem State.KeepsCursors.activateAtStart (h : s.KeepsCursors t) : s.KeepsCursors (activateAtStart t) := by
  unfold Machine.activateAtStart
  split
  · exact State.KeepsCursors.raise (h.of_eq fun p => by rw [refreshDayType, State.setClock_port, State.setStore_port]) (by decide)
  · exact h

theorem State.KeepsCursors.openNext (h : s.KeepsCursors t) (start : Instant) : s.KeepsCursors (openNext start t) :=
  State.KeepsCursors.raiseIf (h.activateAtStart.of_eq fun p => by rw [placeSub, State.setSub_port]) _ (by decide)

theorem State.KeepsCursors.demandArrival (h : s.KeepsCursors t) (r : SubRecord) : s.KeepsCursors (demandArrival r t) := by
  rw [demandArrival_eq]
  exact State.KeepsCursors.raiseIf (State.KeepsCursors.raiseIf (h.of_eq fun p => by rw [State.setDem_port]) _ (by decide)) _
    (by decide)

end

theorem PortState.Follows.of_same {x x' y : PortState} {l l' m : ProfileLog} (h : x'.Follows y l' m)
    (hc : x'.cursor = x.cursor) (hf : x'.attn.has .logOverrun = x.attn.has .logOverrun) (hr : l'.records = l.records)
    (hn : l'.nextSeq = l.nextSeq) : x.Follows y l m where
  atEnd hstate hpos := by rw [← hc] at hstate hpos ⊢; exact h.atEnd hstate (hpos.trans hn.symm)
  atRecord hstate hheld := by rw [← hc, ← hr] at hheld; rw [← hc] at hstate ⊢; rw [← hf]; exact h.atRecord hstate hheld
  else_same hstate := by rw [← hc] at hstate ⊢; rw [← hf]; exact h.else_same hstate

/-- A record and then the marker of an activation, where there is one. -/
theorem scheduleMarker_follows {s : State} (hs : s.log.Safe) (hfree : s.log.clearBusy = false) {b : LogBody}
    (hb : b.LengthSafe) (effective : Option Nat) (p : Port) :
    (s.port p).Follows ((scheduleMarker effective (logRecord b s)).port p) s.log (scheduleMarker effective (logRecord b s)).log := by
  have hlogged : (logRecord b s).log = s.log.logged b := logRecord_logged b s
  cases effective with
  | none =>
    show (s.port p).Follows ((logRecord b s).port p) s.log (logRecord b s).log
    rw [hlogged, logRecord_port hfree]
    exact afterWrite_follows _ hs hfree b
  | some day =>
    have hfree' : (logRecord b s).log.clearBusy = false := by simpa using hfree
    have hmarked : (scheduleMarker (some day) (logRecord b s)).log = (s.log.logged b).logged
        (markerBody .schedule (logRecord b s).clock.now [day] (logRecord b s)) := by
      rw [← hlogged]; exact logRecord_logged _ _
    have hport : (scheduleMarker (some day) (logRecord b s)).port p = ((s.port p).afterWrite s.log.records
        (trimFor b.words s.log.records) s.log.nextSeq).afterWrite (s.log.logged b).records
          (trimFor (markerBody .schedule (logRecord b s).clock.now [day] (logRecord b s)).words (s.log.logged b).records)
          (s.log.logged b).nextSeq := by
      rw [← hlogged, ← logRecord_port hfree]
      exact logRecord_port hfree' p
    rw [hmarked, hport]
    exact follows_twice _ hs hfree hb ⟨by simp [LogBody.words], by simp [LogBody.words, markerBody]⟩

section
variable {between : State → State} (h : ClockOnly between) (cause : StatusSet) (stop start : Instant) (s : State)

/-- A close as it stands when its DATA record comes to the log. -/
def arrivedFrom (cause : StatusSet) (stop : Instant) (between : State → State) (start : Instant) (s : State) : State :=
  let u := demandArrival (closingRecord cause stop s) (closedFrom cause stop between start s)
  u.setLog { u.log with carries := (dataPayload u.config.logMask (closingRecord cause stop s) u.log.carries).2 }

include h

theorem arrivedFrom_log : (arrivedFrom cause stop between start s).log = { s.log with carries := s.carriesOf (closingRecord cause stop s) } := by
  have hlog : (demandArrival (closingRecord cause stop s) (closedFrom cause stop between start s)).log = s.log := by
    rw [demandArrival_log, closedFrom_log h]
  have hcfg : (demandArrival (closingRecord cause stop s) (closedFrom cause stop between start s)).config = s.config := by
    rw [State.config, demandArrival_store]; exact closedFrom_config h ..
  simp only [arrivedFrom, State.setLog_log, hlog, hcfg, dataPayload_carries]

theorem arrivedFrom_keepsCursors : s.KeepsCursors (arrivedFrom cause stop between start s) := by
  have hclosed : s.KeepsCursors (closedFrom cause stop between start s) :=
    State.KeepsCursors.openNext (((State.KeepsCursors.refl s).takeClose cause stop).of_eq fun p => h.port _ p) start
  exact (hclosed.demandArrival _).of_eq fun p => by rw [arrivedFrom, State.setLog_port]

/-- The ports and the log of a close are those that its DATA record and the marker of an activation leave. -/
theorem closeWith_port (p : Port) : (closeWith cause stop between start s).port p
    = (scheduleMarker (between (takeClose cause stop s)).activationAtStart
        (logRecord (s.dataOf (closingRecord cause stop s)) (arrivedFrom cause stop between start s))).port p
    ∧ (closeWith cause stop between start s).log
    = (scheduleMarker (between (takeClose cause stop s)).activationAtStart
        (logRecord (s.dataOf (closingRecord cause stop s)) (arrivedFrom cause stop between start s))).log := by
  have hlog : (demandArrival (closingRecord cause stop s) (closedFrom cause stop between start s)).log = s.log := by
    rw [demandArrival_log, closedFrom_log h]
  have hcfg : (demandArrival (closingRecord cause stop s) (closedFrom cause stop between start s)).config = s.config := by
    rw [State.config, demandArrival_store]; exact closedFrom_config h ..
  have hdata : logData (closingRecord cause stop s) (demandArrival (closingRecord cause stop s) (closedFrom cause stop between start s))
      = logRecord (s.dataOf (closingRecord cause stop s)) (arrivedFrom cause stop between start s) := by
    rw [logData, arrivedFrom, hlog, hcfg, dataBody_eq]
  rw [closeWith_eq, handOn, hdata]
  exact ⟨by rw [resetProjection, setProjection, State.setLim_port], resetProjection_log _⟩

/-- In a clear no cursor moves (R142). -/
theorem closeWith_cursor_of_busy (hbusy : s.log.clearBusy = true) (p : Port) :
    ((closeWith cause stop between start s).port p).cursor = (s.port p).cursor := by
  have hbusy' : (arrivedFrom cause stop between start s).log.clearBusy = true := by rw [arrivedFrom_log h]; exact hbusy
  have hmarked : ((scheduleMarker (between (takeClose cause stop s)).activationAtStart
      (logRecord (s.dataOf (closingRecord cause stop s)) (arrivedFrom cause stop between start s))).port p)
      = (arrivedFrom cause stop between start s).port p := by
    cases (between (takeClose cause stop s)).activationAtStart with
    | none => exact logRecord_port_of_busy hbusy' p
    | some day => exact (logRecord_port_of_busy (by simpa using hbusy') p).trans (logRecord_port_of_busy hbusy' p)
  rw [(closeWith_port h cause stop start s p).1, hmarked]
  exact (arrivedFrom_keepsCursors h cause stop start s p).1

/-- Outside a clear each cursor follows the log (R134, R135). -/
theorem closeWith_follows (hs : s.log.Safe) (hfree : s.log.clearBusy = false) (p : Port) :
    (s.port p).Follows ((closeWith cause stop between start s).port p) s.log (closeWith cause stop between start s).log := by
  set u := arrivedFrom cause stop between start s with hu
  have hulog : u.log = { s.log with carries := s.carriesOf (closingRecord cause stop s) } := arrivedFrom_log h cause stop start s
  have hsafe : u.log.Safe := by rw [hulog]; exact hs.carries _
  have hfree' : u.log.clearBusy = false := by rw [hulog]; exact hfree
  have hdata : (s.dataOf (closingRecord cause stop s)).LengthSafe := by rw [← dataBody_eq]; exact dataBody_lengthSafe _ _ _
  obtain ⟨hcursor, hflag⟩ := arrivedFrom_keepsCursors h cause stop start s p
  obtain ⟨hport, hlog⟩ := closeWith_port h cause stop start s p
  rw [hport, hlog]
  exact (scheduleMarker_follows hsafe hfree' hdata _ p).of_same hcursor hflag (by rw [hulog]) (by rw [hulog])

end

theorem wordsOf_logged_le {l : ProfileLog} (hfree : l.clearBusy = false) {b : LogBody} (hb : b.LengthSafe) :
    wordsOf (l.logged b).records ≤ logWords := by
  rw [ProfileLog.logged_of_free hfree, wordsOf_append]
  have hone : wordsOf [(⟨l.nextSeq, b⟩ : LogRecord)] = b.words := by simp [wordsOf]
  have hwords : logWords = 16384 := rfl
  obtain ⟨-, hhi⟩ := hb
  rcases trimFor_fits b.words l.records with h | h
  · simp only [h, hone]; simp only [wordsOf, List.map_nil, List.sum_nil]; omega
  · simp only [hone]; omega

theorem ProfileLog.logged_carries (l : ProfileLog) (b : LogBody) : (l.logged b).carries = l.carries := by
  unfold ProfileLog.logged; split <;> rfl

theorem closeLogged_carries (s t : State) (l : ProfileLog) (r : SubRecord) : (s.closeLogged t l r).carries = s.carriesOf r := by
  unfold State.closeLogged
  cases s.store.pendSched with
  | none => exact ProfileLog.logged_carries _ _
  | loading _ => exact ProfileLog.logged_carries _ _
  | armed _ day =>
    dsimp only
    split_ifs
    · rw [ProfileLog.logged_carries, ProfileLog.logged_carries]
    · exact ProfileLog.logged_carries _ _

theorem closeLogged_words {s t : State} {l : ProfileLog} {r : SubRecord} (hfree : l.clearBusy = false)
    (hdata : (s.dataOf r).LengthSafe) : wordsOf (s.closeLogged t l r).records ≤ logWords := by
  have hfiled := wordsOf_logged_le (l := { l with carries := s.carriesOf r }) hfree hdata
  unfold State.closeLogged
  cases s.store.pendSched with
  | none => exact hfiled
  | loading _ => exact hfiled
  | armed _ day =>
    dsimp only
    split_ifs
    · have hkept : (ProfileLog.logged { l with carries := s.carriesOf r } (s.dataOf r)).clearBusy = false :=
        (ProfileLog.logged_clearBusy _ _).trans hfree
      exact wordsOf_logged_le hkept ⟨by simp [LogBody.words], by simp [LogBody.words]⟩
    · exact hfiled

theorem carriesOf_totals (s : State) (r : SubRecord) (q : Quantity) : (s.carriesOf r).totals.get q
    = (wordOf ((⟨r.totals.pp, r.totals.pm, r.totals.qp, r.totals.qm⟩ : Quad Energy).get q) (s.log.carries.totals.get q)).2 := by
  cases q <;> rfl

theorem carriesOf_channels (s : State) (r : SubRecord) (q : Quantity) (d : Fin 4) : ((s.carriesOf r).channels.get d).get q
    = if s.config.logMask.getLsbD d.val then (wordOf ((r.parts.get d).get q) ((s.log.carries.channels.get d).get q)).2
      else (s.log.carries.channels.get d).get q := by
  have hchannel : (s.carriesOf r).channels.get d = if s.config.logMask.getLsbD d.val then
      (r.parts.get d).zipWith (fun v k => (wordOf v k).2) (s.log.carries.channels.get d) else s.log.carries.channels.get d := by
    fin_cases d <;> rfl
  rw [hchannel]
  split_ifs
  · cases q <;> rfl
  · rfl

/-- Settles O26: the DATA record by `closeWith_closeLogged`, the room by what a trim keeps, and the cursors by
`closeWith_follows`. -/
theorem endEventsLogTheData : Obligations.EndEventsLogTheData := by
  unfold Obligations.EndEventsLogTheData
  intro c s cause h logged totals
  obtain ⟨status, pins, hexec, -⟩ := exec_of_endStatus h
  set r := closingRecord status s.clock.now (s.setPins pins) with hr
  set t := closeNow status (s.setPins pins) with ht
  have hlog : t.log = s.closeLogged t s.log r := closeWith_closeLogged clockOnly_id status s.clock.now s.clock.now (s.setPins pins)
  have hnow : t.clock.now = s.clock.now := closeNow_clock_now _ _
  have hcarries : t.log.carries = s.carriesOf r := by rw [hlog, closeLogged_carries]
  have hdata : (s.dataOf r).LengthSafe := by rw [← dataBody_eq]; exact dataBody_lengthSafe _ _ _
  refine ⟨t, r, s.dataOf r, hexec, congrArg Totalizer.last (closeNow_tot _ _), rfl, rfl, rfl, rfl, rfl, ?_, ?_, fun hfree => ?_,
    fun q => ⟨?_, fun d => ?_⟩, fun hbusy p => ?_, fun hfree hs p => ?_⟩
  · rw [hcarries, hlog, State.closeLogged, hnow] <;> rfl
  · obtain ⟨k, hk, hleast⟩ := trimFor_least (s.dataOf r).words s.log.records
    exact ⟨k, hk, hk ▸ trimFor_fits _ _, hleast⟩
  · rw [hlog]
    exact closeLogged_words hfree hdata
  · rw [hcarries]; exact carriesOf_totals s r q
  · rw [hcarries]; exact carriesOf_channels s r q d
  · exact closeWith_cursor_of_busy clockOnly_id status s.clock.now s.clock.now (s.setPins pins) hbusy p
  · obtain ⟨hend, hrecord, hsame⟩ :=
      closeWith_follows clockOnly_id status s.clock.now s.clock.now (s.setPins pins) hs hfree p
    exact ⟨hend, hrecord, hsame⟩

end Sys2Proof.Machine
end

section
/-! PROOFS. Set Time (R29), and what a close keeps once more is done to the state after it. -/

namespace Sys2Proof.Machine

open Sys2Proof

/-! ## A close seen from a later state -/

/-- A close is the close that a later state shows, where that state has the sub-interval it opened, with the nominal
end of its own configuration, and the partials, the schedule, the clock and the projection it left. -/
theorem State.ClosesInto.later {s t u : State} {chans : PerFour Channel} {stop : Instant} {flags : List StatusFlag}
    {r : SubRecord} {tot : Totalizer} {dem : Demand} (h : s.ClosesInto t chans stop flags r tot dem)
    (hsub : u.sub = { t.sub with nominalEnd := nominalEndOf u.config t.clock.now })
    (hnow : u.clock.now = t.clock.now) (hvalid : u.clock.timeValid = t.clock.timeValid)
    (hactive : u.store.active = t.store.active) (hsched : u.store.pendSched = t.store.pendSched)
    (hoffset : u.config.weekdayOffset = t.config.weekdayOffset) (hchans : ∀ d, (u.chans.get d).part = (t.chans.get d).part)
    (hproj : u.lim.projection = t.lim.projection) : s.ClosesInto u chans stop flags r tot dem := by
  obtain ⟨hbuilds, hfiles, harrives, ⟨hstart, hzero, -, hrate, hstatus, hparts⟩, hacts, hheld⟩ := h
  refine ⟨hbuilds, hfiles, harrives, ⟨?_, ?_, ?_, ?_, ?_, ?_⟩, ?_, hproj ▸ hheld⟩
  · rw [hsub, hnow]; exact hstart
  · rw [hsub]; exact hzero
  · rw [hsub, hnow]
  · rw [hsub, hnow, hactive, hoffset]; exact hrate
  · rw [hsub, hvalid]; exact hstatus
  · exact fun d => (hchans d).trans (hparts d)
  · unfold State.Activates at hacts ⊢
    rw [hactive, hsched, hnow]
    exact hacts

/-- A close is the close that a later state shows which has the sub-interval, the channels, the store, the present
instant and the projection that the close left. -/
theorem State.ClosesInto.same {s t u : State} {chans : PerFour Channel} {stop : Instant} {flags : List StatusFlag}
    {r : SubRecord} {tot : Totalizer} {dem : Demand} (h : s.ClosesInto t chans stop flags r tot dem) (hsub : u.sub = t.sub)
    (hnow : u.clock.now = t.clock.now) (hvalid : u.clock.timeValid = t.clock.timeValid) (hstore : u.store = t.store)
    (hchans : u.chans = t.chans) (hproj : u.lim.projection = t.lim.projection) : s.ClosesInto u chans stop flags r tot dem := by
  have hconfig : u.config = t.config := congrArg Store.config hstore
  have hend : t.sub.nominalEnd = nominalEndOf t.config t.clock.now := by
    obtain ⟨-, -, -, ⟨-, -, hend, -⟩, -⟩ := h
    exact hend
  exact h.later (by rw [hsub, hconfig, ← hend]) hnow hvalid (congrArg Store.active hstore) (congrArg Store.pendSched hstore)
    (congrArg Config.weekdayOffset hconfig) (fun d => by rw [hchans]) hproj

/-- Two states that a close bills alike: all that it reads of them, but the marked status, Hold and the time. -/
structure State.BilledAlike (s u : State) : Prop where
  start : u.sub.start = s.sub.start
  rate : u.sub.rate = s.sub.rate
  channels : u.config.channels = s.config.channels
  reactive : u.config.reactive = s.config.reactive
  windowLen : u.config.windowLen = s.config.windowLen
  subLen : u.config.subLen = s.config.subLen
  excludeFlagged : u.config.excludeFlagged = s.config.excludeFlagged
  active : u.store.active = s.store.active
  pendSched : u.store.pendSched = s.store.pendSched
  part : ∀ d, (u.chans.get d).part = (s.chans.get d).part
  cum : ∀ d, (u.chans.get d).cum = (s.chans.get d).cum
  tot : u.tot = s.tot
  dem : u.dem = s.dem

/-- The close of a state is the close of one it bills like, where the status comes to the same. -/
theorem State.ClosesInto.of_billedAlike {s u t : State} {chans : PerFour Channel} {stop : Instant}
    {flags flags' : List StatusFlag} {r : SubRecord} {tot : Totalizer} {dem : Demand}
    (h : u.ClosesInto t chans stop flags' r tot dem) (hb : s.BilledAlike u)
    (hflags : ∀ f, (u.sub.status.has f = true ∨ f ∈ flags' ∨ (f = .outage ∧ u.sup.hold = true))
      ↔ (s.sub.status.has f = true ∨ f ∈ flags ∨ (f = .outage ∧ s.sup.hold = true))) :
    s.ClosesInto t chans stop flags r tot dem := by
  have hsum : u.sumOver = s.sumOver := by
    funext w q
    simp only [State.sumOver, hb.channels, hb.part]
  obtain ⟨⟨hseq, hstart, hstop, hrate, hparts, hstatus, hsums⟩, hfiles, harrives, hopens, hacts, hheld⟩ := h
  rw [hsum, hb.reactive] at hsums
  rw [hb.windowLen] at hheld
  refine ⟨⟨hb.tot ▸ hseq, hb.start ▸ hstart, hstop, hb.rate ▸ hrate, fun d => (hparts d).trans (hb.part d), fun f => ?_, hsums⟩,
    ?_, ?_, hopens, ?_, hheld⟩
  · have hall := or_congr_left (c := f = .negTotal ∧ ∃ q, s.sumOver .add q < s.sumOver .subtract q) (hflags f)
    rw [hstatus, hsum]
    simpa only [or_assoc] using hall
  · obtain ⟨hlast, hseq, hacc, hperiod, hpresent, hmarks⟩ := hfiles
    rw [hb.tot] at hacc hperiod hpresent
    exact ⟨hlast, hseq, hacc, hperiod, hpresent, fun d => (hmarks d).trans (hb.cum d)⟩
  · unfold State.Arrives at harrives ⊢
    rw [← hb.dem, ← hb.windowLen, ← hb.subLen, ← hb.excludeFlagged]
    exact harrives
  · unfold State.Activates at hacts ⊢
    rw [← hb.active, ← hb.pendSched]
    exact hacts

/-- Two states that a close bills alike, with the same channels and the same Hold. -/
structure State.SameBill (s u : State) : Prop extends s.BilledAlike u where
  chans : u.chans = s.chans
  hold : u.sup.hold = s.sup.hold

/-- The close of a state is the close of one of the same bill, where the status and the flags of the cause come to the
same. -/
theorem State.ClosesInto.of_sameBill {s u t : State} {chans : PerFour Channel} {stop : Instant} {flags flags' : List StatusFlag}
    {r : SubRecord} {tot : Totalizer} {dem : Demand} (h : u.ClosesInto t chans stop flags' r tot dem) (hb : s.SameBill u)
    (hflags : ∀ f, (u.sub.status.has f = true ∨ f ∈ flags') ↔ (s.sub.status.has f = true ∨ f ∈ flags)) :
    s.ClosesInto t chans stop flags r tot dem :=
  h.of_billedAlike hb.toBilledAlike fun f => by rw [← or_assoc, hflags, or_assoc, hb.hold]

/-- A flag of the cause may be marked before the close. -/
theorem marked_or_mem {status : StatusSet} {g : StatusFlag} {flags : List StatusFlag} (hg : g ∈ flags) (f : StatusFlag) :
    ((status.mark g).has f = true ∨ f ∈ flags) ↔ (status.has f = true ∨ f ∈ flags) := by
  rw [StatusSet.has_mark, Bool.or_eq_true, decide_eq_true_eq]
  constructor
  · rintro ((h | rfl) | h)
    · exact .inl h
    · exact .inr hg
    · exact .inr h
  · rintro (h | h)
    · exact .inl (.inl h)
    · exact .inr h

/-- The log that a close leaves depends on the sub-interval it opens by its rate alone. -/
theorem closeLogged_of_rate {s t u : State} (l : ProfileLog) (r : SubRecord) (hnow : u.clock.now = t.clock.now)
    (hrate : u.sub.rate = t.sub.rate) : s.closeLogged u l r = s.closeLogged t l r := by
  unfold State.closeLogged
  rw [hnow, hrate]

/-- SHORT and LONG as the Time Base gives them at a forced close (R23, R26, R27). -/
theorem lengthStatus_has (s : State) (elapsed : Nat) (f : StatusFlag) :
    (lengthStatus s.config elapsed).has f = true ↔ f ∈ s.lengthFlags elapsed := by
  unfold State.lengthFlags
  cases h : s.config.syncMode with
  | internal => exact lengthStatus_internal h elapsed f
  | external => exact lengthStatus_external h elapsed f

/-- A forced close's status: the flag of its cause, and its length (R27). -/
theorem forcedStatus_has (s : State) (g : StatusFlag) (f : StatusFlag) :
    (StatusSet.single g ||| lengthStatus s.config s.sub.elapsed).has f = true ↔ f ∈ g :: s.lengthFlags s.sub.elapsed := by
  simp [StatusSet.has_or, StatusSet.has_single, lengthStatus_has]

theorem logMarker_has (kind : RecordKind) (payload : List Nat) (s : State) (p : Port) {g : AttnFlag} (h : g ≠ .logOverrun) :
    ((logMarker kind payload s).port p).attn.has g = (s.port p).attn.has g := logRecord_has _ s p h

/-- An activation changes nothing of the time but the day type (R39). -/
theorem activateAtStart_clock (s : State) :
    (activateAtStart s).clock = { s.clock with dayType := (activateAtStart s).clock.dayType } := by
  unfold activateAtStart
  split_ifs
  · simp [activateSchedule, refreshDayType]
  · rfl

theorem closeWith_clock_keeps {between : State → State} {cause : StatusSet} {stop start : Instant} {s : State} :
    (closeWith cause stop between start s).clock = { (between (takeClose cause stop s)).clock with
      dayType := (closeWith cause stop between start s).clock.dayType } := by
  rw [closeWith_clock]
  exact activateAtStart_clock _

section
variable (s : State) (p : Port) (code : Byte) (r : Result) (latch arm : Bool)

theorem State.finish_attn (q : Port) : ((s.finish p code r latch arm).port q).attn = (s.port q).attn := by
  cases p <;> cases q <;> rfl

@[simp] theorem State.finish_store : (s.finish p code r latch arm).store = s.store := s.setPort_store ..
@[simp] theorem State.finish_config : (s.finish p code r latch arm).config = s.config := congrArg Store.config (s.finish_store ..)
@[simp] theorem State.finish_clock : (s.finish p code r latch arm).clock = s.clock := s.setPort_clock ..
@[simp] theorem State.finish_sub : (s.finish p code r latch arm).sub = s.sub := s.setPort_sub ..
@[simp] theorem State.finish_log : (s.finish p code r latch arm).log = s.log := s.setPort_log ..

end

/-! ## Set Time (R29) -/

theorem setTime_clock (cause : StatusSet) (stop new : Instant) (s : State) :
    (closeWith cause stop (setInstant new) new s).clock
      = { now := new, timeValid := true, pointer := s.store.pointerAfter new
          dayType := (closeWith cause stop (setInstant new) new s).clock.dayType } := by
  conv_lhs => rw [closeWith_clock_keeps]
  simp [setInstant]

/-- A refreshed day type is that of the present day. -/
theorem refreshDayType_clock (s : State) : (refreshDayType s).clock
    = { s.clock with dayType := dayTypeOf s.store.active s.config.weekdayOffset s.clock.now.day } := rfl

/-- The state a Set Time leaves, told from the close it makes: the ring emptied, the day type found anew, and no other
block but the log and the ports changed after that close. -/
theorem timeSetTo_keeps (new : Instant) (s : State) :
    let c := closeWith (setTimeStatus s) s.clock.now (setInstant new) new s
    (timeSetTo new s).store = c.store ∧ (timeSetTo new s).sub = c.sub ∧ (timeSetTo new s).chans = c.chans
      ∧ (timeSetTo new s).tot = c.tot ∧ (timeSetTo new s).lim = c.lim ∧ (timeSetTo new s).dem = { c.dem with ring := [] }
      ∧ (timeSetTo new s).clock
        = { c.clock with dayType := dayTypeOf c.store.active c.config.weekdayOffset c.clock.now.day } := by
  dsimp only
  refine ⟨?_, ?_, ?_, ?_, ?_, ?_, ?_⟩ <;> simp [timeSetTo, emptyRing, refreshDayType, State.config]

/-- The log of a Set Time: that of its close, and then the TIME_SET marker (R29 step 9). -/
theorem timeSetTo_log (new : Instant) (s : State) :
    let c := closeWith (setTimeStatus s) s.clock.now (setInstant new) new s
    (timeSetTo new s).log = c.log.logged { kind := .timeSet, rate := c.sub.rate, status := 0, stamp := c.clock.now
                                           payload := [BitVec.ofNat 32 s.clock.now.day, BitVec.ofNat 32 s.clock.now.sec] } :=
  (logMarker_logged .timeSet [s.clock.now.day, s.clock.now.sec] _).trans (by
    simp [emptyRing, refreshDayType, State.config, markerBody])

theorem timeSetTo_has_timeChanged (new : Instant) (s : State) (p : Port) :
    ((timeSetTo new s).port p).attn.has .timeChanged = true := by
  rw [timeSetTo, logMarker_has _ _ _ _ (by decide), refreshDayType, State.setClock_port, State.raise_has]
  simp

/-- Settles O27: `timeSetTo` is one close with `setInstant` between its record and its opening. -/
theorem setTimeMovesTheClock : Obligations.SetTimeMovesTheClock := by
  unfold Obligations.SetTimeMovesTheClock
  intro day second s hs
  have hexec : exec (.setTime .utility .whole day second) s = .next ((ownSetTime day second s).ended .utility 0x51) :=
    exec_config_passed rfl rfl rfl hs
  rw [hexec, ownSetTime]
  refine ⟨fun hbad => by rw [if_pos hbad, refuse_ended], fun hgood => ?_⟩
  rw [if_neg (Nat.not_lt.mpr hgood)]
  set new : Instant := ⟨day.toNat, second.toNat⟩
  have hkeeps := timeSetTo_keeps new s
  have hlog := timeSetTo_log new s
  set c := closeWith (setTimeStatus s) s.clock.now (setInstant new) new s
  obtain ⟨hstore, hsub, hchans, htot, hlim, hdem, hclock⟩ := hkeeps
  have hcclock : c.clock = { now := new, timeValid := true, pointer := s.store.pointerAfter new, dayType := c.clock.dayType } :=
    setTime_clock ..
  have hnow : c.clock.now = new := congrArg Clock.now hcclock
  have hconfig : c.config = s.config := closeWith_config (clockOnly_setInstant new) ..
  rw [hcclock, hconfig] at hclock
  set t := timeSetTo new s
  refine ⟨t.finish .utility 0x51 .ok false false, closingRecord (setTimeStatus s) s.clock.now s, c.dem, rfl, ?_,
    timeSetTo_due new s, ?_, ?_, ?_, ?_, ?_, ?_, ?_, hdem, ?_, timeSetTo_per new s, timeSetTo_store_config new s,
    rfl, rfl, rfl, rfl⟩
  · exact hclock.trans (by rw [← hstore]; rfl)
  · exact (congrArg OpenSub.start hsub).trans (closeWith_start ..)
  · exact (congrArg OpenSub.elapsed hsub).trans (closeWith_elapsed ..)
  · exact (congrArg OpenSub.nominalEnd hsub).trans (closeWith_nominalEnd (clockOnly_setInstant new) ..)
  · exact (congrArg OpenSub.rate hsub).trans
      ((closeWith_rate (clockOnly_setInstant new) ..).trans (by rw [← hstore]; rfl))
  · have hstatus := closeWith_status_has (clockOnly_setInstant new) (setTimeStatus s) s.clock.now new s .noTime
    have hvalid : c.clock.timeValid = true := congrArg Clock.timeValid hcclock
    refine (congrArg (fun x : OpenSub => x.status.has .noTime) hsub).trans (Bool.eq_false_iff.mpr fun h => ?_)
    obtain ⟨-, hinvalid⟩ | ⟨hstall, -⟩ := hstatus.mp h
    · exact absurd (hvalid.symm.trans hinvalid) (by decide)
    · exact absurd hstall (by decide)
  · have hcloses := closeWith_closesInto (clockOnly_setInstant new) (setTimeStatus s) s.clock.now new s
      (forcedStatus_has s .timeSet) hnow
    exact (htot ▸ hcloses).same hsub ((congrArg Clock.now hclock).trans hnow.symm)
      ((congrArg Clock.timeValid hclock).trans (congrArg Clock.timeValid hcclock).symm) hstore hchans
      (congrArg Monitor.projection hlim)
  · have hlogged := closeWith_closeLogged (clockOnly_setInstant new) (setTimeStatus s) s.clock.now new s
    have hfiled := closeLogged_of_rate (s := s) s.log (closingRecord (setTimeStatus s) s.clock.now s)
      (u := t.finish .utility 0x51 .ok false false) (t := c)
      ((congrArg Clock.now hclock).trans hnow.symm) (congrArg OpenSub.rate hsub)
    rw [hfiled, State.finish_log, hlog, State.finish_sub, hsub, hnow]
    exact congrArg (fun l : ProfileLog => l.logged _) hlogged
  · exact fun p => (congrArg (fun u : AttentionUnit => u.has .timeChanged) (State.finish_attn ..)).trans
      (timeSetTo_has_timeChanged new s p)

end Sys2Proof.Machine
end

section
/-! PROOFS. Adjust Time (R30, R31, R43). -/

namespace Sys2Proof.Machine

open Sys2Proof

/-! ## The log of a close -/

theorem State.closeLogged_congr {s u : State} (hconfig : u.config.logMask = s.config.logMask)
    (hcarries : u.log.carries = s.log.carries) (hsched : u.store.pendSched = s.store.pendSched) (t : State) (l : ProfileLog)
    (r : SubRecord) : u.closeLogged t l r = s.closeLogged t l r := by
  unfold State.closeLogged State.dataOf State.carriesOf
  rw [hconfig, hcarries, hsched]

/-- Records that fit beside the room needed stay (R133). -/
theorem trimFor_append {need : Nat} (a b : List LogRecord) (h : wordsOf b + need ≤ logWords) :
    ∃ c, trimFor need (a ++ b) = c ++ b := by
  induction a with
  | nil => exact ⟨[], trimFor_of_fits h⟩
  | cons x a ih =>
    rw [List.cons_append, trimFor]
    split
    · exact ih
    · exact ⟨x :: a, rfl⟩

/-- The newest records stay in a log, with the one that comes (R133). -/
theorem ProfileLog.logged_append {l : ProfileLog} (hfree : l.clearBusy = false) {a b : List LogRecord}
    (hl : l.records = a ++ b) (body : LogBody) (hfits : wordsOf b + body.words ≤ logWords) :
    ∃ c, (l.logged body).records = c ++ (b ++ [⟨l.nextSeq, body⟩]) := by
  obtain ⟨c, hc⟩ := trimFor_append a b hfits
  refine ⟨c, ?_⟩
  rw [ProfileLog.logged_of_free hfree, hl, hc, List.append_assoc]

/-! ## Instants (R19, R30, R31) -/

theorem Instant.later_abs {t : Instant} {n : Nat} (h : n + t.abs < 5662310400) : (t.later n).abs = n + t.abs := by
  simp only [Instant.later, Instant.ofAbs, Instant.abs, daySeconds, cycleDays] at h ⊢
  omega

theorem Instant.earlier_abs {t : Instant} {n : Nat} (ht : t.abs < 5662310400) (hn : n ≤ t.abs) :
    (t.earlier n).abs = t.abs - n := by
  simp only [Instant.earlier, Instant.ofAbs, Instant.abs, daySeconds, cycleDays, cycleSeconds] at ht hn ⊢
  omega

theorem Instant.isAfter_iff {a b : Instant} (ha : a.sec < 86400) (hb : b.sec < 86400) :
    a.isAfter b = true ↔ b.abs < a.abs := by
  simp only [Instant.isAfter, Instant.abs, daySeconds, decide_eq_true_eq]
  omega

/-- A forward move passes a close instant: one of the list lies after the old instant and not after the new (R30). -/
theorem State.passedDate_iff {s : State} {old : Instant} (hold : old.sec < 86400) (hnow : s.clock.now.sec < 86400)
    (hclose : s.config.closeSecond ≤ 86399) : s.passedDate old = true ↔
    ∃ d ∈ s.store.closeDates, old.abs < d * 86400 + s.config.closeSecond
      ∧ d * 86400 + s.config.closeSecond ≤ s.clock.now.abs := by
  have hsec : s.config.closeSecond < 86400 := by omega
  simp only [State.passedDate, List.any_eq_true, passedPlain, Bool.and_eq_true, Bool.not_eq_true']
  refine exists_congr fun d => and_congr_right fun _ => and_congr (Instant.isAfter_iff hsec hold) ?_
  rw [Bool.eq_false_iff, Ne, Instant.isAfter_iff hsec hnow]
  exact Nat.not_lt

/-! ## The day type through a close (R34, R39) -/

/-- The day type is that of the present day by the schedule in effect. -/
def State.DayTyped (s : State) : Prop :=
  s.clock.dayType = dayTypeOf s.store.active s.config.weekdayOffset s.clock.now.day

theorem refreshDayType_dayTyped (s : State) : (refreshDayType s).DayTyped := rfl

theorem State.DayTyped.of_same {s t : State} (h : s.DayTyped) (hday : t.clock.dayType = s.clock.dayType)
    (hnow : t.clock.now = s.clock.now) (hstore : t.store = s.store) : t.DayTyped := by
  unfold State.DayTyped State.config
  rw [hday, hnow, hstore]
  exact h

theorem State.DayTyped.activateAtStart {s : State} (h : s.DayTyped) : (activateAtStart s).DayTyped := by
  unfold Machine.activateAtStart
  split_ifs
  · exact (refreshDayType_dayTyped (s.setStore { s.store with active := s.store.pendingTables, pendSched := .none })).of_same
      (by simp [activateSchedule]) (by simp [activateSchedule]) (by simp [activateSchedule])
  · exact h

theorem State.DayTyped.closeNow {s : State} (h : s.DayTyped) (cause : StatusSet) : (closeNow cause s).DayTyped := by
  have htaken : (takeClose cause s.clock.now s).DayTyped := h.of_same (by simp) (by simp) (by simp)
  exact htaken.activateAtStart.of_same (congrArg Clock.dayType (closeWith_clock ..))
    (congrArg Clock.now (closeWith_clock ..)) (closeWith_store ..)

/-! ## The parts of an adjustment -/

/-- What an adjustment has done to a state when the instant is moved and the sub-interval is not yet judged. -/
structure State.MovedTo (s u : State) (new : Instant) : Prop where
  now : u.clock.now = new
  valid : u.clock.timeValid = s.clock.timeValid
  day : u.DayTyped
  sub : u.sub = { s.sub with status := s.sub.status.mark .timeAdj }
  store : u.store = s.store
  chans : u.chans = s.chans
  lim : u.lim = s.lim
  sup : u.sup = s.sup
  due : u.due = s.due
  changed : ∀ p, (u.port p).attn.has .timeChanged = true

theorem moveInstant_movedTo (new : Instant) (s : State) : s.MovedTo (moveInstant new s) new :=
  ⟨by simp [moveInstant], by simp [moveInstant], refreshDayType_dayTyped _, by simp [moveInstant], by simp [moveInstant],
    by simp [moveInstant], by simp [moveInstant], by simp [moveInstant], by simp [moveInstant],
    fun p => by simp [moveInstant, refreshDayType, State.markSub, State.raise_has]⟩

/-- The close dates of an adjustment that leaves an event it raises to its own row (R30, R43, assumption 2). -/
theorem adjustDates_false (old : Instant) (s : State) : adjustDates false old s
    = { s with clock := { s.clock with pointer := s.store.pointerAfter s.clock.now }
               due := if s.passedDate old then { s.due with dates := s.due.dates + 1 } else s.due } := by
  unfold adjustDates
  split <;> rfl

/-- The close dates of an adjustment that takes an event it raises (R30, R43, R110). -/
theorem adjustDates_true (old : Instant) (s : State) :
    adjustDates true old s = if s.passedDate old then dateRequest .date (refreshPointer s) else refreshPointer s := rfl

theorem dateRequest_has (cause : Cause) (s : State) (p : Port) {g : AttnFlag} (h : g ≠ .logOverrun) (hd : g ≠ .closeDeferred) :
    ((dateRequest cause s).port p).attn.has g = (s.port p).attn.has g := by
  unfold dateRequest
  split_ifs
  · exact freeze_has cause false s p h
  · rfl
  · simp [deferClose, State.raise_has, hd]

theorem State.MovedTo.refreshPointer {s u : State} {new : Instant} (h : s.MovedTo u new) : s.MovedTo (refreshPointer u) new :=
  ⟨h.now, h.valid, h.day, h.sub, h.store, h.chans, h.lim, h.sup, h.due, h.changed⟩

theorem State.MovedTo.dateRequest {s u : State} {new : Instant} (h : s.MovedTo u new) (cause : Cause) :
    s.MovedTo (dateRequest cause u) new :=
  ⟨by simp [h.now], by simp [h.valid], h.day.of_same (by simp) (by simp) (by simp), by simp [h.sub], by simp [h.store],
    by simp [h.chans], by simp [h.lim], by simp [h.sup], by simp [h.due],
    fun p => by rw [dateRequest_has _ _ _ (by decide) (by decide)]; exact h.changed p⟩

/-- The state of a forward adjustment when its sub-interval is judged: moved, and in the order that takes the date
event first, past that event (R30, R117). -/
def State.judgedAt (s : State) (first : Bool) (new : Instant) : State :=
  if first then adjustDates true s.clock.now (moveInstant new s) else moveInstant new s

theorem judgedAt_movedTo (s : State) (first : Bool) (new : Instant) : s.MovedTo (s.judgedAt first new) new := by
  have hmoved := moveInstant_movedTo new s
  unfold State.judgedAt
  split_ifs
  · rw [adjustDates_true]
    split_ifs
    · exact hmoved.refreshPointer.dateRequest .date
    · exact hmoved.refreshPointer
  · exact hmoved

/-- The sub-interval of a forward adjustment, when the move is judged (R30). -/
def State.adjustedTo (s : State) (v : Nat) (first : Bool) : State :=
  adjustSubForward v (decide (s.clock.now.until s.sub.nominalEnd ≤ v)) (s.judgedAt first (s.clock.now.later v))

theorem adjustSubForward_pointer (v : Nat) (reached : Bool) (s : State) :
    (adjustSubForward v reached s).clock.pointer = s.clock.pointer := by
  unfold adjustSubForward
  split
  · split
    · rw [closeNow, closeWith_clock_keeps]; simp
    · rfl
  · rfl

/-- A forward adjustment is the sub-interval's part, with the pointer found anew, and a date that was passed and is
not taken left due (R30, R43, assumption 2). -/
theorem adjustForward_eq (v : Nat) (first : Bool) (s : State) : adjustForward v first s
    = { s.adjustedTo v first with
        clock := { (s.adjustedTo v first).clock with pointer := s.store.pointerAfter (s.clock.now.later v) }
        due := if first = false ∧ (moveInstant (s.clock.now.later v) s).passedDate s.clock.now = true then
            { s.due with dates := s.due.dates + 1 } else s.due } := by
  have hu := judgedAt_movedTo s first (s.clock.now.later v)
  have hstore : (s.adjustedTo v first).store.closeDates = s.store.closeDates ∧ (s.adjustedTo v first).store.config = s.store.config
      ∧ (s.adjustedTo v first).clock.now = s.clock.now.later v := by simp [State.adjustedTo, hu.store, hu.now]
  have hpointer : (s.adjustedTo v first).store.pointerAfter (s.clock.now.later v) = s.store.pointerAfter (s.clock.now.later v) := by
    simp only [Store.pointerAfter, hstore.1, hstore.2.1]
  cases first with
  | true =>
    have hgone : adjustForward v true s = s.adjustedTo v true := rfl
    have hfound : (s.judgedAt true (s.clock.now.later v)).clock.pointer = s.store.pointerAfter (s.clock.now.later v) := by
      rw [State.judgedAt, if_pos rfl, adjustDates_true]
      split_ifs <;> simp [refreshPointer, moveInstant, refreshDayType]
    have hkept : (s.adjustedTo v true).clock.pointer = s.store.pointerAfter (s.clock.now.later v) :=
      (adjustSubForward_pointer ..).trans hfound
    have hdue : (s.adjustedTo v true).due = s.due := (adjustSubForward_due ..).trans hu.due
    rw [hgone, ← hkept]
    simp [← hdue]
  | false =>
    have hgone : adjustForward v false s = adjustDates false s.clock.now (s.adjustedTo v false) := rfl
    have hpassed : (s.adjustedTo v false).passedDate s.clock.now
        = (moveInstant (s.clock.now.later v) s).passedDate s.clock.now := by
      simp [State.passedDate, State.config, hstore, moveInstant]
    have hdue : (s.adjustedTo v false).due = s.due := (adjustSubForward_due ..).trans hu.due
    rw [hgone, adjustDates_false, hstore.2.2, hpointer, hpassed, hdue]
    simp

theorem adjustStatus_has (cfg : Config) (elapsed : Nat) (f : StatusFlag) : (adjustStatus cfg elapsed).has f = true
    ↔ f ∈ .timeAdj :: .short :: (if cfg.subLen < elapsed then [StatusFlag.long] else []) := by
  by_cases h : cfg.subLen < elapsed
  · simp [adjustStatus, StatusSet.has_markIf, StatusSet.has_or, StatusSet.has_single, h, or_assoc]
  · simp [adjustStatus, StatusSet.has_markIf, StatusSet.has_or, StatusSet.has_single, h]

/-! ### Where the sub-interval ends, and where it goes on (R30) -/

section
variable {s : State} {v : Nat} {first : Bool}

theorem adjustedTo_closes (hmode : s.config.syncMode = .internal) (hreached : s.clock.now.until s.sub.nominalEnd ≤ v) :
    s.adjustedTo v first = closeNow (adjustStatus s.config s.sub.elapsed) (s.judgedAt first (s.clock.now.later v)) := by
  have hu := judgedAt_movedTo s first (s.clock.now.later v)
  have hconfig : (s.judgedAt first (s.clock.now.later v)).config = s.config := congrArg Store.config hu.store
  unfold State.adjustedTo adjustSubForward
  split
  next => rw [if_pos (decide_eq_true hreached), hconfig, hu.sub]
  next hext => exact SyncMode.noConfusion ((hconfig ▸ hext).symm.trans hmode)

theorem adjustedTo_goesOn (h : ¬ (s.config.syncMode = .internal ∧ s.clock.now.until s.sub.nominalEnd ≤ v)) :
    s.adjustedTo v first = (s.judgedAt first (s.clock.now.later v)).setSub { s.sub with
      status := s.sub.status.mark .timeAdj
      nominalEnd := if s.config.syncMode = .external then s.sub.nominalEnd.later v else s.sub.nominalEnd } := by
  have hu := judgedAt_movedTo s first (s.clock.now.later v)
  have hconfig : (s.judgedAt first (s.clock.now.later v)).config = s.config := congrArg Store.config hu.store
  unfold State.adjustedTo adjustSubForward
  split
  next hint =>
    have hmode : s.config.syncMode = .internal := hconfig ▸ hint
    rw [if_neg (by simpa using fun hr => h ⟨hmode, hr⟩), if_neg (by rw [hmode]; decide), ← hu.sub]
    rfl
  next hext => rw [if_pos (hconfig ▸ hext), hu.sub]

end

/-! ### The date event of a forward adjustment (R43, R110, R117) -/

section
variable {s : State} {first : Bool} {new : Instant}

/-- Without a date event taken first, the judged state has the registers, the period and the log of before. -/
theorem judgedAt_plain (h : first = false ∨ (moveInstant new s).passedDate s.clock.now = false) :
    (s.judgedAt first new).tot = s.tot ∧ (s.judgedAt first new).dem = s.dem ∧ (s.judgedAt first new).log = s.log
      ∧ (s.judgedAt first new).per = s.per := by
  unfold State.judgedAt
  obtain rfl | h := h
  · simp
  · rw [adjustDates_true, h]
    simp only [Bool.false_eq_true, if_false]
    split_ifs <;> simp [refreshPointer]

theorem judgedAt_taken (hp : (moveInstant new s).passedDate s.clock.now = true) :
    s.judgedAt true new = dateRequest .date (refreshPointer (moveInstant new s)) := by
  rw [State.judgedAt, if_pos rfl, adjustDates_true, if_pos hp]

theorem canFreeze_congr {t : State} (h : t.per = s.per) : t.canFreeze = s.canFreeze := by
  simp [State.canFreeze, State.closeIdle, h]

/-- A date event that freezes: the state it is taken in is the moved one. -/
theorem judgedAt_freezes (hp : (moveInstant new s).passedDate s.clock.now = true) (hf : s.canFreeze = true) :
    s.judgedAt true new = freeze .date false (refreshPointer (moveInstant new s)) := by
  rw [judgedAt_taken hp, dateRequest, if_pos]
  rw [canFreeze_congr (s := s) (by simp [refreshPointer]), hf]

/-- A date event that does not freeze leaves the registers and the log. -/
theorem judgedAt_defers (hp : (moveInstant new s).passedDate s.clock.now = true) (hf : s.canFreeze = false) :
    (s.judgedAt true new).tot = s.tot ∧ (s.judgedAt true new).dem = s.dem ∧ (s.judgedAt true new).log = s.log := by
  have hcan : (refreshPointer (moveInstant new s)).canFreeze = false := by
    rw [canFreeze_congr (s := s) (by simp [refreshPointer]), hf]
  rw [judgedAt_taken hp, dateRequest, hcan, if_neg (by decide)]
  split_ifs <;> simp [refreshPointer, deferClose]

/-- A date event during a close or the lockout is deferred (R112). -/
theorem judgedAt_deferred (hp : (moveInstant new s).passedDate s.clock.now = true)
    (h : s.per.close ≠ .idle ∨ s.per.lockout ≠ 0) :
    (s.judgedAt true new).per = { s.per with deferred := some (s.per.deferred.getD .date) }
      ∧ ∀ p, ((s.judgedAt true new).port p).attn.has .closeDeferred = true := by
  set m := refreshPointer (moveInstant new s) with hm
  have hper : m.per = s.per := by simp [hm, refreshPointer]
  have hcan : m.canFreeze = false := by
    rw [canFreeze_congr hper, Bool.eq_false_iff, Ne, State.canFreeze_iff]
    rintro ⟨hidle, hlock, -⟩
    exact h.elim (absurd hidle) (absurd hlock)
  have hidle : (m.closeIdle && m.per.lockout == 0) = false := by
    rw [Bool.eq_false_iff, Ne, Bool.and_eq_true, State.closeIdle_iff, beq_iff_eq, hper]
    rintro ⟨hidle, hlock⟩
    exact h.elim (absurd hidle) (absurd hlock)
  rw [judgedAt_taken hp, ← hm, dateRequest, hcan, hidle, if_neg (by decide), if_neg (by decide)]
  exact ⟨by simp [deferClose, hper], fun p => by simp [deferClose, State.raise_has]⟩

/-- A date event at the last period number does nothing (R110). -/
theorem judgedAt_last (hp : (moveInstant new s).passedDate s.clock.now = true) (hidle : s.per.close = .idle)
    (hlock : s.per.lockout = 0) (hlast : s.per.number = lastPeriod) : (s.judgedAt true new).per = s.per := by
  set m := refreshPointer (moveInstant new s) with hm
  have hper : m.per = s.per := by simp [hm, refreshPointer]
  have hcan : m.canFreeze = false := by
    rw [canFreeze_congr hper, Bool.eq_false_iff, Ne, State.canFreeze_iff]
    exact fun h => h.2.2 hlast
  have hfree : (m.closeIdle && m.per.lockout == 0) = true := by
    rw [Bool.and_eq_true, State.closeIdle_iff, beq_iff_eq, hper]
    exact ⟨hidle, hlock⟩
  rw [judgedAt_taken hp, ← hm, dateRequest, hcan, hfree, if_neg (by decide), if_pos rfl]
  exact hper

/-- What the freeze of a forward adjustment leaves before the sub-interval is judged (R115). -/
theorem judgedAt_frozen (hp : (moveInstant new s).passedDate s.clock.now = true) (hf : s.canFreeze = true) :
    let u := s.judgedAt true new
    u.tot = { s.tot with period := .all (.all 0), present := 0 } ∧ u.dem = { s.dem with maxima := .all ⟨none, none⟩ }
      ∧ u.log = s.log.logged { kind := .close, rate := s.sub.rate, status := 0, stamp := new, payload := [s.per.number] }
      ∧ u.per = { s.per with
          close := .closing
            { energy := s.tot.period, maxima := s.dem.maxima, ratePresent := s.tot.present
              ratchet := (s.per.history.reverse.take s.config.bill.lookback).map PeriodRecord.unadjusted
              settings := s.config.bill, number := s.per.number, start := s.per.start, stop := new
              cause := .date, partialMark := s.per.partialMark }
          number := s.per.number + 1, start := new, partialMark := false, lockout := s.config.lockoutLen } := by
  dsimp only
  rw [judgedAt_freezes hp hf]
  set m := refreshPointer (moveInstant new s) with hm
  have hnow : m.clock.now = new := rfl
  have hrate : m.sub.rate = s.sub.rate := rfl
  have hfiled := freeze_logged .date false m
  refine ⟨by rw [freeze_tot]; rfl, by rw [freeze_dem]; rfl, ?_, by rw [freeze_per]; rfl⟩
  exact hfiled

end

/-! ### The log of a close that a freeze comes before (R117) -/

/-- The records of a log once a record and then a close have come to it: the record is there, and the DATA record with
the sequence after it (R52 step 10, R133). -/
theorem closeLogged_holds {s : State} {l : ProfileLog} (hfree : l.clearBusy = false) (t : State) (r : SubRecord)
    (b : LogBody) (hb : b.words ≤ 24) (hdata : (s.dataOf r).words ≤ 24) :
    (⟨l.nextSeq, b⟩ : LogRecord) ∈ (s.closeLogged t (l.logged b) r).records
      ∧ (⟨l.nextSeq + 1, s.dataOf r⟩ : LogRecord) ∈ (s.closeLogged t (l.logged b) r).records := by
  have hwords : ∀ x : LogRecord, wordsOf [x] = x.body.words := fun x => by simp [wordsOf]
  have hfree' : ({ l.logged b with carries := s.carriesOf r } : ProfileLog).clearBusy = false :=
    (ProfileLog.logged_clearBusy _ _).trans hfree
  have hnext : (l.logged b).nextSeq = l.nextSeq + 1 := by rw [ProfileLog.logged_of_free hfree]
  obtain ⟨before, hbefore⟩ := ProfileLog.logged_append hfree (a := l.records) (b := []) (by simp) b
    (by simp only [wordsOf, List.map_nil, List.sum_nil, logWords]; omega)
  obtain ⟨between, hbetween⟩ := ProfileLog.logged_append hfree' hbefore (s.dataOf r) (by
    simp only [List.nil_append, hwords, logWords]; omega)
  rw [List.nil_append, hnext] at hbetween
  have hboth : (⟨l.nextSeq, b⟩ : LogRecord) ∈ (ProfileLog.logged { l.logged b with carries := s.carriesOf r } (s.dataOf r)).records
      ∧ (⟨l.nextSeq + 1, s.dataOf r⟩ : LogRecord)
        ∈ (ProfileLog.logged { l.logged b with carries := s.carriesOf r } (s.dataOf r)).records := by
    rw [hbetween]; simp
  unfold State.closeLogged
  cases s.store.pendSched with
  | none => exact hboth
  | loading _ => exact hboth
  | armed _ day =>
    dsimp only
    split_ifs
    · obtain ⟨after, hafter⟩ := ProfileLog.logged_append ((ProfileLog.logged_clearBusy _ _).trans hfree') hbetween
        { kind := .schedule, rate := t.sub.rate, status := 0, stamp := t.clock.now, payload := [BitVec.ofNat 32 day] } (by
          rw [wordsOf_append, hwords, hwords, logWords]
          simp only [LogBody.words, List.length_cons, List.length_nil] at hb hdata ⊢
          omega)
      rw [hafter]; simp
    · exact hboth

/-! ### The whole of an adjustment -/

theorem adjustBack_movedTo (v : Nat) (s : State) : adjustBack v s = (moveInstant (s.clock.now.earlier v) s).setSub { s.sub with
    status := s.sub.status.mark .timeAdj
    nominalEnd := if s.config.syncMode = .external then s.sub.nominalEnd.earlier v else s.sub.nominalEnd } := by
  unfold adjustBack
  split
  next h => rw [h]; rfl
  next h => rw [h]; rfl

/-- Adjust Time in its range, taken by an unlatched end of its transaction (R30, R31). -/
theorem exec_adjustTime {s : State} (hs : s.TakesOperation .utility) (v : BitVec 16) (b : Bool) :
    exec (.adjustTime .utility .whole v b) s = .next ((ownAdjustTime v b s).ended .utility 0x41) :=
  exec_operation_passed rfl rfl rfl rfl hs

theorem ownAdjustTime_forward {v : BitVec 16} {s : State} (hlow : -900 ≤ v.toInt) (hhigh : v.toInt ≤ 900)
    (hfrom : 0 ≤ (s.clock.now.abs : Int) + v.toInt) (hto : (s.clock.now.abs : Int) + v.toInt < 5662310400) (h : 0 < v.toInt)
    (b : Bool) : ownAdjustTime v b s = (.ok, adjustForward v.toInt.toNat b s) := by
  have hcycle : (cycleSeconds : Int) = 5662310400 := rfl
  rw [ownAdjustTime, hcycle]
  rw [if_neg (by omega), if_neg (by omega), if_neg (by omega), if_pos h]

theorem ownAdjustTime_back {v : BitVec 16} {s : State} (hlow : -900 ≤ v.toInt) (hhigh : v.toInt ≤ 900)
    (hfrom : 0 ≤ (s.clock.now.abs : Int) + v.toInt) (hto : (s.clock.now.abs : Int) + v.toInt < 5662310400) (h : v.toInt < 0)
    (b : Bool) : ownAdjustTime v b s = (.ok, adjustBack (-v.toInt).toNat s) := by
  have hcycle : (cycleSeconds : Int) = 5662310400 := rfl
  rw [ownAdjustTime, hcycle]
  rw [if_neg (by omega), if_neg (by omega), if_neg (by omega), if_neg (by omega)]

theorem adjustSubForward_keeps_flag {u : State} {p : Port} {g : AttnFlag} (h : (u.port p).attn.has g = true)
    (hg : g ∉ [.newMaxKW, .newMaxKVA, .logOverrun, .scheduleSwitched, .regRollover]) (v : Nat) (reached : Bool) :
    ((adjustSubForward v reached u).port p).attn.has g = true := by
  unfold adjustSubForward
  split
  · split
    · rw [closeNow_has _ _ _ hg, h]; rfl
    · exact h
  · rw [State.setSub_port]; exact h

theorem State.MovedTo.sameBill {s u : State} {new : Instant} (hu : s.MovedTo u new) (htot : u.tot = s.tot)
    (hdem : u.dem = s.dem) : s.SameBill u := by
  have hconfig : u.config = s.config := congrArg Store.config hu.store
  refine ⟨⟨?_, ?_, ?_, ?_, ?_, ?_, ?_, ?_, ?_, ?_, ?_, htot, hdem⟩, hu.chans, by rw [hu.sup]⟩ <;>
    simp [hu.sub, hu.store, hu.chans, hconfig]

/-- The close of a forward adjustment is that of the state before the move, where the registers and the windows are
those of that state (R30). -/
theorem State.MovedTo.closes {s u : State} {new : Instant} (hu : s.MovedTo u new) (htot : u.tot = s.tot) (hdem : u.dem = s.dem) :
    s.ClosesInto (closeNow (adjustStatus s.config s.sub.elapsed) u) s.chans new
      (.timeAdj :: .short :: (if s.config.subLen < s.sub.elapsed then [.long] else []))
      (closingRecord (adjustStatus s.config s.sub.elapsed) new u) (closeNow (adjustStatus s.config s.sub.elapsed) u).tot
      (closeNow (adjustStatus s.config s.sub.elapsed) u).dem := by
  have hcloses := closeWith_closesInto clockOnly_id (adjustStatus s.config s.sub.elapsed) u.clock.now u.clock.now u
    (adjustStatus_has s.config s.sub.elapsed) (closeNow_clock_now _ u)
  rw [hu.chans, hu.now] at hcloses
  rw [closeNow, hu.now]
  refine hcloses.of_sameBill (hu.sameBill htot hdem) fun f => ?_
  rw [hu.sub]
  exact marked_or_mem (by simp) f

theorem State.MovedTo.closes_log {s u : State} {new : Instant} (hu : s.MovedTo u new) (hcarries : u.log.carries = s.log.carries)
    (cause : StatusSet) :
    (closeNow cause u).log = s.closeLogged (closeNow cause u) u.log (closingRecord cause new u) := by
  rw [closeNow, closeWith_closeLogged clockOnly_id, hu.now]
  exact State.closeLogged_congr (congrArg (fun c : Store => c.config.logMask) hu.store) hcarries
    (congrArg Store.pendSched hu.store) _ _ _

/-- Unless a date event freezes first, the registers, the windows and the log stand as before the move. -/
theorem judgedAt_bill (s : State) (first : Bool) (new : Instant) :
    ((s.judgedAt first new).tot = s.tot ∧ (s.judgedAt first new).dem = s.dem ∧ (s.judgedAt first new).log = s.log)
      ∨ (first = true ∧ (moveInstant new s).passedDate s.clock.now = true ∧ s.canFreeze = true) := by
  cases hfirst : first with
  | false =>
    obtain ⟨htot, hdem, hlog, -⟩ := judgedAt_plain (s := s) (new := new) (.inl (rfl : false = false))
    exact .inl ⟨htot, hdem, hlog⟩
  | true =>
    cases hp : (moveInstant new s).passedDate s.clock.now with
    | false =>
      obtain ⟨htot, hdem, hlog, -⟩ := judgedAt_plain (first := true) (.inr hp)
      exact .inl ⟨htot, hdem, hlog⟩
    | true =>
      cases hf : s.canFreeze with
      | false => exact .inl (judgedAt_defers hp hf)
      | true => exact .inr ⟨rfl, rfl, rfl⟩

theorem PerRate.all_get {α : Type} (a : α) (x : RateSet) : (PerRate.all a).get x = a := by
  cases x with
  | one r => cases r <;> rfl
  | all => rfl

/-- A close that follows a freeze leaves in the period its own record's energies alone (R53, R54, R115). -/
theorem closeNow_alone {s u : State} (htot : u.tot = { s.tot with period := .all (.all 0), present := 0 }) (cause : StatusSet)
    {status : StatusSet} (hsub : u.sub = { s.sub with status := status }) :
    ∃ r, (closeNow cause u).tot.last = some r ∧ (closeNow cause u).tot.period.get .all = r.totals
      ∧ (closeNow cause u).tot.period.get (.one s.sub.rate) = r.totals
      ∧ ∀ x, (closeNow cause u).tot.present.has x = true ↔ x = s.sub.rate := by
  have hzero : ∀ q : Quint Energy, (Quint.all 0).zipWith (· + ·) q = q := fun q => by simp [Quint.all, Quint.zipWith]
  obtain ⟨hlast, -, -, hperiod, hpresent, -⟩ := filed_files (closingRecord cause u.clock.now u) u
  have hrate : (closingRecord cause u.clock.now u).rate = s.sub.rate := by
    show u.sub.rate = _
    rw [hsub]
  rw [closeNow_tot]
  refine ⟨closingRecord cause u.clock.now u, hlast, ?_, ?_, fun x => ?_⟩
  · rw [hperiod, if_pos (.inr rfl), htot]; exact hzero _
  · rw [hperiod, if_pos (.inl (by rw [hrate])), htot]; exact (congrArg (Quint.zipWith (· + ·) · _) (PerRate.all_get _ _)).trans (hzero _)
  · rw [hpresent, htot, hrate]
    simp [RateMask.has]

/-- The log of a forward adjustment that freezes holds the CLOSE marker, and the DATA record after it where the
sub-interval is closed (R117, R133). -/
theorem adjustedTo_holds_close {s : State} {v : Nat}
    (hp : (moveInstant (s.clock.now.later v) s).passedDate s.clock.now = true) (hf : s.canFreeze = true)
    (hfree : s.log.clearBusy = false) :
    (⟨s.log.nextSeq, ⟨.close, s.sub.rate, 0, s.clock.now.later v, [s.per.number]⟩⟩ : LogRecord) ∈ (s.adjustedTo v true).log.records
      ∧ (s.config.syncMode = .internal ∧ s.clock.now.until s.sub.nominalEnd ≤ v →
          ∃ m ∈ (s.adjustedTo v true).log.records, m.sequence = s.log.nextSeq + 1
            ∧ m.body.kind = .data s.config.logMask ∧ m.body.stamp = s.clock.now.later v) := by
  have hu := judgedAt_movedTo s true (s.clock.now.later v)
  obtain ⟨-, -, hlog, -⟩ := judgedAt_frozen hp hf
  set u := s.judgedAt true (s.clock.now.later v) with hudef
  set cause := adjustStatus s.config s.sub.elapsed with hcause
  set r := closingRecord cause (s.clock.now.later v) u with hrdef
  have hcarries : u.log.carries = s.log.carries := by rw [hlog, ProfileLog.logged_carries]
  have hdata : (s.dataOf r).words ≤ 24 := by rw [← dataBody_eq]; exact (dataBody_lengthSafe _ _ _).2
  have hboth := closeLogged_holds hfree (closeNow cause u) r
    ⟨.close, s.sub.rate, 0, s.clock.now.later v, [s.per.number]⟩ (by simp [LogBody.words]) hdata
  by_cases hr : s.config.syncMode = .internal ∧ s.clock.now.until s.sub.nominalEnd ≤ v
  · have hfiled := hu.closes_log hcarries cause
    rw [hlog] at hfiled
    rw [adjustedTo_closes hr.1 hr.2, ← hudef, ← hcause, hfiled]
    exact ⟨hboth.1, fun _ => ⟨_, hboth.2, rfl, rfl, rfl⟩⟩
  · rw [adjustedTo_goesOn hr]
    refine ⟨?_, fun h => absurd h hr⟩
    show _ ∈ u.log.records
    rw [hlog, ProfileLog.logged_of_free hfree]
    simp

/-- Settles O28: an adjustment moves the instant, takes or leaves the date event it raises, and judges the
sub-interval by `adjustedTo_closes` and `adjustedTo_goesOn`. -/
theorem adjustTimeMovesTheClock : Obligations.AdjustTimeMovesTheClock := by
  unfold Obligations.AdjustTimeMovesTheClock
  intro v b s hs ⟨hday, hsec⟩ hclose
  have hcycle : (cycleSeconds : Int) = 5662310400 := rfl
  rw [exec_adjustTime hs]
  refine ⟨fun hbad => ?_, fun hzero => ?_, ?_⟩
  · rw [ownAdjustTime, hcycle]
    split_ifs
    · rfl
    · rfl
    all_goals omega
  · have habs : (s.clock.now.abs : Int) < 5662310400 := by
      simp only [Instant.abs, daySeconds, cycleDays] at hday hsec ⊢; omega
    rw [ownAdjustTime, hcycle]
    rw [if_neg (by omega), if_neg (by omega), if_pos hzero]
    rfl
  · rintro ⟨hlow, hhigh, hne, hfrom, hto⟩ passed reached first long
    rcases Int.lt_or_gt_of_ne hne with hneg | hpos
    · have habs : s.clock.now.abs < 5662310400 := by
        simp only [Instant.abs, daySeconds, cycleDays] at hday hsec ⊢; omega
      rw [ownAdjustTime_back hlow hhigh hfrom hto hneg, adjustBack_movedTo]
      have hm := moveInstant_movedTo (s.clock.now.earlier (-v.toInt).toNat) s
      refine ⟨_, rfl, ?_, Instant.earlier_inRange _ _, hm.day, rfl, fun p => ?_, fun _ => ⟨rfl, rfl⟩, fun h => absurd h (by omega),
        fun h => absurd h (by omega), fun h => absurd h (by omega), fun _ => ?_, fun h => absurd h.1 (by omega),
        fun h => absurd h.1 (by omega), fun _ => rfl, fun h => absurd h (by omega), rfl, rfl, rfl⟩
      · show (((s.clock.now.earlier (-v.toInt).toNat).abs : Nat) : Int) = _
        rw [Instant.earlier_abs habs (by omega)]
        omega
      · exact (congrArg (fun u : AttentionUnit => u.has .timeChanged) (State.finish_attn ..)).trans (hm.changed p)
      · refine ⟨rfl, rfl, rfl, rfl, rfl, rfl, rfl, rfl, rfl, rfl, rfl, fun f => ?_, fun hmode => ?_, fun h => absurd h (by omega),
          fun _ hmode => ?_, fun _ => ⟨rfl, rfl, rfl⟩⟩
        · show (s.sub.status.mark .timeAdj).has f = true ↔ _
          simp [StatusSet.has_mark, or_comm]
        · exact if_neg (by rw [hmode]; decide)
        · exact if_pos hmode
    · rw [ownAdjustTime_forward hlow hhigh hfrom hto hpos, adjustForward_eq]
      obtain ⟨n, hn⟩ : ∃ n : Nat, v.toInt = n := ⟨v.toInt.toNat, by omega⟩
      have hn' : v.toInt.toNat = n := by omega
      rw [hn']
      set new := s.clock.now.later n with hnew
      have habs : new.abs = n + s.clock.now.abs := Instant.later_abs (by omega)
      have hrange : new.InRange := Instant.later_inRange _ _
      have hpass : (moveInstant new s).passedDate s.clock.now = true ↔ passed := by
        rw [State.passedDate_iff hsec hrange.2 (by exact hclose)]
        refine exists_congr fun d => and_congr_right fun _ => and_congr_right fun _ => ?_
        show d * 86400 + s.config.closeSecond ≤ new.abs
          ↔ ((d * 86400 + s.config.closeSecond : Nat) : Int) ≤ (s.clock.now.abs : Int) + v.toInt
        rw [habs, hn]
        omega
      have hu := judgedAt_movedTo s b new
      have hreach : reached ↔ s.config.syncMode = .internal ∧ s.clock.now.until s.sub.nominalEnd ≤ n :=
        ⟨fun ⟨_, hmode, h⟩ => ⟨hmode, by omega⟩, fun ⟨hmode, h⟩ => ⟨hpos, hmode, by omega⟩⟩
      have hfirst : first ↔ b = true ∧ passed ∧ s.canFreeze = true := by
        rw [State.canFreeze_iff]; exact Iff.rfl
      have hnow : (s.adjustedTo n b).clock.now = new := (adjustSubForward_clock_now ..).trans hu.now
      have hday' : (s.adjustedTo n b).DayTyped := by
        by_cases hr : reached
        · obtain ⟨hmode, hr⟩ := hreach.mp hr
          rw [adjustedTo_closes hmode hr]; exact hu.day.closeNow _
        · rw [adjustedTo_goesOn (mt hreach.mpr hr)]; exact hu.day
      have hconfig : (s.adjustedTo n b).config = s.config :=
        (adjustSubForward_store_config ..).trans (congrArg Store.config hu.store)
      have hper : (s.adjustedTo n b).per = (s.judgedAt b new).per := adjustSubForward_per ..
      refine ⟨_, rfl, ?_, ?_, ?_, ?_, fun p => ?_, fun h => absurd h (by omega), fun _ => ?_, fun _ hb hp => ?_,
        fun _ h => ?_, fun hr => ?_, fun hr hf => ?_, fun hr hf => ?_, fun h => ?_, fun _ hb hp => ?_, hconfig, rfl, rfl⟩
      · show (((s.adjustedTo n b).clock.now.abs : Nat) : Int) = _
        rw [hnow, habs]; omega
      · show (s.adjustedTo n b).clock.now.InRange
        rw [hnow]; exact hrange
      · exact hday'.trans (by rw [hconfig]; rfl)
      · exact (adjustSubForward_clock_timeValid ..).trans hu.valid
      · exact (congrArg (fun u : AttentionUnit => u.has .timeChanged) (State.finish_attn ..)).trans
          (adjustSubForward_keeps_flag (hu.changed p) (by decide) n _)
      · show s.store.pointerAfter new = s.store.pointerAfter (s.adjustedTo n b).clock.now
        rw [hnow]
      · exact if_pos ⟨hb, hpass.mpr hp⟩
      · refine if_neg fun hboth => ?_
        obtain ⟨hb, hp⟩ := hboth
        exact h.elim (fun h => absurd (hb.symm.trans h) (by decide)) (fun h => h (hpass.mp hp))
      · have hgoes := adjustedTo_goesOn (first := b) (mt hreach.mpr hr)
        have hkept : (s.judgedAt b new).tot.last = s.tot.last ∧ (s.judgedAt b new).tot.lastSeq = s.tot.lastSeq
            ∧ (s.judgedAt b new).tot.acc = s.tot.acc ∧ (s.judgedAt b new).dem.ring = s.dem.ring
            ∧ (s.judgedAt b new).dem.window = s.dem.window := by
          obtain ⟨htot, hdem, -⟩ | ⟨rfl, hp, hf⟩ := judgedAt_bill s b new
          · rw [htot, hdem]; exact ⟨rfl, rfl, rfl, rfl, rfl⟩
          · obtain ⟨htot, hdem, -⟩ := judgedAt_frozen hp hf
            rw [htot, hdem]; exact ⟨rfl, rfl, rfl, rfl, rfl⟩
        obtain ⟨hlast, hseq, hacc, hring, hwindow⟩ := hkept
        rw [hgoes]
        refine ⟨rfl, rfl, rfl, hlast, hseq, hacc, hring, hwindow, hu.chans, hu.store, hu.lim, fun f => ?_, fun hmode => ?_,
          fun _ hmode => ?_, fun h => absurd h (by omega), fun h => ?_⟩
        · show (s.sub.status.mark .timeAdj).has f = true ↔ _
          simp [StatusSet.has_mark, or_comm]
        · exact if_neg (by rw [hmode]; decide)
        · exact if_pos hmode
        · obtain ⟨htot, hdem, hlog⟩ | ⟨hb, hp, -⟩ := judgedAt_bill s b new
          · exact ⟨htot, hdem, hlog⟩
          · obtain h | rfl | h := h
            · omega
            · exact absurd hb (by decide)
            · exact absurd (hpass.mp hp) h
      · obtain ⟨hmode, hr⟩ := hreach.mp hr
        have hcl := adjustedTo_closes (first := b) hmode hr
        obtain ⟨htot, hdem, hlog⟩ | ⟨hb, hp, hcan⟩ := judgedAt_bill s b new
        · refine ⟨closingRecord (adjustStatus s.config s.sub.elapsed) new (s.judgedAt b new), ?_, ?_⟩
          · rw [hcl]
            show s.ClosesInto _ s.chans (closeNow _ (s.judgedAt b new)).clock.now _ _ _ _
            rw [closeNow_clock_now, hu.now]
            exact (hu.closes htot hdem).same rfl rfl rfl rfl rfl rfl
          · rw [hcl]
            have hfiled := hu.closes_log (congrArg ProfileLog.carries hlog) (adjustStatus s.config s.sub.elapsed)
            rw [hlog] at hfiled
            exact hfiled.trans (closeLogged_of_rate _ _ rfl rfl)
        · exact absurd (hfirst.mpr ⟨hb, hpass.mp hp, hcan⟩) hf
      · obtain ⟨hmode, hr⟩ := hreach.mp hr
        have hcl := adjustedTo_closes (first := b) hmode hr
        obtain ⟨rfl, hp, hcan⟩ := hfirst.mp hf
        obtain ⟨htot, hdem, hlog, -⟩ := judgedAt_frozen (hpass.mpr hp) hcan
        refine ⟨closingRecord (adjustStatus s.config s.sub.elapsed) new (s.judgedAt true new), ?_, ?_⟩
        · rw [hcl]
          show State.ClosesInto _ _ s.chans (closeNow _ (s.judgedAt true new)).clock.now _ _ _ _
          rw [closeNow_clock_now, hu.now]
          exact (State.MovedTo.closes (s := { s with tot := { s.tot with period := .all (.all 0), present := 0 }
                                                     dem := { s.dem with maxima := .all ⟨none, none⟩ } })
            ⟨hu.now, hu.valid, hu.day, hu.sub, hu.store, hu.chans, hu.lim, hu.sup, hu.due, hu.changed⟩ htot hdem).same
              rfl rfl rfl rfl rfl rfl
        · rw [hcl]
          have hcarries : (s.judgedAt true new).log.carries = s.log.carries := by rw [hlog, ProfileLog.logged_carries]
          have hfiled := hu.closes_log hcarries (adjustStatus s.config s.sub.elapsed)
          have hstamp : (closeNow (adjustStatus s.config s.sub.elapsed) (s.judgedAt true new)).clock.now = new := by
            rw [closeNow_clock_now, hu.now]
          rw [hlog] at hfiled
          show (closeNow _ (s.judgedAt true new)).log = s.closeLogged _ (s.log.logged
            ⟨.close, s.sub.rate, 0, (closeNow _ (s.judgedAt true new)).clock.now, _⟩) _
          rw [hstamp]
          exact hfiled.trans (closeLogged_of_rate _ _ rfl rfl)
      · obtain ⟨-, -, -, hsame⟩ := judgedAt_plain (s := s) (first := b) (new := new) (by
          obtain h | h | h := h
          · omega
          · exact .inl h
          · exact .inr (Bool.eq_false_iff.mpr (mt hpass.mp h)))
        exact hper.trans hsame
      · subst hb
        have hp' := hpass.mpr hp
        refine ⟨fun h => ?_, fun hidle hlock hlast => hper.trans (judgedAt_last hp' hidle hlock hlast), fun hidle hlock hnum => ?_⟩
        · obtain ⟨hdeferred, hflag⟩ := judgedAt_deferred hp' h
          exact ⟨hper.trans hdeferred, fun p => (congrArg (fun u : AttentionUnit => u.has .closeDeferred)
            (State.finish_attn ..)).trans (adjustSubForward_keeps_flag (hflag p) (by decide) n _)⟩
        · have hcan : s.canFreeze = true := s.canFreeze_iff.mpr ⟨hidle, hlock, hnum⟩
          obtain ⟨htot, hdem, hlog, hperiod⟩ := judgedAt_frozen hp' hcan
          have hheld := adjustedTo_holds_close (v := n) hp' hcan
          refine ⟨?_, fun hr => ?_, fun hr => ?_, fun hfree => ⟨?_, fun hr => ?_⟩⟩
          · have hmoved := hper.trans hperiod
            rw [← hnow] at hmoved
            exact hmoved
          · rw [adjustedTo_goesOn (mt hreach.mpr hr)]
            exact ⟨congrArg Totalizer.period htot, congrArg Totalizer.present htot, congrArg Demand.maxima hdem⟩
          · obtain ⟨hmode, hr⟩ := hreach.mp hr
            rw [adjustedTo_closes hmode hr]
            exact closeNow_alone htot _ hu.sub
          · have hclosed := (hheld hfree).1
            rw [← hnew, ← hnow] at hclosed
            exact hclosed
          · obtain ⟨m, hm, hseq, hkind, hstamp⟩ := (hheld hfree).2 (hreach.mp hr)
            exact ⟨m, hm, hseq, hkind, hstamp.trans hnow.symm⟩

end Sys2Proof.Machine
end

section
/-! PROOFS. The store completion (R132, R165 to R168). -/

namespace Sys2Proof.Machine

open Sys2Proof

/-! ## A setting and the value held -/

/-- A setting with the value that a configuration holds in its place. -/
def Setting.heldIn (v : Setting) (c : Config) : Setting :=
  match v with
  | .channelK i _ => .channelK i (c.channels.get i).k
  | .channelSS i _ => .channelSS i (c.channels.get i).ss
  | .channelEnable i _ => .channelEnable i (c.channels.get i).enabled
  | .channelWeight i _ => .channelWeight i (c.channels.get i).weight
  | .polarity _ => .polarity c.polarity
  | .stallTimeout _ => .stallTimeout c.stallTimeout
  | .subLen _ => .subLen c.subLen
  | .syncMode _ => .syncMode c.syncMode
  | .grace _ => .grace c.grace
  | .weekdayOffset _ => .weekdayOffset c.weekdayOffset
  | .closeSecond _ => .closeSecond c.closeSecond
  | .reactive _ => .reactive c.reactive
  | .digits _ => .digits c.digits
  | .registerMode _ => .registerMode c.registerMode
  | .windowLen _ => .windowLen c.windowLen
  | .excludeFlagged _ => .excludeFlagged c.excludeFlagged
  | .pickupThreshold _ => .pickupThreshold c.pickupThreshold
  | .pickupLength _ => .pickupLength c.pickupLength
  | .lockoutLen _ => .lockoutLen c.lockoutLen
  | .logMask _ => .logMask c.logMask
  | .basis _ => .basis c.bill.basis
  | .billable _ => .billable c.bill.billable
  | .ratchetPct _ => .ratchetPct c.bill.ratchetPct
  | .lookback _ => .lookback c.bill.lookback
  | .contractMin _ => .contractMin c.bill.contractMin
  | .excessOn _ => .excessOn c.bill.excessOn
  | .ratio _ => .ratio c.bill.ratio
  | .pfAdjustOn _ => .pfAdjustOn c.bill.pfAdjustOn
  | .pfRef _ => .pfRef c.bill.pfRef
  | .pfFloor _ => .pfFloor c.bill.pfFloor

/-- A setting written is the value held. -/
theorem Setting.heldIn_apply (v : Setting) (c : Config) : v.heldIn (v.apply c) = v := by
  cases v <;> simp [Setting.heldIn, Setting.apply, Config.setChannel]

theorem PerFour.set_get {α : Type} (x : PerFour α) (i : Fin 4) : x.set i (x.get i) = x := by
  fin_cases i <;> rfl

/-- The value held, written again, changes nothing. -/
theorem Setting.apply_heldIn (v : Setting) (c : Config) : (v.heldIn c).apply c = c := by
  have hchannel : ∀ i, c.setChannel i (c.channels.get i) = c := fun i =>
    congrArg (fun x : PerFour ChannelConfig => { c with channels := x }) (PerFour.set_get _ i)
  cases v with
  | channelK i _ => exact hchannel i
  | channelSS i _ => exact hchannel i
  | channelEnable i _ => exact hchannel i
  | channelWeight i _ => exact hchannel i
  | _ => rfl

/-- A setting changes a configuration exactly where the value held differs from it. -/
theorem Setting.apply_eq_iff (v : Setting) (c : Config) : v.apply c = c ↔ v = v.heldIn c := by
  refine ⟨fun h => ?_, fun h => ?_⟩
  · conv_lhs => rw [← v.heldIn_apply c, h]
  · rw [h]; exact v.apply_heldIn c

/-- A list of four with one entry written is the same list exactly where the entry is. -/
theorem PerFour.set_eq_iff {α : Type} (x : PerFour α) (i : Fin 4) (v : α) : x.set i v = x ↔ v = x.get i := by
  refine ⟨fun h => ?_, fun h => by rw [h, PerFour.set_get]⟩
  rw [← PerFour.get_set_same x i v, h]

/-! ## What a completion leaves (R168) -/

/-- A completion leaves what its item's commit leaves, but for the log, the ports and the write in flight. -/
theorem completeStore_keeps (w : StoreWrite) (s : State) :
    (completeStore w s).clock = (commitItem w.item s).clock ∧ (completeStore w s).sub = (commitItem w.item s).sub
      ∧ (completeStore w s).chans = (commitItem w.item s).chans ∧ (completeStore w s).tot = (commitItem w.item s).tot
      ∧ (completeStore w s).dem = (commitItem w.item s).dem ∧ (completeStore w s).lim = (commitItem w.item s).lim := by
  unfold completeStore
  dsimp only
  split_ifs
  · refine ⟨?_, ?_, ?_, ?_, ?_, ?_⟩ <;> simp
  · refine ⟨?_, ?_, ?_, ?_, ?_, ?_⟩ <;> simp

/-- The log of a completion: the commit's, and on a change the CONFIG marker of the item's group (R132). -/
theorem completeStore_log (w : StoreWrite) (s : State) : (completeStore w s).log
    = if changesStore w.item s then (commitItem w.item s).log.logged
        { kind := .config, rate := (commitItem w.item s).sub.rate, status := 0, stamp := (commitItem w.item s).clock.now
          payload := [BitVec.ofNat 32 w.item.group] }
      else (commitItem w.item s).log := by
  unfold completeStore
  dsimp only
  split_ifs
  · rw [State.setStore_log, State.raiseOn_log]
    exact logMarker_logged .config [w.item.group] _
  · simp

/-- STORE_DONE is raised in the writing port's unit, and in no other (R168). -/
theorem completeStore_has (w : StoreWrite) (s : State) (q : Port) {g : AttnFlag} (hg : g ≠ .logOverrun) :
    ((completeStore w s).port q).attn.has g
      = (((commitItem w.item s).port q).attn.has g || decide (q = w.port ∧ g = .storeDone)) := by
  unfold completeStore
  dsimp only
  rw [State.setStore_port, State.raiseOn_has]
  split_ifs
  · rw [logMarker_has _ _ _ _ hg]
  · rfl

theorem exec_storeCompletion {s : State} {p : Port} {i : StoreItem} (hmain : s.sup.mainSupply = true)
    (hw : s.store.writing = some ⟨p, i⟩) : exec .storeCompletion s = .next (completeStore ⟨p, i⟩ s) := by
  change Host.Outcome.next (whileRunning storeCompletion s) = _
  rw [whileRunning, if_pos hmain, storeCompletion, hw]

/-! ## What the commit of a setting leaves -/

/-- What every commit of a setting leaves, whatever its effects: the value in force, and the present instant,
STORE_DONE and a clear in progress as they were. -/
structure State.Commits (s m : State) (v : Setting) : Prop where
  config : m.config = v.apply s.config
  now : m.clock.now = s.clock.now
  done : ∀ p, (m.port p).attn.has .storeDone = (s.port p).attn.has .storeDone
  clearing : m.log.clearBusy = s.log.clearBusy

section
variable {s m : State} {v : Setting}

/-- What happens beside the configuration, the instant, the units and the log leaves a commit one. -/
theorem State.Commits.of_same {u : State} (h : s.Commits m v) (hconfig : u.config = m.config) (hnow : u.clock.now = m.clock.now)
    (hport : ∀ p, u.port p = m.port p) (hlog : u.log = m.log) : s.Commits u v :=
  ⟨hconfig.trans h.config, hnow.trans h.now, fun p => by rw [hport]; exact h.done p, by rw [hlog]; exact h.clearing⟩

theorem commits_writeSetting (v : Setting) (s : State) : s.Commits (writeSetting v s) v :=
  ⟨rfl, rfl, fun p => by cases p <;> rfl, rfl⟩

theorem State.Commits.closeNow (h : s.Commits m v) (cause : StatusSet) : s.Commits (closeNow cause m) v :=
  ⟨(closeWith_config clockOnly_id ..).trans h.config, (closeNow_clock_now _ _).trans h.now,
    fun p => by rw [closeNow_has _ _ _ (by decide), h.done]; simp, (closeNow_log_clearBusy _ _).trans h.clearing⟩

theorem State.Commits.takeExpiry (h : s.Commits m v) : s.Commits (takeExpiry m) v := by
  unfold Machine.takeExpiry
  split_ifs
  · exact h.closeNow _
  · exact h

/-- A value written after a forced close (R24, R65, R80). -/
theorem commits_forced (v : Setting) (s : State) : s.Commits (writeSetting v (forceClose .config s)) v := by
  have hconfig : (forceClose .config s).config = s.config := closeWith_config clockOnly_id ..
  refine ⟨congrArg v.apply hconfig, by simp, fun p => ?_, by simp⟩
  rw [writeSetting, State.setConfig, State.setStore_port, forceClose, closeNow_has _ _ _ (by decide)]
  simp

theorem commits_onChange {f : State → State} (h : s.Commits (f s) v) : s.Commits (onChange v f s) v := by
  unfold onChange
  split_ifs with hsame
  · exact ⟨hsame.symm, rfl, fun _ => rfl, rfl⟩
  · exact h

theorem commits_marked (v : Setting) (s : State) : s.Commits ((writeSetting v s).markSub .config) v :=
  (commits_writeSetting v s).of_same rfl rfl (fun p => by cases p <;> rfl) rfl

theorem commitSetting_commits (v : Setting) (s : State) : s.Commits (commitSetting v s) v := by
  have hwritten := commits_writeSetting v s
  have hmarked := commits_marked v s
  have hforced := commits_forced v s
  cases v with
  | channelK c _ => unfold commitSetting; refine commits_onChange ?_; exact hmarked.of_same rfl rfl (fun p => by cases p <;> rfl) rfl
  | channelSS c _ => unfold commitSetting; refine commits_onChange ?_; exact hmarked.of_same rfl rfl (fun p => by cases p <;> rfl) rfl
  | channelEnable c on => unfold commitSetting; refine commits_onChange ?_; exact hmarked.of_same rfl rfl (fun p => by cases p <;> rfl) rfl
  | channelWeight c _ => unfold commitSetting; refine commits_onChange ?_; exact hforced
  | polarity _ => unfold commitSetting; refine commits_onChange ?_; exact hmarked
  | reactive _ => unfold commitSetting; refine commits_onChange ?_; exact hmarked
  | subLen _ => unfold commitSetting; refine commits_onChange ?_; exact hforced.of_same rfl rfl (fun p => by cases p <;> rfl) rfl
  | windowLen _ => unfold commitSetting; refine commits_onChange ?_; exact hforced.of_same rfl rfl (fun p => by cases p <;> rfl) rfl
  | syncMode m =>
    cases m with
    | internal => unfold commitSetting; refine commits_onChange ?_; exact hmarked.of_same rfl rfl (fun p => by cases p <;> rfl) rfl
    | external =>
      unfold commitSetting; refine commits_onChange ?_; exact State.Commits.takeExpiry (hmarked.of_same rfl rfl (fun p => by cases p <;> rfl) rfl)
  | grace _ => unfold commitSetting; refine commits_onChange ?_; exact hwritten.takeExpiry
  | weekdayOffset _ => exact hwritten.of_same rfl rfl (fun p => by cases p <;> rfl) rfl
  | closeSecond _ => exact hwritten.of_same rfl rfl (fun p => by cases p <;> rfl) rfl
  | _ => exact hwritten

/-- Where the value held is written, a commit changes nothing but the day type or the pointer, found anew. -/
theorem commitSetting_same {s : State} {v : Setting} (h : v.apply s.config = s.config) :
    ∃ clock, commitSetting v s = s.setClock clock := by
  have hwritten : writeSetting v s = s := by rw [writeSetting, h]; rfl
  have hkept : ∀ f, ∃ clock, onChange v f s = s.setClock clock := fun f => ⟨s.clock, by rw [onChange, if_pos h]; rfl⟩
  cases v with
  | channelK _ _ => unfold commitSetting; exact hkept _
  | channelSS _ _ => unfold commitSetting; exact hkept _
  | channelEnable _ _ => unfold commitSetting; exact hkept _
  | channelWeight _ _ => unfold commitSetting; exact hkept _
  | polarity _ => unfold commitSetting; exact hkept _
  | reactive _ => unfold commitSetting; exact hkept _
  | subLen _ => unfold commitSetting; exact hkept _
  | windowLen _ => unfold commitSetting; exact hkept _
  | syncMode _ => unfold commitSetting; exact hkept _
  | grace _ => unfold commitSetting; exact hkept _
  | weekdayOffset _ => exact ⟨_, by rw [commitSetting, hwritten]; rfl⟩
  | closeSecond _ => exact ⟨_, by rw [commitSetting, hwritten]; rfl⟩
  | _ => exact ⟨s.clock, hwritten⟩

end

end Sys2Proof.Machine
end

section
/-! PROOFS. What every store completion leaves (R132, R167, R168). -/

namespace Sys2Proof.Machine

open Sys2Proof

/-- An item that is no setting leaves the log, the instant and the units alone. -/
theorem commitItem_plain {i : StoreItem} (hi : ∀ v, i ≠ .setting v) (s : State) : (commitItem i s).log = s.log
    ∧ (commitItem i s).clock.now = s.clock.now ∧ ∀ p, (commitItem i s).port p = s.port p := by
  cases i with
  | setting v => exact absurd rfl (hi v)
  | limit k l => exact ⟨by simp [commitItem, applyLimit], by simp [commitItem, applyLimit], fun p => by cases p <;> simp [commitItem, applyLimit, State.port]⟩
  | lockMode m =>
    unfold commitItem commitLockMode
    dsimp only
    split_ifs
    · exact ⟨rfl, rfl, fun _ => rfl⟩
    · exact ⟨rfl, rfl, fun p => by cases p <;> rfl⟩
  | _ => exact ⟨rfl, rfl, fun p => by cases p <;> rfl⟩

theorem commitItem_now (i : StoreItem) (s : State) : (commitItem i s).clock.now = s.clock.now := by
  cases i with
  | setting v => exact (commitSetting_commits v s).now
  | _ => exact (commitItem_plain (fun _ h => by cases h) s).2.1

theorem commitItem_done (i : StoreItem) (s : State) (p : Port) :
    ((commitItem i s).port p).attn.has .storeDone = (s.port p).attn.has .storeDone := by
  cases i with
  | setting v => exact (commitSetting_commits v s).done p
  | _ => rw [(commitItem_plain (fun _ h => by cases h) s).2.2]

theorem commitItem_clearing (i : StoreItem) (s : State) : (commitItem i s).log.clearBusy = s.log.clearBusy := by
  cases i with
  | setting v => exact (commitSetting_commits v s).clearing
  | _ => rw [(commitItem_plain (fun _ h => by cases h) s).1]

/-- A completion that changes nothing stored writes no marker (R132). -/
theorem commitItem_log_of_same {i : StoreItem} {s : State} (h : changesStore i s = false) : (commitItem i s).log = s.log := by
  cases i with
  | setting v =>
    obtain ⟨clock, hclock⟩ := commitSetting_same (v := v) (s := s) (by simpa [changesStore] using h)
    show (commitSetting v s).log = s.log
    rw [hclock]; rfl
  | _ => exact (commitItem_plain (fun _ h => by cases h) s).1

/-- A completion that changes a stored value ends the log with the CONFIG marker of its group (R132). -/
theorem completeStore_marks {w : StoreWrite} {s : State} (h : changesStore w.item s = true) (hfree : s.log.clearBusy = false) :
    ∃ q r, (completeStore w s).log.records.getLast?
      = some ⟨q, ⟨.config, r, 0, s.clock.now, [BitVec.ofNat 32 w.item.group]⟩⟩ := by
  refine ⟨(commitItem w.item s).log.nextSeq, (commitItem w.item s).sub.rate, ?_⟩
  rw [completeStore_log, if_pos h, ProfileLog.logged_of_free ((commitItem_clearing _ _).trans hfree), commitItem_now]
  simp

/-! ## What changes a stored value, item by item (R132, assumption 11) -/

theorem changesStore_setting (v : Setting) (s : State) : changesStore (.setting v) s = true ↔ v ≠ v.heldIn s.config := by
  rw [changesStore, decide_eq_true_eq, Ne, Setting.apply_eq_iff]

/-- A pending write is judged by the tables it starts from. -/
theorem changesStore_switchQuad (d : Fin 4) (i : Nat) (e : List (Option SwitchPoint)) (s : State) :
    changesStore (.switchQuad d i e) s = true
      ↔ writeQuad (s.store.pendingTables.switches.get d) i e ≠ s.store.pendingTables.switches.get d := by
  rw [Ne, ← PerFour.set_eq_iff s.store.pendingTables.switches d]
  simp only [changesStore, StoreItem.newTables, Tables.withSwitches, ne_eq, decide_not, Bool.not_eq_true', decide_eq_false_iff_not,
    Option.some.injEq]
  exact not_congr ⟨fun h => congrArg Tables.switches h, fun h => by rw [h]⟩

theorem changesStore_holidayQuad (i : Nat) (e : List (Option Nat)) (s : State) :
    changesStore (.holidayQuad i e) s = true
      ↔ writeQuad s.store.pendingTables.holidays i e ≠ s.store.pendingTables.holidays := by
  simp only [changesStore, StoreItem.newTables, ne_eq, decide_not, Bool.not_eq_true', decide_eq_false_iff_not, Option.some.injEq]
  exact not_congr ⟨fun h => congrArg Tables.holidays h, fun h => by rw [h]⟩

theorem changesStore_weekTable (w : Week (Fin 3)) (s : State) :
    changesStore (.weekTable w) s = true ↔ w ≠ s.store.pendingTables.week := by
  simp only [changesStore, StoreItem.newTables, ne_eq, decide_not, Bool.not_eq_true', decide_eq_false_iff_not, Option.some.injEq]
  exact not_congr ⟨fun h => congrArg Tables.week h, fun h => by rw [h]⟩

/-- Settles O33: `completeStore` by its parts, and the change judged item by item. -/
theorem storeCompletionCommits : Obligations.StoreCompletionCommits := by
  unfold Obligations.StoreCompletionCommits
  intro p item s hmain hw held base changed group later
  have hheld : ∀ c v, held c v = v.heldIn c := fun c v => by cases v <;> rfl
  have hbase : s.store.pendingTables = base := rfl
  have hgroup : item.group = group := by
    cases item with
    | setting v => cases v <;> rfl
    | _ => rfl
  have hchanged : changesStore item s = true ↔ changed := by
    cases item with
    | setting v => rw [changesStore_setting, ← hheld]
    | switchQuad d i e => exact changesStore_switchQuad d i e s
    | holidayQuad i e => exact changesStore_holidayQuad i e s
    | weekTable w => exact changesStore_weekTable w s
    | closeDates l => exact decide_eq_true_iff
    | limit k l => exact decide_eq_true_iff
    | lockMode m => exact decide_eq_true_iff
    | calibrationLock c => exact Iff.of_eq (Bool.not_eq_true' _)
  have hstore := completeStore_store ⟨p, item⟩ s
  obtain ⟨hclock, hsub, hchans, htot, hdem, hlim⟩ := completeStore_keeps ⟨p, item⟩ s
  refine ⟨completeStore ⟨p, item⟩ s, exec_storeCompletion hmain hw, congrArg Store.writing hstore, fun q => ?_, ?_, ?_, ?_, ?_, ?_, ?_, ?_, ?_, ?_⟩
  · rw [completeStore_has _ _ _ (by decide), commitItem_done]
    simp
  · rintro v rfl
    have hconfig : (completeStore ⟨p, .setting v⟩ s).config = v.apply s.config := by
      rw [State.config, hstore]; exact (commitSetting_commits v s).config
    exact ⟨hconfig, by rw [hheld, hconfig]; exact v.heldIn_apply _⟩
  · rintro k l rfl
    have hlimits : (completeStore ⟨p, .limit k l⟩ s).config.limits = s.config.limits.set k l := by
      rw [State.config, hstore]; simp [commitItem, applyLimit]
    rw [hlim, hlimits]
    refine ⟨PerFour.get_set_same _ _ _, ?_, ?_, fun j hj => ⟨?_, PerFour.get_set_other _ _ hj⟩⟩
    · simp [commitItem, applyLimit, refreshShed]
    · simp [commitItem, applyLimit, refreshShed]
    · simp [commitItem, applyLimit, refreshShed, PerFour.get_set_other _ _ hj]
  · rintro l rfl
    exact ⟨by rw [hstore]; rfl, completeStore_due _ _, by rw [hclock]; rfl⟩
  · rintro n rfl
    exact ⟨completeStore_due _ _, by rw [hclock]; rfl⟩
  · rintro n rfl
    rw [hclock, hstore]; rfl
  · rintro m rfl
    rw [State.config, hstore]
    simp only [commitItem, commitLockMode]
    split_ifs with hpermanent
    · exact hpermanent
    · rfl
  · rintro c rfl
    have hchannels : (completeStore ⟨p, .calibrationLock c⟩ s).config.channels
        = s.config.channels.set c { s.config.channels.get c with calLock := true } := by
      rw [State.config, hstore]; rfl
    rw [hchannels, hchans]
    exact ⟨congrArg ChannelConfig.calLock (PerFour.get_set_same _ _ _), fun d hd => PerFour.get_set_other _ _ hd, rfl⟩
  · intro h
    have hsame : changesStore item s = false := Bool.eq_false_iff.mpr (mt hchanged.mp h)
    rw [completeStore_log, if_neg (by rw [hsame]; decide), commitItem_log_of_same hsame]
  · intro h hfree
    obtain ⟨q, r, hlast⟩ := completeStore_marks (w := ⟨p, item⟩) (hchanged.mpr h) hfree
    exact ⟨q, r, by rw [hlast, hgroup]⟩

end Sys2Proof.Machine
end

section
/-! PROOFS. The effects of each kind of store completion (R13, R15, R24, R28, R65, R80, R132, R168). -/

namespace Sys2Proof.Machine

open Sys2Proof

/-! ## A completion that closes the sub-interval -/

/-- A close with a list of flags, filed, handed on and logged, the CONFIG marker of a group after its DATA record, and
the ring emptied or not. -/
def State.ClosedFor (s t : State) (cause : List StatusFlag) (emptied : Bool) (group : LogWord) : Prop :=
  ∃ r dem, s.ClosesInto t s.chans s.clock.now cause r t.tot dem
    ∧ t.dem = (if emptied then { dem with ring := [] } else dem)
    ∧ t.log = (s.closeLogged t s.log r).logged
        { kind := .config, rate := t.sub.rate, status := 0, stamp := s.clock.now, payload := [group] }
    ∧ ∀ d, t.chans.get d = { s.chans.get d with part := .all 0 }

/-- What a completion has done after a close `c`: the value written, the nominal end by it, the ring emptied or not, and
the marker. -/
structure State.Completes (c t : State) (emptied : Bool) (group : LogWord) : Prop where
  sub : t.sub = { c.sub with nominalEnd := nominalEndOf t.config c.clock.now }
  clock : t.clock = c.clock
  active : t.store.active = c.store.active
  pendSched : t.store.pendSched = c.store.pendSched
  weekdayOffset : t.config.weekdayOffset = c.config.weekdayOffset
  chans : t.chans = c.chans
  lim : t.lim = c.lim
  tot : t.tot = c.tot
  dem : t.dem = if emptied then { c.dem with ring := [] } else c.dem
  log : t.log = c.log.logged
    { kind := .config, rate := c.sub.rate, status := 0, stamp := c.clock.now, payload := [group] }

theorem closeNow_chans_get (cause : StatusSet) (u : State) (d : Fin 4) :
    (closeNow cause u).chans.get d = { u.chans.get d with part := .all 0 } := by
  rw [closeNow_chans, PerFour.get_map]

/-- A close of a state billed alike, completed, is the close of the state before. -/
theorem State.Completes.closedFor {s u t : State} {cause : StatusSet} {flags flags' : List StatusFlag} {emptied : Bool}
    {group : LogWord} (h : (closeNow cause u).Completes t emptied group) (hb : s.SameBill u) (hnow : u.clock.now = s.clock.now)
    (hlog : u.log = s.log) (hmask : u.config.logMask = s.config.logMask) (hcause : ∀ f, cause.has f = true ↔ f ∈ flags')
    (hflags : ∀ f, (u.sub.status.has f = true ∨ f ∈ flags') ↔ (s.sub.status.has f = true ∨ f ∈ flags)) :
    s.ClosedFor t flags emptied group := by
  have hcnow : (closeNow cause u).clock.now = s.clock.now := (closeNow_clock_now _ _).trans hnow
  have hcloses := (closeWith_closesInto clockOnly_id cause u.clock.now u.clock.now u hcause (closeNow_clock_now _ _)).of_sameBill hb hflags
  have hlogged : (closeNow cause u).log = s.closeLogged (closeNow cause u) s.log (closingRecord cause u.clock.now u) := by
    rw [← hlog, closeNow, closeWith_closeLogged clockOnly_id]
    exact State.closeLogged_congr hmask (by rw [hlog]) hb.pendSched _ _ _
  refine ⟨closingRecord cause u.clock.now u, (closeNow cause u).dem, ?_, h.dem, ?_, fun d => ?_⟩
  · rw [h.tot, ← hb.chans, ← hnow]
    exact hcloses.later h.sub (congrArg Clock.now h.clock) (congrArg Clock.timeValid h.clock) h.active h.pendSched
      h.weekdayOffset (fun d => by rw [h.chans]; rfl) (congrArg Monitor.projection h.lim)
  · have hrate : t.sub.rate = (closeNow cause u).sub.rate := by rw [h.sub]
    rw [h.log, hrate, hcnow, hlogged]
    exact congrArg (fun l : ProfileLog => l.logged _) (closeLogged_of_rate _ _ (congrArg Clock.now h.clock) hrate).symm
  · rw [h.chans, closeNow_chans_get, hb.chans]

theorem State.sameBill_refl (s : State) : s.SameBill s := ⟨⟨rfl, rfl, rfl, rfl, rfl, rfl, rfl, rfl, rfl, fun _ => rfl, fun _ => rfl, rfl, rfl⟩, rfl, rfl⟩

/-- A completion after what its commit has left (R168). -/
theorem completes_of_commit {s c : State} {p : Port} {i : StoreItem} {emptied : Bool} (hchanges : changesStore i s = true)
    (hsub : (commitItem i s).sub = { c.sub with nominalEnd := nominalEndOf (commitItem i s).config c.clock.now })
    (hclock : (commitItem i s).clock = c.clock) (hactive : (commitItem i s).store.active = c.store.active)
    (hsched : (commitItem i s).store.pendSched = c.store.pendSched)
    (hoffset : (commitItem i s).config.weekdayOffset = c.config.weekdayOffset) (hchans : (commitItem i s).chans = c.chans)
    (hlim : (commitItem i s).lim = c.lim) (htot : (commitItem i s).tot = c.tot)
    (hdem : (commitItem i s).dem = if emptied then { c.dem with ring := [] } else c.dem)
    (hlog : (commitItem i s).log = c.log) : c.Completes (completeStore ⟨p, i⟩ s) emptied (BitVec.ofNat 32 i.group) := by
  obtain ⟨hkclock, hksub, hkchans, hktot, hkdem, hklim⟩ := completeStore_keeps ⟨p, i⟩ s
  have hstore := completeStore_store ⟨p, i⟩ s
  have hconfig : (completeStore ⟨p, i⟩ s).config = (commitItem i s).config :=
    (congrArg Store.config hstore :)
  refine ⟨by rw [hksub, hconfig, hsub], hkclock.trans hclock, (congrArg Store.active hstore :).trans hactive,
    (congrArg Store.pendSched hstore :).trans hsched, by rw [hconfig, hoffset], hkchans.trans hchans, hklim.trans hlim,
    hktot.trans htot, hkdem.trans hdem, ?_⟩
  have hrate : (commitItem i s).sub.rate = c.sub.rate := by rw [hsub]
  rw [completeStore_log, if_pos hchanges]
  show (commitItem i s).log.logged ⟨.config, (commitItem i s).sub.rate, 0, (commitItem i s).clock.now, _⟩ = _
  rw [hlog, hrate, hclock]

/-! ## The settings, one by one -/

/-- The flags of a sync expiry, as R27 lists them. -/
def lateFlags (g : Nat) : List StatusFlag := .noSync :: (if 0 < g then [.long] else [])

theorem expiryStatus_late (cfg : Config) (f : StatusFlag) : (expiryStatus cfg).has f = true ↔ f ∈ lateFlags cfg.grace := by
  rw [expiryStatus_has, lateFlags]
  split_ifs <;> rfl

theorem changesStore_of_ne {v : Setting} {s : State} (h : v.apply s.config ≠ s.config) : changesStore (.setting v) s = true :=
  decide_eq_true h

theorem takeExpiry_of_due {u : State} (hmode : u.config.syncMode = .external)
    (hdue : u.config.subLen + u.config.grace ≤ u.sub.elapsed) : takeExpiry u = closeNow (expiryStatus u.config) u := by
  rw [takeExpiry, if_pos]
  · rfl
  · simp [State.expiryDue, hmode, hdue]

theorem takeExpiry_of_not_due {u : State}
    (h : u.config.syncMode = .internal ∨ u.sub.elapsed < u.config.subLen + u.config.grace) : takeExpiry u = u := by
  rw [takeExpiry, if_neg]
  simp only [State.expiryDue, Bool.and_eq_true, beq_iff_eq, decide_eq_true_eq, not_and, Nat.not_le]
  rintro hmode
  exact h.elim (fun h => SyncMode.noConfusion (h.symm.trans hmode)) id

/-- A forced close leaves the nominal end of its start by every configuration with that S and sync mode (R22). -/
theorem forceClose_sub (f : StatusFlag) (s : State) {cfg : Config} (hmode : cfg.syncMode = s.config.syncMode)
    (hlen : cfg.subLen = s.config.subLen) : (forceClose f s).sub
      = { (forceClose f s).sub with nominalEnd := nominalEndOf cfg (forceClose f s).clock.now } := by
  have hend : (forceClose f s).sub.nominalEnd = nominalEndOf cfg (forceClose f s).clock.now := by
    rw [forceClose_clock_now, forceClose, closeNow, closeWith_nominalEnd clockOnly_id]
    simp [nominalEndOf, hmode, hlen]
  rw [← hend]

/-- A change of S closes under the old S, empties the ring, and gives the next sub-interval its end by the new S (R24). -/
theorem subLen_closedFor {s : State} {n : Nat} (p : Port) (hne : (Setting.subLen n).apply s.config ≠ s.config) :
    s.ClosedFor (completeStore ⟨p, .setting (.subLen n)⟩ s) (.config :: s.lengthFlags s.sub.elapsed) true 2 := by
  have hm : commitItem (.setting (.subLen n)) s = changeSubLen (.subLen n) s := if_neg hne
  have hnow : (forceClose .config s).clock.now = (forceClose .config s).sub.start :=
    ((closeWith_start ..).trans (closeNow_clock_now _ s).symm).symm
  refine State.Completes.closedFor (cause := StatusSet.single .config ||| lengthStatus s.config s.sub.elapsed) (u := s)
    (completes_of_commit (changesStore_of_ne hne) ?_ ?_ ?_ ?_ ?_ ?_ ?_ ?_ ?_ ?_) s.sameBill_refl rfl rfl rfl
    (forcedStatus_has s .config) fun _ => Iff.rfl
  all_goals rw [hm]
  · exact congrArg (fun x => { (forceClose .config s).sub with nominalEnd := nominalEndOf (changeSubLen (.subLen n) s).config x })
      hnow.symm
  all_goals rfl

/-- A change of N closes under the old N and empties the ring (R65, R80). -/
theorem windowLen_closedFor {s : State} {n : Nat} (p : Port) (hne : (Setting.windowLen n).apply s.config ≠ s.config) :
    s.ClosedFor (completeStore ⟨p, .setting (.windowLen n)⟩ s) (.config :: s.lengthFlags s.sub.elapsed) true 5 := by
  have hm : commitItem (.setting (.windowLen n)) s = changeWindowLen (.windowLen n) s := if_neg hne
  refine State.Completes.closedFor (cause := StatusSet.single .config ||| lengthStatus s.config s.sub.elapsed) (u := s)
    (completes_of_commit (changesStore_of_ne hne) ?_ ?_ ?_ ?_ ?_ ?_ ?_ ?_ ?_ ?_) s.sameBill_refl rfl rfl rfl
    (forcedStatus_has s .config) fun _ => Iff.rfl
  all_goals rw [hm]
  · have hconfig : (forceClose .config s).config = s.config := closeWith_config clockOnly_id ..
    exact forceClose_sub .config s (congrArg Config.syncMode hconfig :) (congrArg Config.subLen hconfig :)
  all_goals rfl

/-- A change of a weight closes under the old weight (R15, R46). -/
theorem channelWeight_closedFor {s : State} {c : Fin 4} {w : Weight} (p : Port)
    (hne : (Setting.channelWeight c w).apply s.config ≠ s.config) :
    s.ClosedFor (completeStore ⟨p, .setting (.channelWeight c w)⟩ s) (.config :: s.lengthFlags s.sub.elapsed) false 1 := by
  have hm : commitItem (.setting (.channelWeight c w)) s = writeSetting (.channelWeight c w) (forceClose .config s) := if_neg hne
  refine State.Completes.closedFor (cause := StatusSet.single .config ||| lengthStatus s.config s.sub.elapsed) (u := s)
    (completes_of_commit (changesStore_of_ne hne) ?_ ?_ ?_ ?_ ?_ ?_ ?_ ?_ ?_ ?_) s.sameBill_refl rfl rfl rfl
    (forcedStatus_has s .config) fun _ => Iff.rfl
  all_goals rw [hm]
  · have hconfig : (forceClose .config s).config = s.config := closeWith_config clockOnly_id ..
    exact forceClose_sub .config s (congrArg Config.syncMode hconfig :) (congrArg Config.subLen hconfig :)
  all_goals rfl

/-- A close at a late expiry, made by the commit itself: nothing of the configuration changes after it (R27, R28). -/
theorem late_closedFor {s u : State} {v : Setting} {flags : List StatusFlag} (p : Port) (hne : v.apply s.config ≠ s.config)
    (hm : commitSetting v s = closeNow (expiryStatus u.config) u) (hb : s.SameBill u) (hnow : u.clock.now = s.clock.now)
    (hlog : u.log = s.log) (hmask : u.config.logMask = s.config.logMask)
    (hflags : ∀ f, (u.sub.status.has f = true ∨ f ∈ lateFlags u.config.grace) ↔ (s.sub.status.has f = true ∨ f ∈ flags)) :
    s.ClosedFor (completeStore ⟨p, .setting v⟩ s) flags false (BitVec.ofNat 32 v.group) := by
  have hm' : commitItem (.setting v) s = closeNow (expiryStatus u.config) u := hm
  refine State.Completes.closedFor (cause := expiryStatus u.config) (u := u)
    (completes_of_commit (changesStore_of_ne hne) ?_ ?_ ?_ ?_ ?_ ?_ ?_ ?_ ?_ ?_) hb hnow hlog hmask
    (expiryStatus_late u.config) hflags
  all_goals rw [hm']
  · have hconfig : (closeNow (expiryStatus u.config) u).config = u.config := closeWith_config clockOnly_id ..
    have hend : (closeNow (expiryStatus u.config) u).sub.nominalEnd
        = nominalEndOf (closeNow (expiryStatus u.config) u).config (closeNow (expiryStatus u.config) u).clock.now := by
      rw [hconfig, closeNow_clock_now, closeNow, closeWith_nominalEnd clockOnly_id]
    rw [← hend]
  all_goals rfl

/-! ## A completion that closes nothing -/

/-- What a completion leaves of a state that its item's commit has left, in the blocks a commit reaches. -/
structure State.LeftBy (t m : State) : Prop where
  clock : t.clock = m.clock
  sub : t.sub = m.sub
  chans : t.chans = m.chans
  tot : t.tot = m.tot
  dem : t.dem = m.dem
  lim : t.lim = m.lim
  store : t.store = { m.store with writing := none }

theorem completeStore_leftBy {i : StoreItem} {s m : State} (p : Port) (hm : commitItem i s = m) :
    (completeStore ⟨p, i⟩ s).LeftBy m := by
  subst hm
  obtain ⟨hclock, hsub, hchans, htot, hdem, hlim⟩ := completeStore_keeps ⟨p, i⟩ s
  exact ⟨hclock, hsub, hchans, htot, hdem, hlim, completeStore_store ⟨p, i⟩ s⟩

theorem marked_config (s : State) (f : StatusFlag) :
    (s.sub.status.mark .config).has f = true ↔ s.sub.status.has f = true ∨ f = .config := by
  simp [StatusSet.has_mark, or_comm]

/-- A change of K or SS clears the channel's residues, with CONFIG (R13). -/
theorem residues_cleared {s t : State} {v : Setting} {c : Fin 4}
    (h : t.LeftBy (clearResidues c ((writeSetting v s).markSub .config))) :
    t.chans = s.chans.set c { s.chans.get c with residue := .all 0 } ∧ t.tot = s.tot ∧ t.dem = s.dem
      ∧ t.sub = { s.sub with status := t.sub.status }
      ∧ ∀ f, t.sub.status.has f = true ↔ s.sub.status.has f = true ∨ f = .config :=
  ⟨h.chans, h.tot, h.dem, by rw [h.sub]; rfl, fun f => by rw [h.sub]; exact marked_config s f⟩

/-- The state of a completion to EXTERNAL mode before its expiry is judged (R28). -/
def toExternal (s : State) : State :=
  ((writeSetting (.syncMode .external) s).markSub .config).setSub
    { s.sub with status := s.sub.status.mark .config, nominalEnd := s.sub.start.later s.config.subLen }

theorem marked_or_late (s : State) (g : Nat) (f : StatusFlag) :
    ((s.sub.status.mark .config).has f = true ∨ f ∈ lateFlags g) ↔ (s.sub.status.has f = true ∨ f ∈ .config :: lateFlags g) := by
  rw [marked_config, List.mem_cons, or_assoc]

/-- Settles O34: the closes by `closedFor`, and all else by what its commit leaves. -/
theorem storeCompletionEffects : Obligations.StoreCompletionEffects := by
  unfold Obligations.StoreCompletionEffects
  refine ⟨fun p v s hmain hw => ?_, fun p item s hmain hw hitem => ?_⟩
  · refine ⟨completeStore ⟨p, .setting v⟩ s, exec_storeCompletion hmain hw, completeStore_per .., completeStore_sup ..,
      completeStore_pins .., fun hsame => ?_, ?_⟩
    · obtain ⟨clock, hm⟩ := commitSetting_same hsame
      have h := completeStore_leftBy (i := .setting v) p hm
      exact ⟨h.tot, h.dem, h.chans, h.sub⟩
    · intro hne closed
      refine ⟨?_, ?_, ?_, ?_, ?_, ?_⟩
      · rintro n rfl; exact subLen_closedFor p hne
      · rintro n rfl; exact windowLen_closedFor p hne
      · rintro c x rfl; exact channelWeight_closedFor p hne
      · rintro c (⟨x, rfl⟩ | ⟨x, rfl⟩)
        · exact residues_cleared (completeStore_leftBy p (if_neg hne))
        · exact residues_cleared (completeStore_leftBy p (if_neg hne))
      · rintro c on rfl
        have hm : commitItem (.setting (.channelEnable c on)) s = changeEnable (.channelEnable c on) c on s := if_neg hne
        have h := completeStore_leftBy p hm
        exact ⟨h.chans, h.tot, h.dem, fun f => by rw [h.sub]; exact marked_config s f⟩
      · intro kept marked late
        have hsubs : ∀ {m : State}, (completeStore ⟨p, .setting v⟩ s).LeftBy m → m.tot = s.tot → m.dem = s.dem → m.chans = s.chans →
            kept := fun h htot hdem hchans => ⟨h.tot.trans htot, h.dem.trans hdem, h.chans.trans hchans⟩
        have hmarks : ∀ {m : State}, (completeStore ⟨p, .setting v⟩ s).LeftBy m →
            m.sub.status = s.sub.status.mark .config → marked :=
          fun h hstatus f => by rw [h.sub, hstatus]; exact marked_config s f
        have hself : (completeStore ⟨p, .setting v⟩ s).LeftBy (commitSetting v s) := completeStore_leftBy p rfl
        cases v with
        | subLen _ => trivial
        | windowLen _ => trivial
        | channelWeight _ _ => trivial
        | channelK _ _ => trivial
        | channelSS _ _ => trivial
        | channelEnable _ _ => trivial
        | weekdayOffset n =>
          exact ⟨hsubs hself rfl rfl rfl, hself.sub, hself.clock⟩
        | closeSecond n =>
          exact ⟨hsubs hself rfl rfl rfl, hself.sub, completeStore_due _ _, hself.clock⟩
        | polarity x =>
          have hm : commitItem (.setting (.polarity x)) s = (writeSetting (.polarity x) s).markSub .config := if_neg hne
          have h := completeStore_leftBy p hm
          exact ⟨hsubs h rfl rfl rfl, hmarks h rfl, by rw [h.sub]; rfl, h.clock⟩
        | reactive x =>
          have hm : commitItem (.setting (.reactive x)) s = (writeSetting (.reactive x) s).markSub .config := if_neg hne
          have h := completeStore_leftBy p hm
          exact ⟨hsubs h rfl rfl rfl, hmarks h rfl, by rw [h.sub]; rfl, h.clock⟩
        | syncMode m =>
          cases m with
          | internal =>
            have hm : commitItem (.setting (.syncMode .internal)) s = changeSyncMode (.syncMode .internal) .internal s := if_neg hne
            have h := completeStore_leftBy p hm
            have hconfig : (completeStore ⟨p, .setting (.syncMode .internal)⟩ s).config
                = (changeSyncMode (.syncMode .internal) .internal s).config := (congrArg Store.config h.store :)
            exact ⟨hsubs h rfl rfl rfl, hmarks h rfl, h.clock, by rw [h.sub, hconfig]; rfl⟩
          | external =>
            have hexpiry : commitSetting (.syncMode .external) s = takeExpiry (toExternal s) := if_neg hne
            refine ⟨fun hearly => ?_, fun hdue => ?_⟩
            · have h := hself
              rw [hexpiry, takeExpiry_of_not_due (u := toExternal s) (.inr hearly)] at h
              exact ⟨hsubs h rfl rfl rfl, hmarks h rfl, by rw [h.sub]; rfl⟩
            · exact late_closedFor p hne (hexpiry.trans (takeExpiry_of_due (u := toExternal s) rfl hdue))
                ⟨⟨rfl, rfl, rfl, rfl, rfl, rfl, rfl, rfl, rfl, fun _ => rfl, fun _ => rfl, rfl, rfl⟩, rfl, rfl⟩ rfl rfl rfl (marked_or_late s _)
        | grace g =>
          have hexpiry : commitSetting (.grace g) s = takeExpiry (writeSetting (.grace g) s) := if_neg hne
          refine ⟨fun hearly => ?_, fun hmode hdue => ?_⟩
          · have h := hself
            rw [hexpiry, takeExpiry_of_not_due (u := writeSetting (.grace g) s) hearly] at h
            exact ⟨hsubs h rfl rfl rfl, h.sub, h.clock⟩
          · exact late_closedFor p hne (hexpiry.trans (takeExpiry_of_due (u := writeSetting (.grace g) s) hmode hdue))
              ⟨⟨rfl, rfl, rfl, rfl, rfl, rfl, rfl, rfl, rfl, fun _ => rfl, fun _ => rfl, rfl, rfl⟩, rfl, rfl⟩ rfl rfl rfl fun _ => Iff.rfl
        | _ => exact ⟨hsubs hself rfl rfl rfl, hself.sub, hself.clock⟩
  · have h := completeStore_leftBy (i := item) (s := s) p rfl
    refine ⟨completeStore ⟨p, item⟩ s, exec_storeCompletion hmain hw, ?_⟩
    rw [h.tot, h.dem, h.chans, h.sub, h.clock, h.lim, completeStore_per, completeStore_sup, completeStore_pins, completeStore_due]
    cases item with
    | setting v => exact absurd rfl (hitem v)
    | limit k l => exact ⟨rfl, rfl, rfl, rfl, rfl, rfl, rfl, rfl, rfl, rfl, rfl, h.store⟩
    | closeDates l => exact ⟨rfl, rfl, rfl, rfl, rfl, rfl, rfl, rfl, rfl, rfl, h.store⟩
    | calibrationLock c => exact ⟨rfl, rfl, rfl, rfl, rfl, rfl, rfl, rfl, rfl, rfl, rfl, h.store⟩
    | lockMode m =>
      have hm : ∃ x, commitItem (.lockMode m) s = s.setConfig { s.config with lockMode := x } := by
        show ∃ x, commitLockMode m s = _
        unfold commitLockMode
        split_ifs
        · exact ⟨s.config.lockMode, rfl⟩
        · exact ⟨m, rfl⟩
      obtain ⟨x, hm⟩ := hm
      have hstore := h.store
      rw [hm] at hstore ⊢
      have hx : (completeStore ⟨p, .lockMode m⟩ s).config.lockMode = x :=
        (congrArg (fun st : Store => st.config.lockMode) hstore :)
      exact ⟨rfl, rfl, rfl, rfl, rfl, rfl, rfl, rfl, rfl, rfl, rfl, by rw [hx]; exact hstore⟩
    | switchQuad d i e =>
      exact ⟨rfl, rfl, rfl, rfl, rfl, rfl, rfl, rfl, rfl, rfl, rfl, by rw [h.store]; rfl⟩
    | holidayQuad i e =>
      exact ⟨rfl, rfl, rfl, rfl, rfl, rfl, rfl, rfl, rfl, rfl, rfl, by rw [h.store]; rfl⟩
    | weekTable w =>
      exact ⟨rfl, rfl, rfl, rfl, rfl, rfl, rfl, rfl, rfl, rfl, rfl, by rw [h.store]; rfl⟩

end Sys2Proof.Machine
end

section
/-! PROOFS. The Restart (R172, R190), and the flags and the log that starts share with it. -/

namespace Sys2Proof.Machine

open Sys2Proof

/-! ## The flags a close raises (R39, R49, R52) -/

section
variable {between : State → State} (h : ClockOnly between) (cause : StatusSet) (stop start : Instant) (s : State) (p : Port)
include h

/-- The flags after any close, but for those of the windows, the log, the schedule and the registers. -/
theorem closeWith_has {g : AttnFlag} (hg : g ∉ [.newMaxKW, .newMaxKVA, .logOverrun, .scheduleSwitched, .regRollover]) :
    ((closeWith cause stop between start s).port p).attn.has g = ((s.port p).attn.has g || decide (g = .subintEnd)
      || ((closeWith cause stop between start s).sub.rate != s.sub.rate && decide (g = .rateChange))) := by
  simp only [List.mem_cons, List.not_mem_nil, or_false, not_or] at hg
  obtain ⟨hw, hva, hlog, hswitch, hroll⟩ := hg
  rw [closeWith, handOn_has _ _ _ p hw hva hlog, openNext_has _ _ p hswitch, handOn_sub, h.port, h.sub, takeClose_has, takeClose_sub]
  simp [hroll]

/-- A flag that a close may raise is one of seven. -/
theorem closeWith_raises {g : AttnFlag} (hold : (s.port p).attn.has g = false)
    (hnew : ((closeWith cause stop between start s).port p).attn.has g = true) :
    g ∈ [.subintEnd, .rateChange, .newMaxKW, .newMaxKVA, .regRollover, .scheduleSwitched, .logOverrun] := by
  by_cases hg : g ∈ [.newMaxKW, .newMaxKVA, .logOverrun, .scheduleSwitched, .regRollover]
  · simp only [List.mem_cons, List.not_mem_nil, or_false] at hg ⊢
    tauto
  · rw [closeWith_has h cause stop start s p hg, hold] at hnew
    simp only [Bool.false_or, Bool.or_eq_true, Bool.and_eq_true, decide_eq_true_eq] at hnew
    obtain rfl | ⟨-, rfl⟩ := hnew
    · simp
    · simp

end

/-- An activation at a start raises SCHEDULE_SWITCHED exactly where one is due (R39). -/
theorem activateAtStart_has_switched (s : State) (p : Port) : ((activateAtStart s).port p).attn.has .scheduleSwitched
    = ((s.port p).attn.has .scheduleSwitched || s.activationAtStart.isSome) := by
  unfold activateAtStart
  split_ifs with hdue
  · simp [activateSchedule, refreshDayType, State.raise_has, hdue]
  · simp [hdue]

/-- An activation is due at a start exactly where the start changes the pending state (R39). -/
theorem activationAtStart_isSome_iff (s : State) :
    s.activationAtStart.isSome = true ↔ (activateAtStart s).store.pendSched ≠ s.store.pendSched := by
  unfold activateAtStart
  split_ifs with hdue
  · refine ⟨fun _ => ?_, fun _ => hdue⟩
    rw [activateSchedule_pendSched]
    unfold State.activationAtStart at hdue
    intro hnone
    simp [← hnone] at hdue
  · simp [hdue]

/-- A close raises SCHEDULE_SWITCHED exactly where its opening activates a schedule (R39, R52). -/
theorem closeWith_has_switched (cause : StatusSet) (stop start : Instant) (s : State) (p : Port) :
    ((closeWith cause stop id start s).port p).attn.has .scheduleSwitched = true ↔ (s.port p).attn.has .scheduleSwitched = true
      ∨ (closeWith cause stop id start s).store.pendSched ≠ s.store.pendSched := by
  have hsched : (closeWith cause stop id start s).store = (activateAtStart (takeClose cause stop s)).store := closeWith_store ..
  have hdue := activationAtStart_isSome_iff (takeClose cause stop s)
  rw [hsched, closeWith, handOn_has _ _ _ p (by decide) (by decide) (by decide), openNext, State.raiseIf_has, placeSub,
    State.setSub_port, activateAtStart_has_switched, id_eq, takeClose_has]
  simp only [takeClose_store] at hdue
  simp [hdue]

/-! ## A clear that a start completes (R142, R143) -/

theorem writeRecord_logged {b : LogBody} {s : State} (hfree : s.log.clearBusy = false) : (writeRecord b s).log = s.log.logged b := by
  have hlog : logRecord b s = writeRecord b s := by simp [logRecord, hfree]
  rw [← hlog]
  exact logRecord_logged b s

/-- The log once a start has completed a clear in progress. -/
theorem finishClear_log (s : State) : (finishClear s).log = s.clearFinished := by
  unfold finishClear State.clearFinished
  split_ifs with hbusy
  · show (writeHeld s.log.slot (writeRecord _ _)).log = _
    have hmarked : (writeRecord (markerBody .cleared s.clock.now [] s)
        (s.setLog { s.log with records := [], clearBusy := false, slot := none })).log
        = ({ s.log with records := [], clearBusy := false, slot := none } : ProfileLog).logged
          { kind := .cleared, rate := s.sub.rate, status := 0, stamp := s.clock.now, payload := [] } :=
      writeRecord_logged rfl
    cases hslot : s.log.slot with
    | none => exact hmarked
    | some b =>
      have hfree : (writeRecord (markerBody .cleared s.clock.now [] s)
          (s.setLog { s.log with records := [], clearBusy := false, slot := none })).log.clearBusy = false := by
        rw [hmarked, ProfileLog.logged_clearBusy]
      exact (writeRecord_logged hfree).trans (by rw [hmarked])
  · rfl

theorem clearFinished_clearBusy (s : State) : s.clearFinished.clearBusy = false := by
  unfold State.clearFinished
  split_ifs with hbusy
  · cases s.log.slot with
    | none => exact ProfileLog.logged_clearBusy _ _
    | some b => exact (ProfileLog.logged_clearBusy _ _).trans (ProfileLog.logged_clearBusy _ _)
  · exact Bool.eq_false_iff.mpr hbusy

theorem clearFinished_carries (s : State) : s.clearFinished.carries = s.log.carries := by
  unfold State.clearFinished
  split_ifs with hbusy
  · cases s.log.slot with
    | none => exact ProfileLog.logged_carries _ _
    | some b => exact (ProfileLog.logged_carries _ _).trans (ProfileLog.logged_carries _ _)
  · rfl

/-- The writes of a clear completion raise no flag but LOG_OVERRUN (R135). -/
theorem writeRecord_has (b : LogBody) (s : State) (p : Port) {g : AttnFlag} (h : g ≠ .logOverrun) :
    ((writeRecord b s).port p).attn.has g = (s.port p).attn.has g := by
  cases p <;> exact PortState.afterWrite_has _ _ _ _ h

theorem writeHeld_has (s : State) (p : Port) {g : AttnFlag} (h : g ≠ .logOverrun) :
    ((writeHeld s.log.slot s.clearedAndMarked).port p).attn.has g = (s.port p).attn.has g := by
  have hmarked : (s.clearedAndMarked.port p).attn.has g = (s.port p).attn.has g := by
    rw [State.clearedAndMarked, writeRecord_has _ _ _ h, State.setLog_port]
  cases s.log.slot with
  | none => exact hmarked
  | some b => exact (writeRecord_has b _ p h).trans hmarked

/-- A port at a clear completion keeps all but its cursor, a reply's placement and the log's flag. -/
theorem finishClear_port (s : State) (p : Port) :
    (s.port p).Kept { (finishClear s).port p with tx := (s.port p).tx, cursor := (s.port p).cursor }
      ∧ ((s.port p).tx = .idle → ((finishClear s).port p).tx = .idle)
      ∧ (s.log.clearBusy = false → ((finishClear s).port p).cursor = (s.port p).cursor)
      ∧ (s.log.clearBusy = true → ((finishClear s).port p).cursor.dir = .forward ∧ ((finishClear s).port p).cursor.window = none)
      ∧ ∀ f, f ≠ .logOverrun → ((finishClear s).port p).attn.has f = (s.port p).attn.has f := by
  unfold finishClear
  split_ifs with hbusy
  · have hkept := writeHeld_keepsPorts s p
    have hport : (completeClear s).port p = ((writeHeld s.log.slot s.clearedAndMarked).port p).afterClear s.log.nextSeq := by
      cases p <;> rfl
    have hflags : ∀ f, f ≠ .logOverrun → ((writeHeld s.log.slot s.clearedAndMarked).port p).attn.has f = (s.port p).attn.has f :=
      fun f hf => writeHeld_has s p hf
    rw [hport]
    refine ⟨⟨rfl, hkept.lastResult, hkept.lastCommand, hkept.latch, hkept.arm, hkept.pattern, hkept.dataOut, rfl, rfl, hkept.preview,
      hkept.previewRec, hkept.mask, hkept.enable⟩, fun hidle => ?_, fun hfree => absurd (hbusy.symm.trans hfree) (by decide),
      fun _ => ⟨rfl, rfl⟩, hflags⟩
    show Transaction.afterClear _ = _
    rw [hkept.tx, hidle]
    rfl
  · exact ⟨.refl _, id, fun _ => rfl, fun h => absurd h hbusy, fun _ _ => rfl⟩

/-! ## The Restart (R190) -/

theorem started_has_none (f : AttnFlag) : (AttentionUnit.started false).has f = false := by
  simp [AttentionUnit.started, AttentionUnit.has]

/-- The state of a Restart when its close is made (R190). -/
def State.restarting (s : State) : State := monitorStarted (restartPorts (finishClear s))

theorem restarted_eq (s : State) : restarted s = restartTail (forceClose .restart s.restarting) := rfl

theorem restarting_sameBill (s : State) : s.SameBill s.restarting := by
  refine ⟨⟨?_, ?_, ?_, ?_, ?_, ?_, ?_, ?_, ?_, ?_, ?_, ?_, ?_⟩, ?_, ?_⟩ <;> simp [State.restarting, State.config]

/-- The ports of a Restart when its close is made: the values of a start, and no flag pending (R174, R190). -/
theorem restarting_port (s : State) (p : Port) : s.restarting.port p
    = { ((finishClear s).port p).started false with lastCommand := if p = .utility then 0x48 else 0 } := by
  cases p <;> rfl

/-- The ports after the end of a Restart: both cursors on the marker, and no flag more than the log's (R190). -/
theorem restartTail_port (c : State) (p : Port) :
    (c.port p).Kept { (restartTail c).port p with cursor := (c.port p).cursor }
      ∧ ((restartTail c).port p).cursor = ⟨c.log.nextSeq, .atRecord, .forward, none⟩
      ∧ ∀ f, f ≠ .logOverrun → ((restartTail c).port p).attn.has f = (c.port p).attn.has f := by
  set m := refreshDayType (channelsStarted (c.setDue { c.due with stall := .all false })) with hm
  have hmport : ∀ p, m.port p = c.port p := fun p => by
    rw [hm, refreshDayType, channelsStarted, State.setClock_port, State.setChans_port, State.setDue_port]
  have hkept := (((State.KeepsPorts.refl c).of_eq hmport).logRecord (markerBody .restart m.clock.now [] m)) p
  have hnext : m.log.nextSeq = c.log.nextSeq := by simp [hm]
  have hport : (restartTail c).port p = { (logRecord (markerBody .restart m.clock.now [] m) m).port p with
      cursor := ⟨m.log.nextSeq, .atRecord, .forward, none⟩ } := by cases p <;> rfl
  rw [hport, hnext]
  refine ⟨⟨hkept.tx, hkept.lastResult, hkept.lastCommand, hkept.latch, hkept.arm, hkept.pattern, hkept.dataOut, rfl, rfl,
    hkept.preview, hkept.previewRec, hkept.mask, hkept.enable⟩, rfl, fun f hf => ?_⟩
  rw [← hmport]
  exact logRecord_has _ m p hf

/-- The log of a Restart: that of its close, and then the RESTART marker (R190). -/
theorem restartTail_log (c : State) : (restartTail c).log = c.log.logged
    { kind := .restart, rate := c.sub.rate, status := 0, stamp := c.clock.now, payload := [] } :=
  (logMarker_logged .restart [] (refreshDayType (channelsStarted (c.setDue { c.due with stall := .all false })))).trans (by
    simp [markerBody])

theorem closeLogged_clearBusy (s t : State) (l : ProfileLog) (r : SubRecord) :
    (s.closeLogged t l r).clearBusy = l.clearBusy := by
  unfold State.closeLogged
  cases s.store.pendSched with
  | none => exact ProfileLog.logged_clearBusy _ _
  | loading _ => exact ProfileLog.logged_clearBusy _ _
  | armed _ day =>
    dsimp only
    split_ifs
    · exact (ProfileLog.logged_clearBusy _ _).trans (ProfileLog.logged_clearBusy _ _)
    · exact ProfileLog.logged_clearBusy _ _

/-- A close at the present instant changes nothing of the time but the day type (R52). -/
theorem closeNow_clock_keeps (cause : StatusSet) (s : State) :
    (closeNow cause s).clock = { s.clock with dayType := (closeNow cause s).clock.dayType } := by
  conv_lhs => rw [closeNow, closeWith_clock_keeps]
  simp [closeNow]

/-- The ports of a Restart at its end (R174, R190). -/
theorem restarted_port (s : State) (p : Port) :
    let x := (restarted s).port p
    x.tx = .idle ∧ x.lastResult = .ok ∧ x.lastCommand = (if p = .utility then 0x48 else 0) ∧ x.latch = false ∧ x.arm = false
      ∧ x.pattern = 0 ∧ x.preview = none ∧ x.previewRec = (s.port p).previewRec ∧ x.attn.mask = 0x3FFF ∧ x.attn.enable = false := by
  obtain ⟨hend, -, -⟩ := restartTail_port (forceClose .restart s.restarting) p
  have hclose : (s.restarting.port p).Kept ((forceClose .restart s.restarting).port p) :=
    closeWith_keepsPorts clockOnly_id _ _ _ _ p
  have hkept := hclose.trans hend
  have hport := restarting_port s p
  have hrec := (finishClear_port s p).1.previewRec
  rw [hport] at hkept
  exact ⟨hkept.tx, hkept.lastResult, hkept.lastCommand, hkept.latch, hkept.arm, hkept.pattern, hkept.preview,
    hkept.previewRec.trans hrec, hkept.mask, hkept.enable⟩

/-- The flags of a Restart at its end: those of its close, and LOG_OVERRUN (R182, R190). -/
theorem restarted_flags (s : State) (p : Port) (f : AttnFlag) (hf : ((restarted s).port p).attn.has f = true) :
    f ∈ [.subintEnd, .rateChange, .newMaxKW, .newMaxKVA, .regRollover, .scheduleSwitched, .logOverrun] := by
  by_cases hlog : f = .logOverrun
  · simp [hlog]
  · obtain ⟨-, -, hflags⟩ := restartTail_port (forceClose .restart s.restarting) p
    refine closeWith_raises clockOnly_id _ _ _ s.restarting p ?_ ((hflags f hlog).symm.trans hf)
    rw [restarting_port]
    exact started_has_none f

/-- Settles O60: `restarted` is a forced close between `restarting` and `restartTail`. -/
theorem resetRestarts : Obligations.ResetRestarts := by
  unfold Obligations.ResetRestarts
  intro s hs
  have hexec : exec (.reset .utility .whole) s = .next ((ownReset .utility s).ended .utility 0x48) :=
    exec_operation_passed rfl rfl rfl rfl hs
  rw [hexec, ownReset]
  refine ⟨fun harm => ?_, fun harm hbusy => ?_, fun harm hidle hwriting => ?_⟩
  · rw [if_pos (by rw [State.port, harm]; rfl), refuse_ended]
  · rw [if_neg (by rw [State.port, harm]; decide)]
    by_cases hclose : s.per.close = .idle
    · rw [if_neg (by rw [s.closeIdle_iff.mpr hclose]; decide),
        if_pos (storeBusy_eq_true (hbusy.resolve_left (fun h => h hclose))), refuse_ended]
    · rw [if_pos (by rw [Bool.not_eq_true', Bool.eq_false_iff, Ne, State.closeIdle_iff]; exact hclose), refuse_ended]
  · rw [if_neg (by rw [State.port, harm]; decide), if_neg (by rw [s.closeIdle_iff.mpr hidle]; decide),
      if_neg (by rw [storeBusy_iff]; exact fun h => h hwriting), restarted_eq]
    set u := s.restarting with hu
    have hb : s.SameBill u := restarting_sameBill s
    have hunow : u.clock = s.clock := by simp [hu, State.restarting]
    have hulog : u.log = s.clearFinished := by simp [hu, State.restarting, finishClear_log]
    have huconfig : u.config = s.config := by simp [hu, State.restarting, State.config]
    have husub : u.sub = s.sub := by simp [hu, State.restarting]
    set cause := StatusSet.single .restart ||| lengthStatus u.config u.sub.elapsed with hcause
    have hforced : forceClose .restart u = closeNow cause u := rfl
    rw [hforced]
    set c := closeNow cause u with hc
    have hcnow : c.clock.now = s.clock.now := by rw [hc, closeNow_clock_now, hunow]
    have hcconfig : c.config = s.config := (closeWith_config clockOnly_id ..).trans huconfig
    have hcauses : ∀ f, cause.has f = true ↔ f ∈ .restart :: s.lengthFlags s.sub.elapsed := fun f => by
      rw [hcause, huconfig, husub]; exact forcedStatus_has s .restart f
    have hlogged : c.log = s.closeLogged c s.clearFinished (closingRecord cause u.clock.now u) := by
      rw [← hulog, hc, closeNow, closeWith_closeLogged clockOnly_id]
      exact State.closeLogged_congr (by rw [huconfig]) (by rw [hulog, clearFinished_carries]) hb.pendSched _ _ _
    have htail := restartTail_log c
    set t := restartTail c with ht
    have hclock : c.clock = { u.clock with dayType := c.clock.dayType } := closeNow_clock_keeps cause u
    have htclock : t.clock = { c.clock with dayType := t.clock.dayType } := by simp [ht, restartTail, refreshDayType]
    have htconfig : (t.finish .utility 0x48 .ok false false).config = s.config := by
      rw [State.finish_config, ht, State.config, restartTail_store]; exact hcconfig
    have htchans : t.chans = c.chans.zipWith Channel.started c.config.channels := by
      simp [ht, restartTail, refreshDayType, channelsStarted, State.config]
    refine ⟨t.finish .utility 0x48 .ok false false, closingRecord cause u.clock.now u, rfl, ?_, ?_, ?_, ?_, ?_, ?_, ?_, ?_, ?_, ?_,
      ?_, ?_, ?_, ?_, ?_, ?_, rfl, ?_⟩
    · have hcloses := (closeWith_closesInto clockOnly_id cause u.clock.now u.clock.now u hcauses (closeNow_clock_now _ _)).of_sameBill hb
        (fun f => by rw [husub])
      have hdem : t.dem = c.dem := restartTail_dem c
      have htot : t.tot = c.tot := restartTail_tot c
      show s.ClosesInto _ s.chans s.clock.now _ _ t.tot t.dem
      rw [hdem, htot]
      rw [← congrArg Clock.now hunow, ← hb.chans]
      refine hcloses.later (t := c) ?_ (congrArg Clock.now htclock :) (congrArg Clock.timeValid htclock :)
        (congrArg Store.active (restartTail_store c)) (congrArg Store.pendSched (restartTail_store c)) ?_ (fun d => ?_)
        (congrArg Monitor.projection (restartTail_lim c))
      · have hend : c.sub.nominalEnd = nominalEndOf (t.finish .utility 0x48 .ok false false).config c.clock.now := by
          rw [htconfig, hc, closeNow_clock_now, closeNow, closeWith_nominalEnd clockOnly_id, huconfig]
        rw [State.finish_sub, ht, restartTail_sub, ← ht, ← hend]
      · rw [htconfig, hcconfig]
      · show (t.chans.get d).part = _
        rw [htchans, PerFour.get_zipWith]
        rfl
    · have hfiled := closeLogged_of_rate (s := s) s.clearFinished (closingRecord cause u.clock.now u)
        (u := t.finish .utility 0x48 .ok false false) (t := c) (congrArg Clock.now htclock :) (congrArg OpenSub.rate (restartTail_sub c))
      rw [hfiled, State.finish_log, htail, hlogged, hcnow, State.finish_sub, ht, restartTail_sub]
    · rw [State.finish_clock, htclock, hcnow]
    · rw [State.finish_clock, htclock, hclock, hunow]
    · rw [State.finish_clock, htclock, hclock, hunow]
    · simp [ht, hc, hu, State.restarting]
    · simp [ht, hc, hu, State.restarting, State.finish, State.finishAfter]
    · exact htconfig
    · simp [ht, hc, hu, State.restarting, State.finish, State.finishAfter]
    · simp [ht, hc, hu, State.restarting, State.finish, State.finishAfter, restartTail]
    · intro k
      show t.chans.get k = _
      rw [htchans, PerFour.get_zipWith, hcconfig, hc, closeNow_chans_get, hb.chans]
      rfl
    · intro k
      have hcompare := (closeWith_lim clockOnly_id cause u.clock.now u.clock.now u).2.1
      show t.lim.comparators.get k = _
      rw [ht, restartTail_lim, hc, closeNow, hcompare]
      simp [hu, State.restarting, monitorStarted, setProjection, State.config]
    · have hshed := (closeWith_lim clockOnly_id cause u.clock.now u.clock.now u).2.2
      show t.lim.shed = _
      rw [ht, restartTail_lim, hc, closeNow, hshed]
      simp [hu, State.restarting, monitorStarted, setProjection]
    · have hcbusy : c.log.clearBusy = false := by
        rw [hlogged, closeLogged_clearBusy, clearFinished_clearBusy]
      rw [State.finish_log, htail, ProfileLog.logged_clearBusy, hcbusy]
    · have hcbusy : c.log.clearBusy = false := by
        rw [hlogged, closeLogged_clearBusy, clearFinished_clearBusy]
      refine ⟨c.log.nextSeq, ?_, ?_, fun p => ?_⟩
      · rw [State.finish_log, htail, ProfileLog.logged_of_free hcbusy, State.finish_sub, ht, restartTail_sub, hcnow]
        simp
      · rw [State.finish_log, htail, ProfileLog.logged_of_free hcbusy]
      · have hcursor := (restartTail_port c p).2.1
        cases p
        · exact hcursor
        · exact hcursor
    · intro p
      obtain ⟨htx, hres, -, hlatch, harm', hpat, hprev, hrec, hmask, hen⟩ := restarted_port s p
      have hattn : ((t.finish .utility 0x48 .ok false false).port p).attn = ((restarted s).port p).attn := State.finish_attn ..
      rw [hattn]
      have hnone : ∀ f, (u.port p).attn.has f = false := fun f => by rw [hu, restarting_port]; exact started_has_none f
      have hflags : ∀ f, f ≠ .logOverrun → ((restarted s).port p).attn.has f = (c.port p).attn.has f :=
        fun f hf => (restartTail_port c p).2.2 f hf
      have hrate : (t.finish .utility 0x48 .ok false false).sub.rate = c.sub.rate := congrArg OpenSub.rate (restartTail_sub c)
      have hsched : (t.finish .utility 0x48 .ok false false).store.pendSched = c.store.pendSched :=
        congrArg Store.pendSched (restartTail_store c)
      refine ⟨?_, ?_, ?_, ?_, ?_, ?_, ?_, hmask, hen, restarted_flags s p, ?_, ?_, ?_⟩
      · cases p
        · rfl
        · exact htx
      · cases p
        · rfl
        · exact hres
      · cases p
        · rfl
        · exact hlatch
      · cases p
        · rfl
        · exact harm'
      · cases p
        · rfl
        · exact hpat
      · cases p
        · exact hprev
        · exact hprev
      · cases p
        · exact hrec
        · exact hrec
      · rw [hflags _ (by decide), hc, closeNow_has _ _ _ (by decide)]
        simp
      · rw [hflags _ (by decide), hrate, hc, closeNow_has _ _ _ (by decide), hnone, husub]
        simp
      · rw [hflags _ (by decide), hsched, hc, closeNow, closeWith_has_switched, hnone, hb.pendSched]
        simp
    · exact (restarted_port s .customer).2.2.1

end Sys2Proof.Machine
end

section
/-! PROOFS. The warm start (R188, R189). -/

namespace Sys2Proof.Machine

open Sys2Proof

/-! ## The blocks of a warm start, a clear completed (R142, R188) -/

/-- The state of a warm start when the interrupted sub-interval is judged. -/
def State.waking (s : State) (lv : PinLevels) : State := finishClear (warmBlocks lv s)

/-- The configuration of a warm start: POWER_LOCKED reverted (R165). -/
def Config.woken (c : Config) : Config :=
  { c with lockMode := if c.lockMode = .powerLocked then .guarded else c.lockMode }

section
variable (lv : PinLevels) (s : State)

theorem revertLock_store : (revertLock s).store = { s.store with config := s.config.woken } := by
  unfold revertLock Config.woken
  split_ifs <;> rfl

theorem waking_store : (s.waking lv).store = { s.store with writing := none, config := s.config.woken } := by
  rw [State.waking, finishClear_store, warmBlocks_store, revertLock_store]
  rfl

theorem waking_config : (s.waking lv).config = s.config.woken := congrArg Store.config (waking_store lv s)

theorem warmBlocks_clock : (warmBlocks lv s).clock = { s.clock with dayType := (warmBlocks lv s).clock.dayType } := by
  rw [warmBlocks_eq, refreshDayType_clock]
  simp [wakeUp, abandonWrite]

theorem waking_clock : (s.waking lv).clock = { s.clock with dayType := (s.waking lv).clock.dayType } := by
  rw [State.waking, finishClear_clock]
  exact warmBlocks_clock lv s

theorem waking_dayTyped : (s.waking lv).DayTyped :=
  (refreshDayType_dayTyped _).of_same (congrArg Clock.dayType (finishClear_clock (warmBlocks lv s)))
    (congrArg Clock.now (finishClear_clock (warmBlocks lv s))) (finishClear_store (warmBlocks lv s))

theorem waking_sub : (s.waking lv).sub = s.sub := by simp [State.waking, warmBlocks_eq, wakeUp, abandonWrite]
theorem waking_tot : (s.waking lv).tot = s.tot := by simp [State.waking, warmBlocks_eq, wakeUp, abandonWrite]
theorem waking_dem : (s.waking lv).dem = s.dem := by simp [State.waking, warmBlocks_eq, wakeUp, abandonWrite]
theorem waking_per : (s.waking lv).per = s.per.resumed := by simp [State.waking, warmBlocks_eq, wakeUp, abandonWrite]

theorem waking_sup : (s.waking lv).sup = { s.sup with mainSupply := true, hold := false, startCause := .warm } := by
  simp [State.waking, warmBlocks_eq, wakeUp, abandonWrite]

theorem waking_pins : (s.waking lv).pins = pinsOf lv := by simp [State.waking, warmBlocks_eq, wakeUp, abandonWrite]

theorem waking_log : (s.waking lv).log = s.clearFinished := by
  have hlog : (warmBlocks lv s).log = s.log := by simp [warmBlocks_eq, wakeUp, abandonWrite]
  have hsub : (warmBlocks lv s).sub = s.sub := by simp [warmBlocks_eq, wakeUp, abandonWrite]
  have hnow : (warmBlocks lv s).clock.now = s.clock.now := (congrArg Clock.now (warmBlocks_clock lv s) :)
  rw [State.waking, finishClear_log]
  unfold State.clearFinished
  rw [hlog, hsub, hnow]

theorem waking_chans (d : Fin 4) : (s.waking lv).chans.get d = { s.chans.get d with
    state := if (s.config.channels.get d).enabled then .waiting else .off, expected := none, timer := 0, residue := .all 0 } := by
  have hchans : (s.waking lv).chans = s.chans.zipWith Channel.started (revertLock (abandonWrite s)).config.channels := by
    simp [State.waking, warmBlocks_eq, wakeUp, abandonWrite, channelsStarted, State.config]
  have hconfig : (revertLock (abandonWrite s)).config.channels = s.config.channels := by
    rw [State.config, revertLock_store]; rfl
  rw [hchans, hconfig, PerFour.get_zipWith]
  rfl

theorem waking_lim : (∀ k, (s.waking lv).lim.comparators.get k
      = { state := if (s.config.limits.get k).enabled then .clear else .disabled, timer := 0 })
    ∧ (s.waking lv).lim.shed = .all false := by
  have hlimits : (revertLock (abandonWrite s)).config.limits = s.config.limits := by
    rw [State.config, revertLock_store]; rfl
  have hlim : (s.waking lv).lim.comparators = s.config.limits.map
        (fun l => { state := if l.enabled then .clear else .disabled, timer := 0 })
      ∧ (s.waking lv).lim.shed = .all false := by
    rw [← hlimits]
    simp [State.waking, warmBlocks_eq, wakeUp, monitorStarted, setProjection, State.config]
  exact ⟨fun k => by rw [hlim.1, PerFour.get_map], hlim.2⟩

/-- The sub-interval judged continues to be billed as it was (R189). -/
theorem waking_billedAlike : s.BilledAlike (s.waking lv) := by
  have hconfig := waking_config lv s
  have hstore := waking_store lv s
  exact ⟨by rw [waking_sub], by rw [waking_sub], by rw [hconfig]; rfl, by rw [hconfig]; rfl, by rw [hconfig]; rfl,
    by rw [hconfig]; rfl, by rw [hconfig]; rfl, by rw [hstore], by rw [hstore], fun d => by rw [waking_chans],
    fun d => by rw [waking_chans], waking_tot lv s, waking_dem lv s⟩

end

/-! ## The ports of a warm start (R174, R188) -/

theorem warmBlocks_port (lv : PinLevels) (s : State) (p : Port) : (warmBlocks lv s).port p = (s.port p).started false := by
  cases p <;> simp [warmBlocks_eq, wakeUp, abandonWrite, State.port]

/-- A port at a warm start: the values of a start, and no flag pending but that of the clear completed. -/
structure PortState.Awake (x : PortState) : Prop where
  tx : x.tx = .idle
  lastResult : x.lastResult = .ok
  lastCommand : x.lastCommand = 0
  latch : x.latch = false
  arm : x.arm = false
  pattern : x.pattern = 0
  preview : x.preview = none
  mask : x.attn.mask = 0x3FFF
  enable : x.attn.enable = false

theorem PortState.Awake.kept {x y : PortState} (h : x.Awake) (hk : x.Kept y) : y.Awake :=
  ⟨hk.tx.trans h.tx, hk.lastResult.trans h.lastResult, hk.lastCommand.trans h.lastCommand, hk.latch.trans h.latch,
    hk.arm.trans h.arm, hk.pattern.trans h.pattern, hk.preview.trans h.preview, hk.mask.trans h.mask, hk.enable.trans h.enable⟩

theorem waking_port (lv : PinLevels) (s : State) (p : Port) :
    let x := (s.waking lv).port p
    x.Awake ∧ x.previewRec = (s.port p).previewRec
      ∧ (s.log.clearBusy = false → x.cursor.dir = (s.port p).cursor.dir ∧ x.cursor.window = (s.port p).cursor.window)
      ∧ (s.log.clearBusy = true → x.cursor.dir = .forward ∧ x.cursor.window = none)
      ∧ ∀ f, f ≠ .logOverrun → x.attn.has f = false := by
  obtain ⟨hkept, hidle, hfree, hbusy, hflags⟩ := finishClear_port (warmBlocks lv s) p
  have hlog : (warmBlocks lv s).log = s.log := by simp [warmBlocks_eq, wakeUp, abandonWrite]
  have hport := warmBlocks_port lv s p
  rw [hport] at hkept hidle hfree
  rw [hlog] at hfree hbusy
  refine ⟨⟨hidle rfl, hkept.lastResult, hkept.lastCommand, hkept.latch, hkept.arm, hkept.pattern, hkept.preview, hkept.mask,
    hkept.enable⟩, hkept.previewRec, fun h => ?_, hbusy, fun f hf => ?_⟩
  · have hcursor := hfree h
    exact ⟨congrArg Cursor.dir hcursor, congrArg Cursor.window hcursor⟩
  · refine (hflags f hf).trans ?_
    rw [hport]
    exact started_has_none f

/-! ## The interrupted sub-interval (R189) -/

/-- The flags of the cause of a warm-start close. -/
def State.warmCauses (s : State) : List StatusFlag :=
  .outage :: (match s.config.syncMode with
    | .internal => s.lengthFlags s.elapsedAtEnd
    | .external => [.noSync])

theorem warmCloseStatus_has (s : State) (f : StatusFlag) : (warmCloseStatus s).has f = true ↔ f ∈ s.warmCauses := by
  unfold warmCloseStatus State.warmCauses
  cases s.config.syncMode <;> simp [StatusSet.has_or, StatusSet.has_single, lengthStatus_has]

theorem State.subContinues_iff (s : State) : s.subContinues = true ↔
    (s.config.syncMode = .internal ∧ s.sup.lossInstant.until s.clock.now < s.sup.lossInstant.until s.sub.nominalEnd)
      ∨ (s.config.syncMode = .external ∧ s.sub.elapsed < s.config.subLen + s.config.grace) := by
  unfold State.subContinues
  cases s.config.syncMode <;> simp

section
variable (s : State)

theorem resumeSub_clock : (resumeSub s).clock = { s.clock with dayType := (resumeSub s).clock.dayType } := by
  unfold resumeSub
  split_ifs
  · rfl
  · rw [closeWith_clock_keeps]
    simp

theorem closeWith_dayTyped {s : State} (h : s.DayTyped) (cause : StatusSet) (stop start : Instant) :
    (closeWith cause stop id start s).DayTyped := by
  have htaken : (takeClose cause stop s).DayTyped := h.of_same (by simp) (by simp) (by simp)
  exact htaken.activateAtStart.of_same (congrArg Clock.dayType (closeWith_clock ..))
    (congrArg Clock.now (closeWith_clock ..)) (closeWith_store ..)

theorem resumeSub_dayTyped {s : State} (h : s.DayTyped) : (resumeSub s).DayTyped := by
  unfold resumeSub
  split_ifs
  · exact h
  · exact closeWith_dayTyped h _ _ _

theorem resumeSub_keepsPorts : s.KeepsPorts (resumeSub s) := by
  unfold resumeSub
  split_ifs
  · exact .refl s
  · exact closeWith_keepsPorts clockOnly_id _ _ _ _

theorem resumeSub_chans (d : Fin 4) :
    (resumeSub s).chans.get d = { s.chans.get d with part := ((resumeSub s).chans.get d).part } := by
  unfold resumeSub
  split_ifs
  · rfl
  · rw [closeWith_chans clockOnly_id, PerFour.get_map]

theorem resumeSub_lim : (resumeSub s).lim.comparators = s.lim.comparators ∧ (resumeSub s).lim.shed = s.lim.shed := by
  unfold resumeSub
  split_ifs
  · exact ⟨rfl, rfl⟩
  · exact (closeWith_lim clockOnly_id ..).2

/-- What of the flags a resumption raises, where none but LOG_OVERRUN was pending. -/
theorem resumeSub_has {p : Port} (hnone : ∀ f, f ≠ .logOverrun → (s.port p).attn.has f = false) :
    let x := ((resumeSub s).port p).attn
    (∀ f, x.has f = true → f ∈ [.subintEnd, .rateChange, .newMaxKW, .newMaxKVA, .regRollover, .scheduleSwitched, .logOverrun])
      ∧ (x.has .subintEnd = true ↔ ¬ s.subContinues = true)
      ∧ (x.has .rateChange = true ↔ (resumeSub s).sub.rate ≠ s.sub.rate)
      ∧ (x.has .scheduleSwitched = true ↔ (resumeSub s).store.pendSched ≠ s.store.pendSched)
      ∧ (s.subContinues = true → x.has .newMaxKW = false ∧ x.has .newMaxKVA = false ∧ x.has .regRollover = false) := by
  unfold resumeSub
  split_ifs with hgoes
  · refine ⟨fun f hf => ?_, ?_, ?_, ?_, fun _ => ⟨hnone _ (by decide), hnone _ (by decide), hnone _ (by decide)⟩⟩
    · have hlog : f = .logOverrun := by
        by_contra hne
        exact absurd ((hnone f hne).symm.trans hf) (by decide)
      simp [hlog]
    · simp [hgoes, State.markSub, hnone .subintEnd (by decide)]
    · simp [State.markSub, hnone .rateChange (by decide)]
    · simp [State.markSub, hnone .scheduleSwitched (by decide)]
  · refine ⟨fun f hf => ?_, ?_, ?_, ?_, fun h => absurd h hgoes⟩
    · by_cases hlog : f = .logOverrun
      · simp [hlog]
      · exact closeWith_raises clockOnly_id _ _ _ _ p (hnone f hlog) hf
    · rw [closeWith_has clockOnly_id _ _ _ _ _ (by decide)]
      simp [hgoes]
    · rw [closeWith_has clockOnly_id _ _ _ _ _ (by decide), hnone _ (by decide)]
      simp
    · rw [closeWith_has_switched, hnone _ (by decide)]
      simp

end

/-- The channels that the next sub-interval is opened with matter to a close by their states alone (R49). -/
theorem State.ClosesInto.of_chans {s t : State} {chans chans' : PerFour Channel} {stop : Instant} {flags : List StatusFlag}
    {r : SubRecord} {tot : Totalizer} {dem : Demand} (h : s.ClosesInto t chans stop flags r tot dem)
    (hstate : ∀ d, (chans'.get d).state = (chans.get d).state) : s.ClosesInto t chans' stop flags r tot dem := by
  obtain ⟨hbuilds, hfiles, harrives, ⟨hstart, hzero, hend, hrate, hstatus, hparts⟩, hacts, hheld⟩ := h
  refine ⟨hbuilds, hfiles, harrives, ⟨hstart, hzero, hend, hrate, fun f => ?_, hparts⟩, hacts, hheld⟩
  simp only [hstate]
  exact hstatus f

/-! ## The outage recorded, and the late close (R43, R72, R110, R188) -/

section
variable (s : State)

theorem recordOutage_log : (recordOutage s).log = s.log.logged
    { kind := .outage, rate := s.sub.rate, status := 0, stamp := s.clock.now
      payload := [BitVec.ofNat 32 s.sup.outageFrom.day, BitVec.ofNat 32 s.sup.outageFrom.sec] } := by
  simp only [recordOutage, State.setSup_log, loadPickup_log]
  exact logMarker_logged .outage _ s

theorem recordOutage_sup : (recordOutage s).sup = { s.sup with outageValid := false } := by
  simp [recordOutage]

theorem recordOutage_dem : (recordOutage s).dem = { s.dem with
    pickup := if s.config.pickupThreshold ≤ s.sup.outageFrom.until s.clock.now then s.config.pickupLength else s.dem.pickup } := by
  simp only [recordOutage, State.setSup_dem, loadPickup, State.config, logMarker_store]
  split_ifs <;> simp

theorem recordOutage_port (p : Port) : (recordOutage s).port p
    = (logMarker .outage [s.sup.outageFrom.day, s.sup.outageFrom.sec] s).port p := by
  cases p <;> simp [recordOutage, State.port]

theorem recordOutage_keepsPorts : s.KeepsPorts (recordOutage s) :=
  ((State.KeepsPorts.refl s).logRecord _).of_eq (recordOutage_port s)

theorem recordOutage_has (p : Port) {f : AttnFlag} (hf : f ≠ .logOverrun) :
    ((recordOutage s).port p).attn.has f = (s.port p).attn.has f := by
  rw [recordOutage_port]
  exact logMarker_has _ _ s p hf

theorem State.datesPassed_iff : s.datesPassed = true ↔
    ∃ d ∈ s.store.closeDates, passedInOutage s.sup.lossInstant s.clock.now ⟨d, s.config.closeSecond⟩ = true := by
  simp [State.datesPassed]

end

section
variable {s : State} (cause : Cause)

theorem dateRequest_freezes (h : s.canFreeze = true) : dateRequest cause s = freeze cause false s := if_pos h

theorem dateRequest_of_busy (h : s.per.close ≠ .idle ∨ s.per.lockout ≠ 0) : dateRequest cause s = deferClose cause s := by
  have hcan : ¬ s.canFreeze = true := by
    rw [State.canFreeze_iff]
    rintro ⟨hidle, hlock, -⟩
    exact h.elim (absurd hidle) (absurd hlock)
  have hfree : ¬ (s.closeIdle && s.per.lockout == 0) = true := by
    rw [Bool.and_eq_true, State.closeIdle_iff, beq_iff_eq]
    rintro ⟨hidle, hlock⟩
    exact h.elim (absurd hidle) (absurd hlock)
  rw [dateRequest, if_neg hcan, if_neg hfree]

theorem dateRequest_of_last (hidle : s.per.close = .idle) (hlock : s.per.lockout = 0) (hlast : s.per.number = lastPeriod) :
    dateRequest cause s = s := by
  have hcan : ¬ s.canFreeze = true := by
    rw [State.canFreeze_iff]
    exact fun h => h.2.2 hlast
  have hfree : (s.closeIdle && s.per.lockout == 0) = true := by
    rw [Bool.and_eq_true, State.closeIdle_iff, beq_iff_eq]
    exact ⟨hidle, hlock⟩
  rw [dateRequest, if_neg hcan, if_pos hfree]

end

section
variable (s : State)

theorem dateRequest_keepsPorts (cause : Cause) : s.KeepsPorts (dateRequest cause s) := by
  unfold dateRequest
  split_ifs
  · exact ((State.KeepsPorts.refl s).of_eq (t := freezePeriod cause false s) fun p => by cases p <;> rfl).logRecord _
  · exact .refl s
  · exact ((State.KeepsPorts.refl s).of_eq (t := s.setPer { s.per with deferred := some (s.per.deferred.getD cause) })
      fun p => by cases p <;> rfl).raise _

theorem requestLateClose_passed (h : s.datesPassed = true) :
    requestLateClose s = dateRequest .dateLate (refreshPointer s) := if_pos h

theorem requestLateClose_of_none (h : ¬ s.datesPassed = true) : requestLateClose s = refreshPointer s := if_neg h

theorem requestLateClose_clock :
    (requestLateClose s).clock = { s.clock with pointer := s.store.pointerAfter s.clock.now } := by
  unfold requestLateClose
  dsimp only
  split_ifs
  · rw [dateRequest_clock]; rfl
  · rfl

theorem requestLateClose_keepsPorts : s.KeepsPorts (requestLateClose s) := by
  have hpointer : s.KeepsPorts (refreshPointer s) := (State.KeepsPorts.refl s).of_eq fun p => by cases p <;> rfl
  unfold requestLateClose
  dsimp only
  split_ifs
  · exact hpointer.trans (dateRequest_keepsPorts _ _)
  · exact hpointer

/-- A late close raises CLOSE_DEFERRED exactly where it is deferred, and otherwise the log's flag alone (R110, R112). -/
theorem requestLateClose_has (p : Port) {f : AttnFlag} (hf : f ≠ .logOverrun) :
    ((requestLateClose s).port p).attn.has f = true ↔ (s.port p).attn.has f = true
      ∨ (f = .closeDeferred ∧ s.datesPassed = true ∧ (s.per.close ≠ .idle ∨ s.per.lockout ≠ 0)) := by
  have hsame : ((refreshPointer s).port p).attn.has f = (s.port p).attn.has f := by cases p <;> rfl
  by_cases hlate : s.datesPassed = true
  · rw [requestLateClose_passed s hlate]
    by_cases hbusy : s.per.close ≠ .idle ∨ s.per.lockout ≠ 0
    · rw [dateRequest_of_busy .dateLate (s := refreshPointer s) hbusy, deferClose, State.raise_has, State.setPer_port, hsame]
      simp [hlate, hbusy]
    · have hcalm : ((dateRequest .dateLate (refreshPointer s)).port p).attn.has f = (s.port p).attn.has f := by
        rw [not_or, not_not, not_not] at hbusy
        by_cases hlast : s.per.number = lastPeriod
        · rw [dateRequest_of_last .dateLate (s := refreshPointer s) hbusy.1 hbusy.2 hlast, hsame]
        · rw [dateRequest_freezes .dateLate (s := refreshPointer s) ((State.canFreeze_iff _).mpr ⟨hbusy.1, hbusy.2, hlast⟩),
            freeze_has _ _ _ _ hf, hsame]
      rw [hcalm]
      simp [hbusy]
  · rw [requestLateClose_of_none s hlate, hsame]
    simp [hlate]

/-- Unless the late close freezes, it leaves the registers, the windows and the log. -/
theorem requestLateClose_leaves (h : ¬ (s.datesPassed = true ∧ s.canFreeze = true)) :
    (requestLateClose s).tot = s.tot ∧ (requestLateClose s).dem = s.dem ∧ (requestLateClose s).log = s.log := by
  by_cases hlate : s.datesPassed = true
  · have hcan : ¬ (refreshPointer s).canFreeze = true := fun hcan => h ⟨hlate, hcan⟩
    rw [requestLateClose_passed s hlate, dateRequest, if_neg hcan]
    split_ifs <;> simp [refreshPointer]
  · rw [requestLateClose_of_none s hlate]
    exact ⟨rfl, rfl, rfl⟩

theorem requestLateClose_freezes (hlate : s.datesPassed = true) (hcan : s.canFreeze = true) :
    requestLateClose s = freeze .dateLate false (refreshPointer s) := by
  rw [requestLateClose_passed s hlate, dateRequest_freezes .dateLate (s := refreshPointer s) hcan]

/-- The Period Unit after the late close of a start, where it does not freeze (R110, R112). -/
theorem requestLateClose_per_of_busy (h : s.per.close ≠ .idle ∨ s.per.lockout ≠ 0) : (requestLateClose s).per
    = { s.per with deferred := if s.datesPassed = true then some (s.per.deferred.getD .dateLate) else s.per.deferred } := by
  by_cases hlate : s.datesPassed = true
  · rw [requestLateClose_passed s hlate, dateRequest_of_busy .dateLate (s := refreshPointer s) h, if_pos hlate]
    rfl
  · rw [requestLateClose_of_none s hlate, if_neg hlate]
    rfl

theorem requestLateClose_per_of_last (hidle : s.per.close = .idle) (hlock : s.per.lockout = 0) (hlast : s.per.number = lastPeriod) :
    (requestLateClose s).per = s.per := by
  by_cases hlate : s.datesPassed = true
  · rw [requestLateClose_passed s hlate, dateRequest_of_last .dateLate (s := refreshPointer s) hidle hlock hlast]
    rfl
  · rw [requestLateClose_of_none s hlate]
    rfl

end

/-! ## The warm start -/

theorem exec_warmStart {lv : PinLevels} {s : State} (hmain : s.sup.mainSupply = false) (hret : s.sup.retentionValid = true) :
    exec (.warmStart lv) s = .next (warmStarted lv s) := by
  have hcond : (!s.running && s.sup.retentionValid) = true := by simp [State.running, hmain, hret]
  exact congrArg Host.Outcome.next (if_pos hcond)

/-- The state of a warm start once the interrupted sub-interval is judged (R189). -/
def State.resumedAt (s : State) (lv : PinLevels) : State := resumeSub (s.waking lv)

theorem warmStarted_eq (lv : PinLevels) (s : State) :
    warmStarted lv s = requestLateClose (recordOutage (s.resumedAt lv)) := rfl

theorem PeriodUnit.resumed_of_idle {x : PeriodUnit} (h : x.close = .idle) : x.resumed = x := by
  cases x; dsimp only at h; subst h; rfl

theorem PeriodUnit.resumed_of_closing {x : PeriodUnit} {y : Snapshot} (h : x.close = .closing y ∨ x.close = .resuming y) :
    x.resumed = { x with close := .resuming y } := by
  cases x; dsimp only at h
  rcases h with h | h <;> · subst h; rfl

theorem PeriodUnit.resumed_close_idle (x : PeriodUnit) : x.resumed.close = .idle ↔ x.close = .idle := by
  unfold PeriodUnit.resumed
  cases x.close <;> simp

section
variable (lv : PinLevels) (s : State)

theorem waking_subContinues : (s.waking lv).subContinues = true ↔
    (s.config.syncMode = .internal ∧ s.sup.lossInstant.until s.clock.now < s.sup.lossInstant.until s.sub.nominalEnd)
      ∨ (s.config.syncMode = .external ∧ s.sub.elapsed < s.config.subLen + s.config.grace) := by
  rw [State.subContinues_iff, waking_config, waking_sup, waking_sub, waking_clock]
  exact Iff.rfl

theorem resumedAt_config : (s.resumedAt lv).config = s.config.woken :=
  (resumeSub_store_config (s.waking lv)).trans (waking_config lv s)

theorem resumedAt_clock : (s.resumedAt lv).clock = { s.clock with dayType := (s.resumedAt lv).clock.dayType } := by
  conv_lhs => rw [State.resumedAt, resumeSub_clock, waking_clock]
  rfl

theorem resumedAt_per : (s.resumedAt lv).per = s.per.resumed := (resumeSub_per _).trans (waking_per lv s)

theorem resumedAt_sup : (s.resumedAt lv).sup = { s.sup with mainSupply := true, hold := false, startCause := .warm } :=
  (resumeSub_sup _).trans (waking_sup lv s)

theorem resumedAt_closeDates : (s.resumedAt lv).store.closeDates = s.store.closeDates :=
  (resumeSub_store_closeDates _).trans (congrArg Store.closeDates (waking_store lv s) :)

theorem resumedAt_datesPassed : (recordOutage (s.resumedAt lv)).datesPassed = true ↔
    ∃ d ∈ s.store.closeDates, passedInOutage s.sup.lossInstant s.clock.now ⟨d, s.config.closeSecond⟩ = true := by
  rw [State.datesPassed_iff, recordOutage_sup, resumedAt_sup, recordOutage_clock, resumedAt_clock, State.config, recordOutage_store,
    resumedAt_closeDates, ← State.config, resumedAt_config]
  exact Iff.rfl

/-- The sub-interval that goes on keeps all but the OUTAGE mark (R189). -/
theorem resumedAt_goesOn (h : (s.waking lv).subContinues = true) :
    s.resumedAt lv = (s.waking lv).markSub .outage := if_pos h

theorem resumedAt_closes (h : ¬ (s.waking lv).subContinues = true) :
    s.resumedAt lv = closeWith (warmCloseStatus (s.waking lv)) s.sub.nominalEnd id s.clock.now (s.waking lv) := by
  rw [State.resumedAt, resumeSub, if_neg h, waking_sub, waking_clock]

/-- The close of the interrupted sub-interval, as the state of the start shows it (R189). -/
theorem resumedAt_closesInto (h : ¬ (s.waking lv).subContinues = true) :
    s.ClosesInto (s.resumedAt lv) (s.resumedAt lv).chans s.sub.nominalEnd (s.waking lv).warmCauses
        (closingRecord (warmCloseStatus (s.waking lv)) s.sub.nominalEnd (s.waking lv)) (s.resumedAt lv).tot (s.resumedAt lv).dem
      ∧ (s.resumedAt lv).log = s.closeLogged (s.resumedAt lv) s.clearFinished
        (closingRecord (warmCloseStatus (s.waking lv)) s.sub.nominalEnd (s.waking lv)) := by
  have hnow : (s.resumedAt lv).clock.now = s.clock.now := by rw [resumedAt_clock]
  have hchans : ∀ d, ((s.resumedAt lv).chans.get d).state = ((s.waking lv).chans.get d).state := fun d => by
    rw [State.resumedAt, resumeSub_chans]
  have hhold : (s.waking lv).sup.hold = false := by rw [waking_sup]
  have hoff : (s.waking lv).clock.now = s.clock.now := by rw [waking_clock]
  have hclosed := resumedAt_closes lv s h
  have hcloses := closeWith_closesInto clockOnly_id (warmCloseStatus (s.waking lv)) s.sub.nominalEnd s.clock.now (s.waking lv)
    (warmCloseStatus_has _) (hclosed ▸ hnow)
  have hlog := closeWith_closeLogged clockOnly_id (warmCloseStatus (s.waking lv)) s.sub.nominalEnd s.clock.now (s.waking lv)
  rw [← hclosed] at hcloses hlog
  refine ⟨(hcloses.of_chans hchans).of_billedAlike (waking_billedAlike lv s) fun f => ?_, ?_⟩
  · rw [waking_sub, hhold]
    have hout : StatusFlag.outage ∈ (s.waking lv).warmCauses := List.mem_cons_self
    constructor
    · rintro (hf | hf | ⟨-, hf⟩)
      · exact .inl hf
      · exact .inr (.inl hf)
      · exact absurd hf (by decide)
    · rintro (hf | hf | ⟨rfl, -⟩)
      · exact .inl hf
      · exact .inr (.inl hf)
      · exact .inr (.inl hout)
  · rw [hlog, waking_log]
    exact State.closeLogged_congr (by rw [waking_config]; rfl) (by rw [waking_log, clearFinished_carries])
      (waking_billedAlike lv s).pendSched _ _ _

end

section
variable (lv : PinLevels) (s : State) (p : Port)

/-- The ports of a warm start at its end (R174, R188). -/
theorem warmStarted_port : let x := (warmStarted lv s).port p
    x.Awake ∧ x.previewRec = (s.port p).previewRec
      ∧ (s.log.clearBusy = false → x.cursor.dir = (s.port p).cursor.dir ∧ x.cursor.window = (s.port p).cursor.window)
      ∧ (s.log.clearBusy = true → x.cursor.dir = .forward ∧ x.cursor.window = none) := by
  obtain ⟨hawake, hrec, hfree, hbusy, -⟩ := waking_port lv s p
  have hkept : ((s.waking lv).port p).Kept ((warmStarted lv s).port p) :=
    ((resumeSub_keepsPorts _).trans ((recordOutage_keepsPorts _).trans (requestLateClose_keepsPorts _))) p
  refine ⟨hawake.kept hkept, hkept.previewRec.trans hrec, fun h => ?_, fun h => ?_⟩
  · exact ⟨hkept.dir.trans (hfree h).1, hkept.window.trans (hfree h).2⟩
  · exact ⟨hkept.dir.trans (hbusy h).1, hkept.window.trans (hbusy h).2⟩

/-- A flag of a warm start but LOG_OVERRUN is one that the judging of the sub-interval raised, or CLOSE_DEFERRED. -/
theorem warmStarted_has {f : AttnFlag} (hf : f ≠ .logOverrun) : ((warmStarted lv s).port p).attn.has f = true ↔
    ((s.resumedAt lv).port p).attn.has f = true
      ∨ (f = .closeDeferred ∧ (recordOutage (s.resumedAt lv)).datesPassed = true
          ∧ (s.per.close ≠ .idle ∨ s.per.lockout ≠ 0)) := by
  have hper : (recordOutage (s.resumedAt lv)).per = s.per.resumed := (recordOutage_per _).trans (resumedAt_per lv s)
  rw [warmStarted_eq, requestLateClose_has _ p hf, recordOutage_has _ p hf, hper, Ne, PeriodUnit.resumed_close_idle]
  exact Iff.rfl

/-- The flags pending at the end of a warm start (R182, R188). -/
theorem warmStarted_flags : let x := ((warmStarted lv s).port p).attn
    (∀ f, x.has f = true → f ∈ [.subintEnd, .rateChange, .newMaxKW, .newMaxKVA, .regRollover, .scheduleSwitched, .logOverrun,
        .closeDeferred])
      ∧ (x.has .subintEnd = true ↔ ¬ (s.waking lv).subContinues = true)
      ∧ (x.has .rateChange = true ↔ (s.resumedAt lv).sub.rate ≠ s.sub.rate)
      ∧ (x.has .scheduleSwitched = true ↔ (s.resumedAt lv).store.pendSched ≠ s.store.pendSched)
      ∧ (x.has .closeDeferred = true ↔ (recordOutage (s.resumedAt lv)).datesPassed = true
          ∧ (s.per.close ≠ .idle ∨ s.per.lockout ≠ 0))
      ∧ ((s.waking lv).subContinues = true →
          x.has .newMaxKW = false ∧ x.has .newMaxKVA = false ∧ x.has .regRollover = false) := by
  obtain ⟨-, -, -, -, hnone⟩ := waking_port lv s p
  have hres := resumeSub_has (s.waking lv) hnone
  rw [← State.resumedAt] at hres
  obtain ⟨hall, hend, hrate, hsched, hgoes⟩ := hres
  have hdeferred : ((s.resumedAt lv).port p).attn.has .closeDeferred ≠ true := fun h => absurd (hall _ h) (by decide)
  have hother : ∀ f, f ≠ .logOverrun → f ≠ .closeDeferred →
      ((warmStarted lv s).port p).attn.has f = ((s.resumedAt lv).port p).attn.has f := fun f hlog hf => by
    rw [Bool.eq_iff_iff, warmStarted_has lv s p hlog]
    exact or_iff_left fun h => hf h.1
  refine ⟨fun f hf => ?_, ?_, ?_, ?_, ?_, fun h => ?_⟩
  · by_cases hlog : f = .logOverrun
    · simp [hlog]
    · rcases (warmStarted_has lv s p hlog).mp hf with h | ⟨rfl, -⟩
      · exact List.mem_append_left [.closeDeferred] (hall f h)
      · simp
  · rw [hother .subintEnd (by decide) (by decide)]
    exact hend
  · rw [hother .rateChange (by decide) (by decide), ← congrArg OpenSub.rate (waking_sub lv s)]
    exact hrate
  · rw [hother .scheduleSwitched (by decide) (by decide), ← (waking_billedAlike lv s).pendSched]
    exact hsched
  · rw [warmStarted_has lv s p (by decide)]
    exact ⟨fun h => (h.resolve_left hdeferred).2, fun h => .inr ⟨rfl, h⟩⟩
  · rw [hother .newMaxKW (by decide) (by decide), hother .newMaxKVA (by decide) (by decide),
      hother .regRollover (by decide) (by decide)]
    exact hgoes h

end


/-- Settles O59: a warm start judges the interrupted sub-interval (`resumedAt`), records the outage, and requests the
late close. -/
theorem warmStartResumes : Obligations.WarmStartResumes := by
  unfold Obligations.WarmStartResumes
  intro lv s hmain hret goesOn began late frozen atEnd cause
  set A := s.waking lv with hA
  set B := s.resumedAt lv with hB
  set C := recordOutage B with hC
  have hgoes : A.subContinues = true ↔ goesOn := waking_subContinues lv s
  have hlate : C.datesPassed = true ↔ late := resumedAt_datesPassed lv s
  have hBper : B.per = s.per.resumed := resumedAt_per lv s
  have hBclock := resumedAt_clock lv s
  have hBsup := resumedAt_sup lv s
  have hBconfig : B.config = s.config.woken := resumedAt_config lv s
  have hBnow : B.clock.now = s.clock.now := (congrArg Clock.now hBclock :)
  have hCper : C.per = s.per.resumed := (recordOutage_per B).trans hBper
  have hCdem := recordOutage_dem B
  have hClog := recordOutage_log B
  have hbegan : B.sup.outageFrom = began := by rw [hBsup]; rfl
  rw [hBconfig, hbegan, hBnow] at hCdem
  rw [hbegan, hBnow] at hClog
  have hcan : C.canFreeze = true ↔ s.per.close = .idle ∧ s.per.lockout = 0 ∧ s.per.number ≠ 0xFFFFFFFF := by
    rw [State.canFreeze_iff, hCper, PeriodUnit.resumed_close_idle]
    exact Iff.rfl
  have hfrozen : (C.datesPassed = true ∧ C.canFreeze = true) ↔ frozen := and_congr hlate hcan
  have hTclock := requestLateClose_clock C
  have hTsub : (requestLateClose C).sub = B.sub := by simp [hC]
  have hTstore : (requestLateClose C).store = B.store := by simp [hC]
  have hTchans : (requestLateClose C).chans = B.chans := by simp [hC]
  have hTlim : (requestLateClose C).lim = B.lim := by simp [hC]
  have hCstore : C.store = B.store := by simp [hC]
  have hCclock : C.clock = B.clock := by simp [hC]
  have hTconfig : (requestLateClose C).config = s.config.woken := (congrArg Store.config hTstore).trans hBconfig
  have hTnow : (requestLateClose C).clock.now = s.clock.now := by rw [hTclock, hCclock, hBclock]
  refine ⟨requestLateClose C, B.tot, C.dem, B.log, exec_warmStart hmain hret, ?_, ?_, ?_, ?_, ?_, ?_, ?_, ?_, ?_, ?_, ?_, ?_, ?_, ?_,
    ?_, ?_, ?_, ?_, ?_, ?_⟩
  · rw [requestLateClose_sup, hC, recordOutage_sup, hBsup]
  · rw [requestLateClose_pins, hC, recordOutage_pins, hB, State.resumedAt, resumeSub_pins, waking_pins]
    rfl
  · have hday : B.clock.dayType = dayTypeOf B.store.active B.config.weekdayOffset B.clock.now.day :=
      resumeSub_dayTyped (waking_dayTyped lv s)
    have hpointer : B.store.pointerAfter s.clock.now = s.store.pointerAfter s.clock.now := by
      unfold Store.pointerAfter
      rw [hB, resumedAt_closeDates, ← State.config, ← hB, hBconfig]
      rfl
    rw [hBconfig, hBnow] at hday
    rw [hTclock, hCclock, hCstore, hTstore, hBclock, hpointer, ← hB, hday]
    rfl
  · rw [hTconfig]; rfl
  · rw [hTstore, hB, State.resumedAt, resumeSub_store_writing, waking_store]
  · rw [hTstore]; exact resumedAt_closeDates lv s
  · intro c
    rw [hTchans, hB, State.resumedAt, resumeSub_chans, waking_chans]
  · intro p
    obtain ⟨hawake, hrec, hfree, hbusy⟩ := warmStarted_port lv s p
    obtain ⟨hall, hend, hrate, hsched, hdeferred, hnone⟩ := warmStarted_flags lv s p
    rw [hTsub, hTstore]
    refine ⟨hawake.tx, hawake.lastResult, hawake.lastCommand, hawake.latch, hawake.arm, hawake.pattern, hawake.preview, hrec,
      hawake.mask, hawake.enable, hfree, hbusy, hall, hend.trans (not_congr hgoes), hrate, hsched, ?_, fun h => hnone (hgoes.mpr h)⟩
    exact hdeferred.trans (and_congr_left' hlate)
  · intro k
    rw [hTlim, hB, State.resumedAt, (resumeSub_lim _).1]
    exact (waking_lim lv s).1 k
  · rw [hTlim, hB, State.resumedAt, (resumeSub_lim _).2]
    exact (waking_lim lv s).2
  · rw [requestLateClose_log_clearBusy, hC, recordOutage_log_clearBusy, hB, State.resumedAt, resumeSub_log_clearBusy, waking_log,
      clearFinished_clearBusy]
  · intro hgo
    have hBeq := resumedAt_goesOn lv s (hgoes.mpr hgo)
    have hsub : B.sub = { s.sub with status := s.sub.status.mark .outage } := by rw [hB, hBeq, State.markSub_sub, waking_sub]
    have hstore : B.store = A.store := by rw [hB, hBeq, State.markSub_store]
    refine ⟨by rw [hB, hBeq, State.markSub_tot, waking_tot], ?_, ?_, ?_, fun f => ?_, ?_, ?_, fun c => ?_⟩
    · rw [hC, hCdem, hB, hBeq, State.markSub_dem, waking_dem]
    · rw [hB, hBeq, State.markSub_log, waking_log]
    · rw [hTsub, hsub]
    · rw [hTsub, hsub, StatusSet.has_mark, Bool.or_eq_true, decide_eq_true_eq]
    · rw [hTstore, hstore]; exact (waking_billedAlike lv s).active
    · rw [hTstore, hstore]; exact (waking_billedAlike lv s).pendSched
    · rw [hTchans, hB, hBeq]; exact (waking_billedAlike lv s).part c
  · intro hgo
    obtain ⟨hcloses, hlog⟩ := resumedAt_closesInto lv s (fun h => hgo (hgoes.mp h))
    refine ⟨closingRecord (warmCloseStatus A) s.sub.nominalEnd A, B.dem, ?_, by rw [hC, hCdem], ?_⟩
    · have hend : B.sub.nominalEnd = nominalEndOf B.config B.clock.now := by
        obtain ⟨-, -, -, ⟨-, -, hend, -⟩, -⟩ := hcloses
        exact hend
      have hcauses : A.warmCauses = cause := by
        unfold State.warmCauses State.elapsedAtEnd State.lengthFlags
        rw [hA, waking_config, waking_sub, waking_clock]
        rfl
      rw [← hcauses, hTchans]
      refine hcloses.later ?_ (hTnow.trans hBnow.symm) ?_ (congrArg Store.active hTstore) (congrArg Store.pendSched hTstore)
        ?_ (fun d => by rw [hTchans]) (congrArg Monitor.projection hTlim)
      · rw [hTsub, hTconfig, ← hBconfig, hB, ← hend]
      · rw [hTclock, hCclock]
      · rw [hTconfig, ← hBconfig]
    · rw [hlog]
      exact (closeLogged_of_rate _ _ (hTnow.trans hBnow.symm) (congrArg OpenSub.rate hTsub)).symm
  · intro h
    rw [hC, hCdem]
    exact if_pos h
  · intro h
    have hpickup : B.dem.pickup = if goesOn then s.dem.pickup else s.dem.pickup - 1 := by
      split_ifs with hgo
      · rw [hB, resumedAt_goesOn lv s (hgoes.mpr hgo), State.markSub_dem, waking_dem]
      · obtain ⟨⟨-, -, ⟨-, hone, -⟩, -⟩, -⟩ := resumedAt_closesInto lv s (fun h => hgo (hgoes.mp h))
        exact hone
    rw [hC, hCdem, ← hpickup]
    exact if_neg (Nat.not_le.mpr h)
  · refine ⟨fun hno => ?_, fun hyes => ?_⟩
    · obtain ⟨htot, hdem, hlog⟩ := requestLateClose_leaves C (fun h => hno (hfrozen.mp h))
      exact ⟨htot.trans (recordOutage_tot B), hdem, by rw [hlog, hTsub]; exact hClog⟩
    · obtain ⟨hpassed, hfreeze⟩ := hfrozen.mpr hyes
      obtain ⟨-, hidle, -, -⟩ := hyes
      have hper : C.per = s.per := hCper.trans (PeriodUnit.resumed_of_idle hidle)
      have hlogged := freeze_logged .dateLate false (refreshPointer C)
      have hCconfig : (refreshPointer C).config = s.config.woken := (congrArg Store.config hCstore).trans hBconfig
      have hCnow : (refreshPointer C).clock.now = s.clock.now := (congrArg Clock.now hCclock).trans hBnow
      have hpper : (refreshPointer C).per = s.per := hper
      have hptot : (refreshPointer C).tot = B.tot := recordOutage_tot B
      rw [hTsub, requestLateClose_freezes C hpassed hfreeze]
      refine ⟨by rw [freeze_tot, hptot], by rw [freeze_dem]; rfl, ?_, ?_⟩
      · rw [freeze_per, takeSnapshot, hpper, hCnow, hCconfig, hptot]
        rfl
      · refine hlogged.trans ?_
        have hplog : (refreshPointer C).log = (recordOutage B).log := rfl
        have hpsub : (refreshPointer C).sub = B.sub := recordOutage_sub B
        rw [hCnow, hpper, hplog, hClog, hpsub]
  · intro x hx
    have hres := PeriodUnit.resumed_of_closing hx
    have hbusy : C.per.close ≠ .idle ∨ C.per.lockout ≠ 0 := by
      rw [hCper, hres]
      exact .inl (by simp)
    rw [requestLateClose_per_of_busy C hbusy, hCper, hres]
    simp only [hlate]
  · intro hidle hno
    have hper : C.per = s.per := hCper.trans (PeriodUnit.resumed_of_idle hidle)
    rw [requestLateClose_of_none C (fun h => hno (hlate.mp h)), ← hper]
    rfl
  · intro hidle hyes hlock
    have hper : C.per = s.per := hCper.trans (PeriodUnit.resumed_of_idle hidle)
    rw [requestLateClose_per_of_busy C (.inr (by rwa [hper])), hper, if_pos (hlate.mpr hyes)]
  · intro hidle hyes hlock hlast
    have hper : C.per = s.per := hCper.trans (PeriodUnit.resumed_of_idle hidle)
    rw [← hper] at hidle hlock hlast
    exact (requestLateClose_per_of_last C hidle hlock hlast).trans hper

end Sys2Proof.Machine
end

section
/-! PROOFS. The second event: what it counts, and what its monitor's part does (R7, R19, R112, R148 to R154). -/

namespace Sys2Proof.Machine

open Sys2Proof

/-! ## A second event with nothing waiting -/

section
variable {s : State}

theorem takeBoundary_of_not_due (h : s.config.syncMode = .internal → s.clock.now ≠ s.sub.nominalEnd) : takeBoundary s = s := by
  rw [takeBoundary, if_neg]
  simp only [State.boundaryDue, Bool.and_eq_true, beq_iff_eq]
  exact fun hdue => h hdue.1 hdue.2

theorem takeBoundary_of_due (hmode : s.config.syncMode = .internal) (hend : s.clock.now = s.sub.nominalEnd) :
    takeBoundary s = closeNow (lengthStatus s.config s.sub.elapsed) s :=
  if_pos (by simp [State.boundaryDue, hmode, hend])

theorem takeExpiry_of_none (h : s.config.syncMode = .external → s.sub.elapsed < s.config.subLen + s.config.grace) :
    takeExpiry s = s := by
  refine takeExpiry_of_not_due ?_
  cases hmode : s.config.syncMode with
  | internal => exact .inl rfl
  | external => exact .inr (h hmode)

/-- With nothing waiting, a second event has nothing to settle first (assumption 2). -/
theorem settleDue_of_nothing (h : s.NothingWaits) : settleDue s = s := by
  obtain ⟨hdue, hboundary, hexpiry⟩ := h
  have hmidnight : takeMidnight s = s := by rw [takeMidnight, hdue]; rfl
  have hstall : ∀ c, takeStall c s = s := fun c => by
    rw [takeStall, hdue]
    simp [Due.nothing]
  have hlockout : takeLockout s = s := by rw [takeLockout, hdue]; rfl
  unfold settleDue
  simp only [hmidnight, hstall, takeBoundary_of_not_due hboundary, takeExpiry_of_none hexpiry, hdue]
  exact hlockout

end

/-- A second event as it stands when the end it may have reached is judged. -/
def State.counted (s : State) : State := markHold (timeBaseSecond s)

/-- The timers of a second event: the stall timers and the lockout timer. -/
def timersCounted (s : State) : State := countLockout (countStalls s)

/-- A second event on the main supply with nothing waiting (R19). -/
theorem exec_secondEvent {s : State} (hmain : s.sup.mainSupply = true) (h : s.NothingWaits) (b : Bool) :
    exec (.secondEvent b) s = .next (monitorSecond (timersCounted (if b then takeEnd s.counted else s.counted))) := by
  change Host.Outcome.next (secondStep b s) = _
  rw [secondStep, if_pos hmain, secondTaken, settleDue_of_nothing h]
  rfl

/-! ## The Time Base (R19, R42, R186) -/

section
variable (s : State)

@[simp] theorem advanceSecond_now : (advanceSecond s).clock.now = s.clock.now.tick := rfl
@[simp] theorem advanceSecond_elapsed : (advanceSecond s).sub.elapsed = s.sub.elapsed + 1 := rfl

@[simp] theorem detectCloseDate_dayType : (detectCloseDate s).clock.dayType = s.clock.dayType := by
  unfold detectCloseDate
  split
  · split_ifs <;> simp
  · rfl

@[simp] theorem detectCloseDate_due : (detectCloseDate s).due = { s.due with dates := (detectCloseDate s).due.dates } := by
  unfold detectCloseDate
  split
  · split_ifs <;> rfl
  · rfl

/-- The second before its close date is detected: the instant and the elapsed count, the midnight, the pointer sent back
by the midnight that ends the cycle, and the loss instant (R19, R42, R186). -/
def State.ticked (s : State) : State :=
  { s with
    clock := { s.clock with
      now := s.clock.now.tick
      pointer := if s.clock.now.tick = .zero then (if s.store.closeDates.isEmpty then none else some 0) else s.clock.pointer }
    sub := { s.sub with elapsed := s.sub.elapsed + 1 }
    due := if s.clock.now.tick.sec = 0 then { s.due with midnight := true } else s.due
    sup := { s.sup with lossInstant := s.clock.now.tick } }

theorem timeBaseSecond_eq : timeBaseSecond s = detectCloseDate s.ticked := by
  unfold timeBaseSecond State.ticked
  dsimp only
  split_ifs <;> first | rfl | contradiction

@[simp] theorem counted_store : s.counted.store = s.store := by simp [State.counted]
@[simp] theorem counted_chans : s.counted.chans = s.chans := by simp [State.counted]
@[simp] theorem counted_tot : s.counted.tot = s.tot := by simp [State.counted]
@[simp] theorem counted_dem : s.counted.dem = s.dem := by simp [State.counted]
@[simp] theorem counted_per : s.counted.per = s.per := by simp [State.counted]
@[simp] theorem counted_log : s.counted.log = s.log := by simp [State.counted]
@[simp] theorem counted_lim : s.counted.lim = s.lim := by simp [State.counted]
@[simp] theorem counted_pins : s.counted.pins = s.pins := by simp [State.counted]

@[simp] theorem counted_port (p : Port) : s.counted.port p = s.port p := by
  have hmark : ∀ t : State, (markHold t).port p = t.port p := fun t => by
    unfold markHold
    cases p <;> split_ifs <;> rfl
  rw [State.counted, hmark]
  cases p
  · exact timeBaseSecond_util s
  · exact timeBaseSecond_cust s

@[simp] theorem counted_now : s.counted.clock.now = s.clock.now.tick := by
  simp [State.counted, timeBaseSecond_eq, State.ticked]

@[simp] theorem counted_dayType : s.counted.clock.dayType = s.clock.dayType := by
  simp [State.counted, timeBaseSecond_eq, State.ticked]

@[simp] theorem counted_sup : s.counted.sup = { s.sup with lossInstant := s.clock.now.tick } := by
  simp [State.counted, timeBaseSecond_eq, State.ticked]

theorem counted_sub : s.counted.sub = { s.sub with
    elapsed := s.sub.elapsed + 1
    status := if s.sup.hold then s.sub.status.mark .outage else s.sub.status } := by
  have hsub : (timeBaseSecond s).sub = { s.sub with elapsed := s.sub.elapsed + 1 } := by
    simp [timeBaseSecond_eq, State.ticked]
  rw [State.counted, markHold, timeBaseSecond_sup_hold]
  split_ifs
  · rw [State.markSub_sub, hsub]
  · exact hsub

theorem counted_due : s.counted.due = { s.due with
    midnight := s.due.midnight || decide (s.clock.now.tick.sec = 0), dates := s.counted.due.dates } := by
  have hticked : s.ticked.due = { s.due with midnight := s.due.midnight || decide (s.clock.now.tick.sec = 0) } := by
    unfold State.ticked
    dsimp only
    split_ifs with h <;> simp [h]
  conv_lhs => rw [State.counted, markHold_due, timeBaseSecond_eq, detectCloseDate_due, hticked]
  rw [State.counted, markHold_due, timeBaseSecond_eq]

/-! ## The stall timers (R7) -/

/-- A channel whose stall timer has taken a second: it counts, unless it would stall the channel. -/
def Channel.secondCounted (cfg : Config) (ch : Channel) : Channel :=
  { ch with timer := if (ch.state = .waiting ∨ ch.state = .active) ∧ ch.timer + 1 < cfg.stallTimeout then ch.timer + 1
      else ch.timer }

theorem stallsNext_iff (cfg : Config) (ch : Channel) : stallsNext cfg ch = true ↔
    (ch.state = .waiting ∨ ch.state = .active) ∧ cfg.stallTimeout ≤ ch.timer + 1 := by
  simp [stallsNext]

/-- One channel's part of a second event. -/
theorem countStall_eq (c : Fin 4) : countStall c s = { s with
    chans := s.chans.set c ((s.chans.get c).secondCounted s.config)
    due := { s.due with stall := s.due.stall.set c (s.due.stall.get c || stallsNext s.config (s.chans.get c)) } } := by
  have hchan : s.chans.set c (s.chans.get c) = s.chans := PerFour.set_get _ _
  have hstall : s.due.stall.set c (s.due.stall.get c) = s.due.stall := PerFour.set_get _ _
  unfold countStall stallSecond Channel.secondCounted
  by_cases hnext : stallsNext s.config (s.chans.get c) = true
  · have hlate := (stallsNext_iff ..).mp hnext
    rw [if_pos hnext, if_neg (fun h => Nat.lt_irrefl _ (Nat.lt_of_lt_of_le h.2 hlate.2)), hnext, Bool.or_true]
    exact State.ext_fields rfl rfl rfl rfl hchan.symm rfl rfl rfl rfl rfl rfl rfl rfl rfl rfl rfl
  · rw [if_neg hnext, Bool.eq_false_iff.mpr hnext, Bool.or_false, hstall]
    by_cases hruns : (s.chans.get c).state = .waiting ∨ (s.chans.get c).state = .active
    · have hearly : ¬ s.config.stallTimeout ≤ (s.chans.get c).timer + 1 := fun h => hnext ((stallsNext_iff ..).mpr ⟨hruns, h⟩)
      dsimp only
      rw [if_pos hruns, if_neg hearly, if_pos ⟨hruns, Nat.not_le.mp hearly⟩]
      rfl
    · dsimp only
      rw [if_neg hruns, if_neg (fun h => hruns h.1)]
      exact State.ext_fields rfl rfl rfl rfl hchan.symm rfl rfl rfl rfl rfl rfl rfl rfl rfl rfl rfl

end

/-- The four channels' part of a second event outside Hold. -/
def State.stallsCounted (s : State) : State := { s with
  chans := s.chans.map (Channel.secondCounted s.config)
  due := { s.due with stall := s.due.stall.zipWith (fun old ch => old || stallsNext s.config ch) s.chans } }

theorem countStalls_eq (s : State) : countStalls s = if s.sup.hold then s else s.stallsCounted := by
  unfold countStalls
  split_ifs
  · rfl
  · simp only [countStall_eq]
    rfl

/-! ## The timers together -/

section
variable (s : State)

@[simp] theorem timersCounted_store : (timersCounted s).store = s.store := by simp [timersCounted]
@[simp] theorem timersCounted_clock : (timersCounted s).clock = s.clock := by simp [timersCounted]
@[simp] theorem timersCounted_tot : (timersCounted s).tot = s.tot := by simp [timersCounted]
@[simp] theorem timersCounted_dem : (timersCounted s).dem = s.dem := by simp [timersCounted]
@[simp] theorem timersCounted_log : (timersCounted s).log = s.log := by simp [timersCounted]
@[simp] theorem timersCounted_lim : (timersCounted s).lim = s.lim := by simp [timersCounted]
@[simp] theorem timersCounted_sup : (timersCounted s).sup = s.sup := by simp [timersCounted]
@[simp] theorem timersCounted_pins : (timersCounted s).pins = s.pins := by simp [timersCounted]
@[simp] theorem timersCounted_pending : (timersCounted s).pending = s.pending := by simp [timersCounted]
@[simp] theorem timersCounted_free : (timersCounted s).free = s.free := by simp [timersCounted]

@[simp] theorem timersCounted_sub : (timersCounted s).sub = s.sub := by
  rw [timersCounted, countLockout_sub, countStalls_eq]
  split_ifs <;> rfl

@[simp] theorem timersCounted_port (p : Port) : (timersCounted s).port p = s.port p := by
  have hlockout : ∀ t : State, (countLockout t).port p = t.port p := fun t => by
    cases p
    · exact countLockout_util t
    · exact countLockout_cust t
  rw [timersCounted, hlockout, countStalls_eq]
  split_ifs
  · rfl
  · cases p <;> rfl

theorem timersCounted_chans (c : Fin 4) : (timersCounted s).chans.get c
    = if s.sup.hold then s.chans.get c else (s.chans.get c).secondCounted s.config := by
  rw [timersCounted, countLockout_chans, countStalls_eq]
  split_ifs
  · rfl
  · exact PerFour.get_map ..

theorem timersCounted_per : (timersCounted s).per
    = { s.per with lockout := if s.per.lockout = 1 then 1 else s.per.lockout - 1 } := by
  rw [timersCounted, countLockout, countStalls_per]
  split_ifs with h
  · rw [State.setDue_per, countStalls_per, ← h]
  · rfl

theorem timersCounted_stall (c : Fin 4) : (timersCounted s).due.stall.get c
    = (s.due.stall.get c || (!s.sup.hold && stallsNext s.config (s.chans.get c))) := by
  have hlockout : ∀ t : State, (countLockout t).due.stall = t.due.stall := fun t => by
    unfold countLockout
    split_ifs <;> rfl
  rw [timersCounted, hlockout, countStalls_eq]
  split_ifs with h
  · simp [h]
  · simp [h, State.stallsCounted]

theorem timersCounted_due : (timersCounted s).due = { s.due with
    stall := (timersCounted s).due.stall, lockout := s.due.lockout || decide (s.per.lockout = 1) } := by
  have hstalls : (countStalls s).due = { s.due with stall := (countStalls s).due.stall } := by
    rw [countStalls_eq]
    split_ifs <;> rfl
  conv_lhs => rw [timersCounted, countLockout, countStalls_per]
  unfold timersCounted countLockout
  rw [countStalls_per]
  split_ifs with h
  · rw [State.setDue_due, hstalls]; simp [h]
  · rw [State.setPer_due, hstalls]; simp [h]

end

end Sys2Proof.Machine
end

section
/-! PROOFS. The Limit Monitor's comparators, and its part of a second event (R148 to R154). -/

namespace Sys2Proof.Machine

open Sys2Proof

/-! ## A port but for its flags -/

/-- A port with other flags in its Attention Unit. -/
def PortState.SameButFlags (x y : PortState) : Prop :=
  y = { x with attn := { x.attn with flags := y.attn.flags, fresh := y.attn.fresh } }

theorem PortState.SameButFlags.refl (x : PortState) : x.SameButFlags x := rfl

theorem PortState.SameButFlags.trans {x y z : PortState} (h : x.SameButFlags y) (k : y.SameButFlags z) : x.SameButFlags z := by
  unfold PortState.SameButFlags at *
  rw [k, h]

theorem State.raiseIf_sameButFlags (s : State) (c : Bool) (f : AttnFlag) (p : Port) :
    (s.port p).SameButFlags ((s.raiseIf c f).port p) := by
  cases c
  · exact .refl _
  · cases p <;> rfl

/-! ## The comparators (R151 to R154) -/

theorem PerFour.any_toList {α : Type} (x : PerFour α) (p : α → Bool) : x.toList.any p = true ↔ ∃ d, p (x.get d) = true := by
  simp [PerFour.toList, PerFour.get, Fin.exists_fin_succ]

/-- A comparator at an evaluating second event (R151, R152). -/
theorem evaluated_eq (l : LimitConfig) (p : Projection) (c : Comparator) : c.evaluated l p
    = if l.enabled then l.next c (if l.quantity = .kw then p.dp else p.dva) else c := by
  have hvalue : comparedValue l.quantity p = if l.quantity = .kw then p.dp else p.dva := by
    cases l.quantity <;> rfl
  unfold Comparator.evaluated
  rw [hvalue]
  generalize (if l.quantity = .kw then p.dp else p.dva) = v
  split_ifs
  · unfold Comparator.counted Comparator.moved LimitConfig.next LimitConfig.release
    obtain ⟨state, timer⟩ := c
    cases state with
    | disabled => rfl
    | clear => rfl
    | alert => dsimp only; split_ifs <;> rfl
    | releasing =>
      dsimp only
      split_ifs with hback hzero hone hone
      · rfl
      · rfl
      · omega
      · omega
      · rfl
  · rfl

theorem shedLevels_get (limits : PerFour LimitConfig) (cs : PerFour Comparator) (j : Fin 4) :
    (shedLevels limits cs).get j = true ↔ ∃ k, (limits.get k).enabled = true ∧ (limits.get k).shed = j
      ∧ ((cs.get k).state = .alert ∨ (cs.get k).state = .releasing) := by
  have hlevel : (shedLevels limits cs).get j = ((limits.zipWith (holdsShed j) cs).toList).any id := by
    fin_cases j <;> rfl
  rw [hlevel, PerFour.any_toList]
  simp [holdsShed, and_assoc]

section
variable (s : State)

/-- The comparators after an evaluating second event. -/
def State.evaluated (s : State) : PerFour Comparator :=
  s.config.limits.zipWith (Comparator.evaluated · s.lim.projection ·) s.lim.comparators

theorem evaluateComparators_lim : (evaluateComparators s).lim
    = { s.lim with comparators := s.evaluated, shed := shedLevels s.config.limits s.evaluated } := by
  simp [evaluateComparators, refreshShed, State.evaluated, State.config]

theorem evaluateComparators_has (p : Port) (g : AttnFlag) : ((evaluateComparators s).port p).attn.has g
    = ((s.port p).attn.has g
      || (((s.lim.comparators.zipWith alerted s.evaluated).toList).any id && decide (g = .limitAlert))
      || (((s.lim.comparators.zipWith released s.evaluated).toList).any id && decide (g = .limitRelease))) := by
  have hport : ∀ p, (refreshShed (s.setLim { s.lim with comparators := s.evaluated })).port p = s.port p := fun p => by
    cases p <;> rfl
  rw [← hport]
  exact (State.raiseIf_has ..).trans (congrArg (· || _) (State.raiseIf_has ..))

theorem evaluateComparators_port (p : Port) : (s.port p).SameButFlags ((evaluateComparators s).port p) := by
  have hport : (refreshShed (s.setLim { s.lim with comparators := s.evaluated })).port p = s.port p := by cases p <;> rfl
  rw [← hport]
  exact (State.raiseIf_sameButFlags ..).trans (State.raiseIf_sameButFlags ..)

theorem evaluateComparators_into : s.EvaluatedInto (evaluateComparators s) := by
  have hlim := evaluateComparators_lim s
  have hget : ∀ k, (evaluateComparators s).lim.comparators.get k = s.evaluated.get k := fun k => by rw [hlim]
  have hproj : (evaluateComparators s).lim.projection = s.lim.projection := by rw [hlim]
  refine ⟨fun k => ?_, fun j => ?_, fun p => ⟨?_, ?_⟩⟩
  · rw [hget, hproj, State.evaluated, PerFour.get_zipWith, evaluated_eq]
  · simp only [hget]
    rw [hlim]
    exact shedLevels_get ..
  · simp only [hget, evaluateComparators_has, Bool.or_eq_true, Bool.and_eq_true, PerFour.any_toList, PerFour.get_zipWith, alerted]
    simp
  · simp only [hget, evaluateComparators_has, Bool.or_eq_true, Bool.and_eq_true, PerFour.any_toList, PerFour.get_zipWith, released]
    simp

end

/-- What an evaluation does depends on the limits, the comparators and the two flags alone. -/
theorem State.EvaluatedInto.of_same {s x t : State} (h : x.EvaluatedInto t) (hlimits : x.config.limits = s.config.limits)
    (hcomparators : x.lim.comparators = s.lim.comparators)
    (hflags : ∀ p g, g = .limitAlert ∨ g = .limitRelease → (x.port p).attn.has g = (s.port p).attn.has g) :
    s.EvaluatedInto t := by
  obtain ⟨hnext, hshed, hraised⟩ := h
  rw [hlimits] at hnext hshed
  rw [hcomparators] at hnext hraised
  refine ⟨hnext, hshed, fun p => ?_⟩
  rw [← hflags p .limitAlert (.inl rfl), ← hflags p .limitRelease (.inr rfl)]
  exact hraised p

/-! ## The monitor at a second event (R148 to R150) -/

section
variable {s : State}

theorem monitorSecond_hold (h : s.sup.hold = true) :
    monitorSecond s = s.setLim { s.lim with projection := { s.lim.projection with source := .hold } } := if_pos h

theorem monitorSecond_evaluates (h : s.sup.hold = false) (hfill : s.config.windowLen - 1 ≤ s.dem.ring.length) :
    monitorSecond s = evaluateComparators (setProjection (secondProjection s) s) := by
  have hready : (setProjection (secondProjection s) s).fillReady = true := decide_eq_true hfill
  unfold monitorSecond
  rw [if_neg (by rw [h]; decide)]
  exact if_pos hready

theorem monitorSecond_projects (h : s.sup.hold = false) (hfill : s.dem.ring.length < s.config.windowLen - 1) :
    monitorSecond s = setProjection (secondProjection s) s := by
  have hready : ¬ (setProjection (secondProjection s) s).fillReady = true := fun hr =>
    absurd (of_decide_eq_true hr) (Nat.not_le.mpr hfill)
  unfold monitorSecond
  rw [if_neg (by rw [h]; decide)]
  exact if_neg hready

/-- The projection of a second event outside Hold, whether the comparators are evaluated or not. -/
theorem monitorSecond_projection (h : s.sup.hold = false) : (monitorSecond s).lim.projection = secondProjection s := by
  rcases Nat.lt_or_ge s.dem.ring.length (s.config.windowLen - 1) with hfill | hfill
  · rw [monitorSecond_projects h hfill]; rfl
  · rw [monitorSecond_evaluates h hfill, evaluateComparators_lim]; rfl

theorem monitorSecond_into (h : s.sup.hold = false) (hfill : s.config.windowLen - 1 ≤ s.dem.ring.length) :
    s.EvaluatedInto (monitorSecond s) := by
  rw [monitorSecond_evaluates h hfill]
  exact (evaluateComparators_into _).of_same rfl rfl fun p g _ => by cases p <;> rfl

/-- In Hold, and below a fill of N − 1, no comparator and no SHED output moves (R149, R151). -/
theorem monitorSecond_still (h : s.sup.hold = true ∨ s.dem.ring.length < s.config.windowLen - 1) :
    (monitorSecond s).lim.comparators = s.lim.comparators ∧ (monitorSecond s).lim.shed = s.lim.shed := by
  cases hhold : s.sup.hold with
  | true => rw [monitorSecond_hold hhold]; exact ⟨rfl, rfl⟩
  | false => rw [monitorSecond_projects hhold (h.resolve_left (by rw [hhold]; decide))]; exact ⟨rfl, rfl⟩

/-- A port at the monitor's part: all but the flags is kept, and of these all but the two of the limits. -/
theorem monitorSecond_port (p : Port) : (s.port p).SameButFlags ((monitorSecond s).port p)
    ∧ ∀ g, g ≠ .limitAlert → g ≠ .limitRelease → ((monitorSecond s).port p).attn.has g = (s.port p).attn.has g := by
  cases hhold : s.sup.hold with
  | true =>
    rw [monitorSecond_hold hhold, State.setLim_port]
    exact ⟨.refl _, fun _ _ _ => rfl⟩
  | false =>
    rcases Nat.lt_or_ge s.dem.ring.length (s.config.windowLen - 1) with hfill | hfill
    · rw [monitorSecond_projects hhold hfill, setProjection, State.setLim_port]
      exact ⟨.refl _, fun _ _ _ => rfl⟩
    · rw [monitorSecond_evaluates hhold hfill]
      refine ⟨evaluateComparators_port _ p, fun g ha hr => ?_⟩
      rw [evaluateComparators_has, setProjection, State.setLim_port]
      simp [ha, hr]

end

end Sys2Proof.Machine
end

section
/-! PROOFS. What a close does not read: two states that a close treats alike (R52). -/

namespace Sys2Proof.Machine

open Sys2Proof

/-! ## What a close does not read (R52, R150) -/

/-- Two states that differ only in what a close does not read: the dues, the Period Unit, the monitor, the stall timers
and the flags. They set out with the flags `fa` and `fb`, and the same flags have been raised in both since. -/
structure State.CloseAlike (fa fb : Port → AttnFlag → Bool) (a b : State) : Prop where
  store : b.store = a.store
  clock : b.clock = a.clock
  sub : b.sub = a.sub
  tot : b.tot = a.tot
  dem : b.dem = a.dem
  log : b.log = a.log
  sup : b.sup = a.sup
  pins : b.pins = a.pins
  pending : b.pending = a.pending
  free : b.free = a.free
  chans : ∀ d, b.chans.get d = { a.chans.get d with timer := (b.chans.get d).timer }
  ports : ∀ p, (a.port p).SameButFlags (b.port p)
  flags : ∀ p g, ∃ r, (a.port p).attn.has g = (fa p g || r) ∧ (b.port p).attn.has g = (fb p g || r)

theorem PortState.SameButFlags.cursor {x y : PortState} (h : x.SameButFlags y) : y.cursor = x.cursor := by
  unfold PortState.SameButFlags at h
  rw [h]

/-- Whether a write takes the cursor of a port to OVERRUN (R135). -/
def PortState.overruns (x : PortState) (before kept : List LogRecord) : Bool :=
  x.cursor.state == .atRecord && (heldIn before x.cursor.position && !heldIn kept x.cursor.position)

theorem PortState.afterWrite_has_eq (x : PortState) (before kept : List LogRecord) (new : Seq) (g : AttnFlag) :
    (x.afterWrite before kept new).attn.has g = (x.attn.has g || (x.overruns before kept && decide (g = .logOverrun))) := by
  unfold PortState.afterWrite PortState.overruns
  cases x.cursor.state with
  | atRecord =>
    dsimp only
    split_ifs with h
    · rw [AttentionUnit.has_raise]; simp [h]
    · simp [h]
  | atEnd => dsimp only; split_ifs <;> simp
  | atEdge => simp
  | overrun => simp

theorem PortState.SameButFlags.afterWrite {x y : PortState} (h : x.SameButFlags y) (before kept : List LogRecord) (new : Seq) :
    (x.afterWrite before kept new).SameButFlags (y.afterWrite before kept new) := by
  unfold PortState.SameButFlags at h
  rw [h]
  unfold PortState.afterWrite
  dsimp only
  split
  · split_ifs <;> rfl
  · split_ifs <;> rfl
  · rfl

theorem PortState.SameButFlags.overruns {x y : PortState} (h : x.SameButFlags y) (before kept : List LogRecord) :
    y.overruns before kept = x.overruns before kept := by
  unfold PortState.overruns
  rw [h.cursor]

theorem PerFour.ext_get {α : Type} {x y : PerFour α} (h : ∀ d, x.get d = y.get d) : x = y := by
  obtain ⟨h0, h1, h2, h3⟩ := And.intro (h 0) (And.intro (h 1) (And.intro (h 2) (h 3)))
  cases x; cases y
  exact PerFour.mk.injEq .. ▸ ⟨h0, h1, h2, h3⟩

namespace State.CloseAlike

variable {fa fb : Port → AttnFlag → Bool} {a b : State} (h : State.CloseAlike fa fb a b)
include h

theorem config : b.config = a.config := congrArg Store.config h.store

theorem setStore (x : Store) : State.CloseAlike fa fb (a.setStore x) (b.setStore x) :=
  ⟨rfl, h.clock, h.sub, h.tot, h.dem, h.log, h.sup, h.pins, h.pending, h.free, h.chans, h.ports, h.flags⟩

theorem setClock (x : Clock) : State.CloseAlike fa fb (a.setClock x) (b.setClock x) :=
  ⟨h.store, rfl, h.sub, h.tot, h.dem, h.log, h.sup, h.pins, h.pending, h.free, h.chans, h.ports, h.flags⟩

theorem setSub (x : OpenSub) : State.CloseAlike fa fb (a.setSub x) (b.setSub x) :=
  ⟨h.store, h.clock, rfl, h.tot, h.dem, h.log, h.sup, h.pins, h.pending, h.free, h.chans, h.ports, h.flags⟩

theorem setTot (x : Totalizer) : State.CloseAlike fa fb (a.setTot x) (b.setTot x) :=
  ⟨h.store, h.clock, h.sub, rfl, h.dem, h.log, h.sup, h.pins, h.pending, h.free, h.chans, h.ports, h.flags⟩

theorem setDem (x : Demand) : State.CloseAlike fa fb (a.setDem x) (b.setDem x) :=
  ⟨h.store, h.clock, h.sub, h.tot, rfl, h.log, h.sup, h.pins, h.pending, h.free, h.chans, h.ports, h.flags⟩

theorem setLog (x : ProfileLog) : State.CloseAlike fa fb (a.setLog x) (b.setLog x) :=
  ⟨h.store, h.clock, h.sub, h.tot, h.dem, rfl, h.sup, h.pins, h.pending, h.free, h.chans, h.ports, h.flags⟩

theorem setLim (x y : Monitor) : State.CloseAlike fa fb (a.setLim x) (b.setLim y) :=
  ⟨h.store, h.clock, h.sub, h.tot, h.dem, h.log, h.sup, h.pins, h.pending, h.free, h.chans, h.ports, h.flags⟩

theorem partsTaken : State.CloseAlike fa fb (a.setChans (a.chans.map fun ch => { ch with part := .all 0 }))
    (b.setChans (b.chans.map fun ch => { ch with part := .all 0 })) := by
  refine ⟨h.store, h.clock, h.sub, h.tot, h.dem, h.log, h.sup, h.pins, h.pending, h.free, fun d => ?_, h.ports, h.flags⟩
  simp only [State.setChans_chans, PerFour.get_map]
  rw [h.chans d]

theorem raiseIf (c : Bool) (g : AttnFlag) : State.CloseAlike fa fb (a.raiseIf c g) (b.raiseIf c g) := by
  refine ⟨by simp [h.store], by simp [h.clock], by simp [h.sub], by simp [h.tot], by simp [h.dem], by simp [h.log], by simp [h.sup],
    by simp [h.pins], by simp [h.pending], by simp [h.free], by simpa using h.chans, fun p => ?_, fun p f => ?_⟩
  · have hport := h.ports p
    cases c
    · exact hport
    · unfold PortState.SameButFlags at *
      cases p <;> simp only [State.raiseIf, if_true, State.raise, State.raiseOn, State.port, State.setPort, State.setUtil,
        State.setCust, AttentionUnit.raise] at * <;> rw [hport]
  · obtain ⟨r, ha, hb⟩ := h.flags p f
    exact ⟨r || (c && decide (f = g)), by rw [State.raiseIf_has, ha, Bool.or_assoc], by rw [State.raiseIf_has, hb, Bool.or_assoc]⟩

theorem writeRecord (x : LogBody) : State.CloseAlike fa fb (writeRecord x a) (writeRecord x b) := by
  have hport : ∀ (s : State) (p : Port), (Machine.writeRecord x s).port p
      = (s.port p).afterWrite s.log.records (trimFor x.words s.log.records) s.log.nextSeq := fun s p => by cases p <;> rfl
  refine ⟨by simp [h.store], by simp [h.clock], by simp [h.sub], by simp [h.tot], by simp [h.dem],
    by simp [Machine.writeRecord, h.log], by simp [h.sup],
    by simp [h.pins], by simp [h.pending], by simp [h.free], by simpa using h.chans, fun p => ?_, fun p f => ?_⟩
  · rw [hport, hport, h.log]
    exact (h.ports p).afterWrite ..
  · obtain ⟨r, ha, hb⟩ := h.flags p f
    refine ⟨r || ((a.port p).overruns a.log.records (trimFor x.words a.log.records) && decide (f = .logOverrun)), ?_, ?_⟩
    · rw [hport, PortState.afterWrite_has_eq, ha, Bool.or_assoc]
    · rw [hport, PortState.afterWrite_has_eq, hb, Bool.or_assoc, h.log, (h.ports p).overruns]

theorem logRecord (x : LogBody) : State.CloseAlike fa fb (logRecord x a) (logRecord x b) := by
  unfold Machine.logRecord
  rw [h.log]
  split_ifs
  · unfold slotRecord
    rw [h.log]
    exact h.setLog _
  · exact h.writeRecord x

theorem logMarker (kind : RecordKind) (payload : List Nat) : State.CloseAlike fa fb (logMarker kind payload a) (logMarker kind payload b) := by
  unfold Machine.logMarker markerBody
  rw [h.clock, h.sub]
  exact h.logRecord _

theorem scheduleMarker (day : Option Nat) : State.CloseAlike fa fb (scheduleMarker day a) (scheduleMarker day b) := by
  cases day with
  | none => exact h
  | some day => exact h.logMarker _ _

theorem activationAtStart : b.activationAtStart = a.activationAtStart := by
  unfold State.activationAtStart
  rw [h.store, h.clock]

theorem refreshDayType : State.CloseAlike fa fb (refreshDayType a) (refreshDayType b) := by
  unfold Machine.refreshDayType State.config
  rw [h.store, h.clock]
  exact h.setClock _

theorem activateAtStart : State.CloseAlike fa fb (activateAtStart a) (activateAtStart b) := by
  unfold Machine.activateAtStart
  rw [h.activationAtStart]
  split_ifs
  · unfold activateSchedule
    rw [h.store]
    exact ((h.setStore _).refreshDayType).raiseIf true _
  · exact h

theorem openingStatus : openingStatus b = openingStatus a := by
  have hstate : ∀ d, (b.chans.get d).state = (a.chans.get d).state := fun d => by rw [h.chans d]
  have hstalled : b.chans.toList.any (fun ch => ch.state == .stalled) = a.chans.toList.any (fun ch => ch.state == .stalled) := by
    rw [Bool.eq_iff_iff, PerFour.any_toList, PerFour.any_toList]
    simp only [hstate]
  unfold Machine.openingStatus
  rw [h.clock, hstalled]

theorem placeSub (start : Instant) : State.CloseAlike fa fb (placeSub start a) (placeSub start b) := by
  have hrate : b.rateFor start = a.rateFor start := by
    unfold State.rateFor State.config
    rw [h.store]
  unfold Machine.placeSub
  rw [h.config, h.openingStatus, hrate]
  exact h.setSub _

theorem openNext (start : Instant) : State.CloseAlike fa fb (openNext start a) (openNext start b) := by
  have hplaced := h.activateAtStart.placeSub start
  unfold Machine.openNext
  dsimp only
  rw [hplaced.sub, h.sub]
  exact hplaced.raiseIf _ _

theorem partials : b.partials = a.partials := by
  have hget : ∀ d, b.partials.get d = a.partials.get d := fun d => by
    simp only [State.partials, PerFour.get_map]
    rw [h.chans d]
  exact PerFour.ext_get hget

theorem cumulative : b.cumulative = a.cumulative := by
  have hget : ∀ d, b.cumulative.get d = a.cumulative.get d := fun d => by
    simp only [State.cumulative, PerFour.get_map]
    rw [h.chans d]
  exact PerFour.ext_get hget

theorem closingRecord (cause : StatusSet) (stop : Instant) : closingRecord cause stop b = closingRecord cause stop a := by
  unfold Machine.closingRecord closingStatus
  rw [h.tot, h.sub, h.config, h.sup, h.partials]

theorem takeClose (cause : StatusSet) (stop : Instant) : State.CloseAlike fa fb (takeClose cause stop a) (takeClose cause stop b) := by
  rw [takeClose_eq, takeClose_eq, h.closingRecord, h.cumulative, h.tot, h.config]
  exact (((h.setTot _).partsTaken).raiseIf _ _).raiseIf true _

theorem demandArrival (r : SubRecord) : State.CloseAlike fa fb (demandArrival r a) (demandArrival r b) := by
  unfold Machine.demandArrival
  dsimp only
  rw [h.dem, h.config]
  exact ((h.setDem _).raiseIf _ _).raiseIf _ _

theorem handOn (r : SubRecord) (day : Option Nat) : State.CloseAlike fa fb (handOn r day a) (handOn r day b) := by
  have harrived := h.demandArrival r
  have hdata : State.CloseAlike fa fb (logData r (Machine.demandArrival r a)) (logData r (Machine.demandArrival r b)) := by
    unfold logData
    rw [harrived.config, harrived.log]
    exact (harrived.setLog _).logRecord _
  exact (hdata.scheduleMarker day).setLim _ _

theorem closeNow (cause : StatusSet) : State.CloseAlike fa fb (closeNow cause a) (closeNow cause b) := by
  unfold Machine.closeNow closeWith
  have hnow : b.clock.now = a.clock.now := congrArg Clock.now h.clock
  have htaken := h.takeClose cause a.clock.now
  rw [hnow, h.closingRecord]
  dsimp only [id_eq]
  rw [htaken.activationAtStart]
  exact (htaken.openNext _).handOn _ _

end State.CloseAlike

end Sys2Proof.Machine
end

section
/-! PROOFS. The order in which a second event and a close are taken (R150). -/

namespace Sys2Proof.Machine

open Sys2Proof

theorem PortState.SameButFlags.symm {x y : PortState} (h : x.SameButFlags y) : y.SameButFlags x := by
  unfold PortState.SameButFlags at *
  rw [h]

/-! ## The order of R150 -/

section
variable {s : State}

/-- A second event that reaches no end of the sub-interval counts alike in both orders (R150). -/
theorem takeEnd_counted_of_none (hboundary : s.config.syncMode = .internal → s.clock.now.tick ≠ s.sub.nominalEnd)
    (hexpiry : s.config.syncMode = .external → s.sub.elapsed + 1 < s.config.subLen + s.config.grace) :
    takeEnd s.counted = s.counted := by
  have hconfig : s.counted.config = s.config := congrArg Store.config (counted_store s)
  have htaken : takeBoundary s.counted = s.counted :=
    takeBoundary_of_not_due (by rw [hconfig, counted_now, counted_sub]; exact hboundary)
  rw [takeEnd, htaken]
  exact takeExpiry_of_none (by rw [hconfig, counted_sub]; exact hexpiry)

/-- The status of the end that a second event may reach (R22, R27). -/
def State.endCause (s : State) : StatusSet :=
  match s.config.syncMode with
  | .internal => lengthStatus s.config s.sub.elapsed
  | .external => expiryStatus s.config

/-- The open sub-interval has reached its end by a second event to come. -/
def State.EndsNext (s : State) : Prop :=
  s.config.syncMode = .internal ∧ s.clock.now.tick = s.sub.nominalEnd
    ∨ s.config.syncMode = .external ∧ s.config.subLen + s.config.grace ≤ s.sub.elapsed + 1

theorem takeEnd_counted (h : s.EndsNext) : takeEnd s.counted = closeNow s.counted.endCause s.counted := by
  have hconfig : s.counted.config = s.config := congrArg Store.config (counted_store s)
  rcases h with ⟨hmode, hend⟩ | ⟨hmode, hover⟩
  · have hmode' : s.counted.config.syncMode = .internal := by rw [hconfig, hmode]
    have htaken : takeBoundary s.counted = closeNow s.counted.endCause s.counted := by
      rw [takeBoundary_of_due hmode' (by rw [counted_now, counted_sub, hend]), State.endCause, hmode']
    have hafter : (closeNow s.counted.endCause s.counted).config = s.counted.config := closeWith_config clockOnly_id ..
    rw [takeEnd, htaken]
    exact takeExpiry_of_none fun hext => SyncMode.noConfusion ((hafter ▸ hext).symm.trans hmode')
  · have hmode' : s.counted.config.syncMode = .external := by rw [hconfig, hmode]
    have htaken : takeBoundary s.counted = s.counted :=
      takeBoundary_of_not_due fun hint => SyncMode.noConfusion (hmode'.symm.trans hint)
    rw [takeEnd, htaken, takeExpiry_of_due hmode' (by rw [hconfig, counted_sub]; exact hover), State.endCause, hmode']

/-- The timers and the monitor's part of a second event change nothing that a close reads. -/
theorem closeAlike_monitored (a : State) : State.CloseAlike (fun p g => (a.port p).attn.has g)
    (fun p g => ((monitorSecond (timersCounted a)).port p).attn.has g) a (monitorSecond (timersCounted a)) := by
  refine ⟨by simp, by simp, by simp, by simp, by simp, by simp, by simp, by simp, by simp, by simp, fun d => ?_, fun p => ?_,
    fun p g => ⟨false, (Bool.or_false _).symm, (Bool.or_false _).symm⟩⟩
  · rw [monitorSecond_chans, timersCounted_chans]
    split_ifs <;> rfl
  · have hport := (monitorSecond_port (s := timersCounted a) p).1
    rwa [timersCounted_port] at hport

/-- The dues of a second event's timers depend on what a close keeps. -/
theorem timersCounted_due_congr {a b : State} (hdue : b.due = a.due) (hper : b.per = a.per) (hhold : b.sup.hold = a.sup.hold)
    (hconfig : b.config = a.config)
    (hchans : ∀ d, (b.chans.get d).state = (a.chans.get d).state ∧ (b.chans.get d).timer = (a.chans.get d).timer) :
    (timersCounted b).due = (timersCounted a).due := by
  have hstall : (timersCounted b).due.stall = (timersCounted a).due.stall := PerFour.ext_get fun d => by
    rw [timersCounted_stall, timersCounted_stall, hdue, hhold, hconfig]
    unfold stallsNext
    rw [(hchans d).1, (hchans d).2]
  rw [timersCounted_due b, timersCounted_due a, hstall, hdue, hper]

/-- A close that a second event takes first leaves what the other order leaves once the end's own row is taken, but for
the monitor and its two flags (R150). -/
theorem monitored_close (a : State) (cause : StatusSet) :
    let t := monitorSecond (timersCounted (closeNow cause a))
    let v := closeNow cause (monitorSecond (timersCounted a))
    t = { v with
        lim := t.lim
        util := { v.util with attn := { v.util.attn with flags := t.util.attn.flags, fresh := t.util.attn.fresh } }
        cust := { v.cust with attn := { v.cust.attn with flags := t.cust.attn.flags, fresh := t.cust.attn.fresh } } }
      ∧ ∀ (f : AttnFlag) (p : Port), f ≠ .limitAlert → f ≠ .limitRelease → (t.port p).attn.has f = (v.port p).attn.has f := by
  intro t v
  set u := monitorSecond (timersCounted a) with hu
  set c := closeNow cause a with hc
  have ht : t = monitorSecond (timersCounted c) := rfl
  have hv : State.CloseAlike (fun p g => (a.port p).attn.has g) (fun p g => (u.port p).attn.has g) c v :=
    (closeAlike_monitored a).closeNow cause
  have hcchans : ∀ d, c.chans.get d = { a.chans.get d with part := .all 0 } := closeNow_chans_get cause a
  have hvchans : ∀ d, v.chans.get d = { u.chans.get d with part := .all 0 } := closeNow_chans_get cause u
  have hcper : c.per = a.per := closeWith_per _ _ id _ _ fun _ => rfl
  have hcdue : c.due = a.due := closeWith_due _ _ id _ _ fun _ => rfl
  have hcsup : c.sup = a.sup := closeWith_sup _ _ id _ _ fun _ => rfl
  have hcconfig : c.config = a.config := closeWith_config clockOnly_id ..
  have hvper : v.per = u.per := closeWith_per _ _ id _ _ fun _ => rfl
  have hvdue : v.due = u.due := closeWith_due _ _ id _ _ fun _ => rfl
  clear_value t v c
  have hport : ∀ p, (c.port p).SameButFlags (t.port p) ∧ ∀ g, g ≠ .limitAlert → g ≠ .limitRelease →
      (t.port p).attn.has g = (c.port p).attn.has g := fun p => by
    rw [ht, ← timersCounted_port c]
    exact monitorSecond_port p
  have hdue : t.due = v.due := by
    rw [ht, hvdue, hu, monitorSecond_due, monitorSecond_due]
    exact timersCounted_due_congr hcdue hcper (by rw [hcsup]) hcconfig fun d => by rw [hcchans]; exact ⟨rfl, rfl⟩
  have hchans : t.chans = v.chans := PerFour.ext_get fun d => by
    rw [hvchans, hu, ht, monitorSecond_chans, monitorSecond_chans, timersCounted_chans, timersCounted_chans, hcchans, hcsup, hcconfig]
    split_ifs <;> rfl
  have hper : t.per = v.per := by
    rw [ht, hvper, hu, monitorSecond_per, monitorSecond_per, timersCounted_per, timersCounted_per, hcper]
  refine ⟨State.ext_fields ?_ ?_ ?_ hdue hchans ?_ ?_ hper ?_ rfl ((hv.ports .utility).symm.trans (hport .utility).1)
    ((hv.ports .customer).symm.trans (hport .customer).1) ?_ ?_ ?_ ?_, fun f p ha hr => ?_⟩
  · rw [hv.store, ht]; simp
  · rw [hv.clock, ht]; simp
  · rw [hv.sub, ht]; simp
  · rw [hv.tot, ht]; simp
  · rw [hv.dem, ht]; simp
  · rw [hv.log, ht]; simp
  · rw [hv.sup, ht]; simp
  · rw [hv.pins, ht]; simp
  · rw [hv.pending, ht]; simp
  · rw [hv.free, ht]; simp
  · obtain ⟨r, hleft, hright⟩ := hv.flags p f
    have hsame : (u.port p).attn.has f = (a.port p).attn.has f := by
      rw [hu, (monitorSecond_port p).2 f ha hr, timersCounted_port]
    rw [(hport p).2 f ha hr, hleft, hright, hsame]

end

end Sys2Proof.Machine
end

section
/-! PROOFS. What a second event counts (R19, R42). -/

namespace Sys2Proof.Machine

open Sys2Proof

/-! ## What a second event counts (R19, R42) -/

section
variable {s : State}

theorem exec_secondEvent_counted (hmain : s.sup.mainSupply = true) (h : s.NothingWaits) {b : Bool}
    (hends : b = true → (s.config.syncMode = .internal → s.clock.now.tick ≠ s.sub.nominalEnd)
      ∧ (s.config.syncMode = .external → s.sub.elapsed + 1 < s.config.subLen + s.config.grace)) :
    exec (.secondEvent b) s = .next (monitorSecond (timersCounted s.counted)) := by
  rw [exec_secondEvent hmain h]
  cases b with
  | false => rfl
  | true => rw [if_pos rfl, takeEnd_counted_of_none (hends rfl).1 (hends rfl).2]

/-- The close-date detection of a second event at the entry the pointer names (R42). -/
theorem detectCloseDate_at {i : Nat} (hpointer : s.clock.pointer = some i) (hi : i < s.store.closeDates.length) :
    (s.clock.now = ⟨s.store.closeDates[i], s.config.closeSecond⟩ →
        (detectCloseDate s).due.dates = s.due.dates + 1
          ∧ (detectCloseDate s).clock.pointer = (if i + 1 < s.store.closeDates.length then some (i + 1) else none))
      ∧ (s.clock.now ≠ ⟨s.store.closeDates[i], s.config.closeSecond⟩ → detectCloseDate s = s) := by
  have hinstant : s.store.closeInstant i = some ⟨s.store.closeDates[i], s.config.closeSecond⟩ := by
    unfold Store.closeInstant
    rw [List.getElem?_eq_getElem hi]
    rfl
  unfold detectCloseDate
  rw [hpointer]
  dsimp only
  rw [hinstant]
  refine ⟨fun h => ?_, fun h => if_neg fun hsome => h (Option.some.inj hsome).symm⟩
  rw [if_pos (by rw [h])]
  exact ⟨rfl, rfl⟩

theorem ticked_pointer {i : Nat} (h : if s.clock.now.tick = ⟨0, 0⟩ then i = 0 else s.clock.pointer = some i)
    (hi : i < s.store.closeDates.length) : s.ticked.clock.pointer = some i := by
  unfold State.ticked
  dsimp only
  by_cases hzero : s.clock.now.tick = ⟨0, 0⟩
  · have hzero' : s.clock.now.tick = .zero := hzero
    obtain rfl : i = 0 := by rwa [if_pos hzero] at h
    have hsome : s.store.closeDates.isEmpty = false := by
      cases hlist : s.store.closeDates with
      | nil => rw [hlist] at hi; exact absurd hi (Nat.not_lt_zero 0)
      | cons => rfl
    rw [if_pos hzero', hsome]
    rfl
  · have hzero' : ¬ s.clock.now.tick = .zero := hzero
    rw [if_neg hzero']
    rwa [if_neg hzero] at h

theorem counted_date : s.counted.due.dates = (detectCloseDate s.ticked).due.dates
    ∧ s.counted.clock.pointer = (detectCloseDate s.ticked).clock.pointer := by
  rw [State.counted, markHold_due, markHold_clock, timeBaseSecond_eq]
  exact ⟨rfl, rfl⟩

end

/-- Settles O20: a second event is `counted` and then `timersCounted`, and the two orders of a close agree by
`monitored_close`. -/
theorem secondEventCounts : Obligations.SecondEventCounts := by
  unfold Obligations.SecondEventCounts
  refine ⟨fun b s => ⟨fun hlost => ?_, fun hmain hwaits hends => ?_⟩, fun s i hmain hwaits hpointer hi => ?_,
    fun e s hmain hwaits hends => ?_⟩
  · change Host.Outcome.next (secondStep b s) = _
    rw [secondStep, if_neg (by rw [State.running, hlost]; decide)]
    rfl
  · have hdue := hwaits.1
    refine ⟨_, exec_secondEvent_counted hmain hwaits hends, ?_⟩
    set a := s.counted with ha
    have hconfig : a.config = s.config := congrArg Store.config (counted_store s)
    have hhold : a.sup.hold = s.sup.hold := by rw [ha, counted_sup]
    have htimers : (monitorSecond (timersCounted a)).due = { a.due with
        stall := (timersCounted a).due.stall, lockout := a.due.lockout || decide (a.per.lockout = 1) } := by
      rw [monitorSecond_due, timersCounted_due]
    have hclocked : a.clock.timeValid = s.clock.timeValid := by
      rw [ha, State.counted, markHold_clock, timeBaseSecond_clock_timeValid]
    rw [htimers, ha, counted_due, hdue]
    refine ⟨?_, ?_, ?_, ?_, ?_, ?_, ?_, fun f => ?_, ?_, ?_, ?_, fun c => ?_, fun c => ?_, ?_, ?_, ?_, ?_, ?_, ?_⟩
    · simp
    · rw [monitorSecond_clock, timersCounted_clock, ← ha, hclocked]
    · simp
    · rw [monitorSecond_sub, timersCounted_sub, counted_sub]
    · rw [monitorSecond_sub, timersCounted_sub, counted_sub]
    · rw [monitorSecond_sub, timersCounted_sub, counted_sub]
    · rw [monitorSecond_sub, timersCounted_sub, counted_sub]
    · rw [monitorSecond_sub, timersCounted_sub, counted_sub]
      cases s.sup.hold <;> simp [StatusSet.has_mark]
    · simp [Due.nothing]
    · rw [monitorSecond_per, timersCounted_per, counted_per]
    · simp [Due.nothing]
    · show (timersCounted s.counted).due.stall.get c = true ↔ _
      rw [timersCounted_stall, counted_due, hdue, ← ha, hhold, hconfig, counted_chans, Bool.or_eq_true, Bool.and_eq_true,
        stallsNext_iff]
      simp [Due.nothing]
    · rw [monitorSecond_chans, timersCounted_chans, ← ha, hhold, hconfig, counted_chans]
      unfold Channel.secondCounted
      cases s.sup.hold <;> simp
    · simp
    · simp
    · simp
    · simp
    · simp
    · simp
  · refine ⟨_, exec_secondEvent_counted hmain hwaits (b := false) (fun h => absurd h (by decide)), ?_⟩
    have hdates : s.ticked.due.dates = 0 := by
      unfold State.ticked
      rw [hwaits.1]
      dsimp only
      split_ifs <;> rfl
    obtain ⟨hat, hother⟩ := detectCloseDate_at (s := s.ticked) (ticked_pointer hpointer hi) hi
    obtain ⟨hcount, hpoint⟩ := counted_date (s := s)
    rw [monitorSecond_due, timersCounted_due, monitorSecond_clock, timersCounted_clock]
    dsimp only
    rw [hcount, hpoint]
    refine ⟨fun h => ?_, fun h => ?_⟩
    · obtain ⟨hone, hnext⟩ := hat h
      exact ⟨by rw [hone, hdates], hnext⟩
    · rw [hother h]
      exact ⟨hdates, ticked_pointer hpointer hi⟩
  · have hendsNext : s.EndsNext := hends.elim (fun h => .inl ⟨h.2.1, h.2.2⟩) (fun h => .inr ⟨h.2.1, h.2.2⟩)
    set a := s.counted with ha
    set u := monitorSecond (timersCounted a) with hu
    have huconfig : u.config = s.config := by simp [hu, ha, State.config]
    have husub : u.sub = a.sub := by simp [hu]
    have hunow : u.clock.now = s.clock.now.tick := by simp [hu, ha]
    have hrunning : u.running = true := by simp [hu, ha, State.running, hmain]
    have hexec : exec e u = .next (closeNow a.endCause u) := by
      have hcause : a.endCause = u.endCause := by
        unfold State.endCause
        rw [huconfig, husub, State.config, ha, counted_store, ← State.config]
      rcases hends with ⟨rfl, hmode, hend⟩ | ⟨rfl, hmode, hover⟩
      · change Host.Outcome.next (whileRunning takeBoundary u) = _
        rw [whileRunning, if_pos hrunning, takeBoundary_of_due (by rw [huconfig, hmode])
          (by rw [hunow, husub, ha, counted_sub]; exact hend), hcause, State.endCause, huconfig, hmode]
      · change Host.Outcome.next (whileRunning takeExpiry u) = _
        rw [whileRunning, if_pos hrunning, takeExpiry_of_due (by rw [huconfig, hmode])
          (by rw [huconfig, husub, ha, counted_sub]; exact hover), hcause, State.endCause, huconfig, hmode]
    obtain ⟨hsame, hflags⟩ := monitored_close a a.endCause
    refine ⟨monitorSecond (timersCounted (closeNow a.endCause a)), u, closeNow a.endCause u, ?_, ?_, hexec, ?_, ?_, ?_, hsame, hflags⟩
    · rw [exec_secondEvent hmain hwaits, if_pos rfl, takeEnd_counted hendsNext]
    · exact exec_secondEvent_counted hmain hwaits fun h => absurd h (by decide)
    · rw [closeNow_tot]
      show u.tot.lastSeq + 1 = _
      rw [hu, monitorSecond_tot, timersCounted_tot, ha, counted_tot]
    · rw [← hunow]
      exact closeWith_start _ _ _ _ _
    · rw [closeNow, closeWith_sub]
      rfl

end Sys2Proof.Machine
end

section
/-! PROOFS. The projection of a second event, and the comparators it evaluates (R148 to R155). -/

namespace Sys2Proof.Machine

open Sys2Proof

/-! ## The projection (R148, R149) -/

section
variable {s : State}

theorem newestBut_spec {n : Nat} {ring : List Summary} (h : n - 1 ≤ ring.length) :
    (newestBut n ring).length = n - 1 ∧ newestBut n ring <:+ ring := by
  refine ⟨?_, List.drop_suffix _ _⟩
  rw [newestBut, List.length_drop]
  omega

theorem secondProjection_formed (hfill : s.config.windowLen - 1 ≤ s.dem.ring.length) (helapsed : 30 ≤ s.sub.elapsed) :
    secondProjection s = projectedDemand s := by
  unfold secondProjection State.fillReady
  rw [if_pos (by simp [hfill, helapsed])]

theorem secondProjection_held (h : s.dem.ring.length < s.config.windowLen - 1 ∨ s.sub.elapsed < 30) :
    secondProjection s = heldDemand s.sub.elapsed s := by
  unfold secondProjection State.fillReady
  rw [if_neg]
  simp only [Bool.and_eq_true, decide_eq_true_eq]
  omega

theorem heldSource_eq (s : State) :
    s.heldSource = if s.dem.ring.length < s.config.windowLen - 1 then .heldFill else .heldEarly := by
  unfold State.heldSource State.fillReady
  by_cases h : s.dem.ring.length < s.config.windowLen - 1
  · rw [if_pos h, if_neg (fun hready => absurd (of_decide_eq_true hready) (Nat.not_le.mpr h))]
  · rw [if_neg h, if_pos (decide_eq_true (Nat.not_lt.mp h))]

theorem heldDemand_source (n : Nat) (s : State) : (heldDemand n s).source = s.heldSource := by
  unfold heldDemand
  split <;> rfl

theorem heldDemand_elapsed (n : Nat) (s : State) : (heldDemand n s).elapsed = n := by
  unfold heldDemand
  split <;> rfl

theorem heldDemand_of_window {w : Window} (n : Nat) (h : s.dem.window = some w) :
    heldDemand n s = { dp := w.dp, dq := w.dq, dva := w.dva, source := s.heldSource, elapsed := n } := by
  unfold heldDemand
  rw [h]

theorem heldDemand_of_none (n : Nat) (h : s.dem.window = none) :
    heldDemand n s = { dp := 0, dq := 0, dva := 0, source := s.heldSource, elapsed := n } := by
  unfold heldDemand
  rw [h]

theorem timersCounted_partials (s : State) : (timersCounted s).partials = s.partials := PerFour.ext_get fun d => by
  simp only [State.partials, PerFour.get_map]
  rw [timersCounted_chans]
  split_ifs <;> rfl

end

/-- What a close and a second event may raise of the two limit flags: a close neither (R154). -/
theorem closeNow_keepsLimitFlags (cause : StatusSet) (s : State) (p : Port) {g : AttnFlag}
    (hg : g = .limitAlert ∨ g = .limitRelease) : ((closeNow cause s).port p).attn.has g = (s.port p).attn.has g := by
  rcases hg with rfl | rfl
  · rw [closeNow_has _ _ _ (by decide)]; simp
  · rw [closeNow_has _ _ _ (by decide)]; simp

/-- Settles O50: the projection by `secondProjection`, the comparators by `monitorSecond_into`, on the state that the
timers and, in the order of R150, the close leave. -/
theorem secondEventProjectsAndCompares : Obligations.SecondEventProjectsAndCompares := by
  unfold Obligations.SecondEventProjectsAndCompares
  have plain : ∀ s : State, (timersCounted s.counted).config = s.config ∧ (timersCounted s.counted).sup.hold = s.sup.hold
      ∧ (timersCounted s.counted).dem = s.dem ∧ (timersCounted s.counted).lim = s.lim
      ∧ (timersCounted s.counted).sub.elapsed = s.sub.elapsed + 1 ∧ (timersCounted s.counted).partials = s.partials := fun s => by
    refine ⟨by simp [State.config], by simp, by simp, by simp, ?_, ?_⟩
    · rw [timersCounted_sub, counted_sub]
    · rw [timersCounted_partials, State.partials, counted_chans, ← State.partials]
  refine ⟨fun s hmain hwaits => ?_, fun s hmain hwaits hhold hfill => ?_, fun s hmain hwaits hends => ?_⟩
  · obtain ⟨hconfig, hhold, hdem, hlim, helapsed, hpartials⟩ := plain s
    refine ⟨_, exec_secondEvent_counted hmain hwaits (b := false) (fun h => absurd h (by decide)), ?_⟩
    set x := timersCounted s.counted with hx
    refine ⟨fun hin => ?_, fun hout => ?_⟩
    · rw [monitorSecond_hold (hhold.trans hin), hlim]
      rfl
    · have hproj := monitorSecond_projection (hhold.trans hout)
      rw [hproj]
      refine ⟨?_, fun hready => ?_, fun hearly => ?_, fun hshort => ?_⟩
      · unfold secondProjection
        split_ifs
        · exact helapsed
        · rw [heldDemand_elapsed, helapsed]
      · have hfill : x.config.windowLen - 1 ≤ x.dem.ring.length := by rw [hconfig, hdem]; exact hready.1
        rw [secondProjection_formed hfill (by rw [helapsed]; exact hready.2)]
        have hspec := newestBut_spec hready.1
        refine ⟨rfl, ⟨newestBut s.config.windowLen s.dem.ring, hspec.1, hspec.2, ?_, ?_⟩, rfl⟩
        · have htotal : (totalize s.config s.partials).pp.toNat
              = min (s.sumOver .add .impActive - s.sumOver .subtract .impActive) (2 ^ 64 - 1) := totalOf_toNat s _
          rw [← htotal]
          unfold projectedDemand
          rw [hconfig, hdem, helapsed, hpartials]
          rfl
        · unfold projectedDemand
          rw [hconfig, hdem, helapsed, hpartials]
          rfl
      · have hheld : secondProjection x = heldDemand x.sub.elapsed x := by
          refine secondProjection_held ?_
          rw [hconfig, hdem, helapsed]
          exact hearly
        rw [hheld]
        refine ⟨by rw [heldDemand_source, heldSource_eq, hconfig, hdem], ?_⟩
        cases hwindow : s.dem.window with
        | some w => rw [heldDemand_of_window _ (hdem ▸ hwindow)]; exact ⟨rfl, rfl, rfl⟩
        | none => rw [heldDemand_of_none _ (hdem ▸ hwindow)]; exact ⟨rfl, rfl, rfl⟩
      · have hstill := monitorSecond_still (s := x) (.inr (by rw [hconfig, hdem]; exact hshort))
        rwa [hlim] at hstill
  · obtain ⟨hconfig, hheld, hdem, hlim, -, -⟩ := plain s
    refine ⟨_, exec_secondEvent_counted hmain hwaits (b := false) (fun h => absurd h (by decide)), ?_, fun f p ha hr => ?_⟩
    · refine (monitorSecond_into (hheld.trans hhold) (by rw [hconfig, hdem]; exact hfill)).of_same (by rw [hconfig]) (by rw [hlim])
        fun p g _ => ?_
      rw [timersCounted_port, counted_port]
    · rw [(monitorSecond_port p).2 f ha hr, timersCounted_port, counted_port]
  · set a := s.counted with ha
    set c := closeNow a.endCause a with hc
    set x := timersCounted c with hx
    set w := a.dem.nextWindow a.config (closingRecord a.endCause a.clock.now a) with hw
    obtain ⟨hproj, hcomparators, hshed⟩ := closeWith_lim clockOnly_id a.endCause a.clock.now a.clock.now a
    rw [← closeNow, ← hc] at hproj hcomparators hshed
    have hcdem : c.dem = a.dem.arrived a.config (closingRecord a.endCause a.clock.now a) := closeWith_dem clockOnly_id ..
    have hxdem : x.dem = c.dem := timersCounted_dem c
    have haconfig : a.config = s.config := congrArg Store.config (counted_store s)
    have hxconfig : x.config = s.config := by
      rw [State.config, hx, timersCounted_store, ← State.config, ← haconfig]
      exact closeWith_config clockOnly_id ..
    have hxlim : x.lim = c.lim := timersCounted_lim c
    have halim : a.lim = s.lim := counted_lim s
    have hxhold : x.sup.hold = s.sup.hold := by
      rw [hx, timersCounted_sup, hc, closeNow, closeWith_sup _ _ id _ _ (fun _ => rfl), ha, counted_sup]
    have hxelapsed : x.sub.elapsed = 0 := by
      rw [hx, timersCounted_sub, hc, closeNow, closeWith_sub]; rfl
    have hwindow : x.dem.window = some w := by rw [hxdem, hcdem, Demand.arrived_window]
    refine ⟨monitorSecond x, w, ?_, by rw [monitorSecond_dem, hwindow], ?_, ?_, fun hout hfill => ?_, fun hin => ?_⟩
    · rw [exec_secondEvent hmain hwaits, if_pos rfl, takeEnd_counted hends]
    · show a.tot.lastSeq + 1 = _
      rw [ha, counted_tot]
    · rw [monitorSecond_dem]
      cases hhold : s.sup.hold with
      | true =>
        rw [monitorSecond_hold (hxhold.trans hhold), if_pos rfl]
        show { x.lim.projection with source := .hold } = _
        rw [hxlim, hproj]
      | false =>
        rw [monitorSecond_projection (hxhold.trans hhold), secondProjection_held (.inr (by rw [hxelapsed]; decide)),
          heldDemand_of_window _ hwindow, heldSource_eq, hxconfig, hxelapsed]
        rfl
    · rw [monitorSecond_dem] at hfill
      refine (monitorSecond_into (hxhold.trans hout) (by rw [hxconfig]; exact hfill)).of_same (by rw [hxconfig])
        (by rw [hxlim, hcomparators, halim]) fun p g hg => ?_
      rw [hx, timersCounted_port, hc, closeNow_keepsLimitFlags _ _ _ hg, ha, counted_port]
    · rw [monitorSecond_dem] at hin
      have hstill := monitorSecond_still (s := x) (by rw [hxhold, hxconfig]; exact hin)
      rw [hxlim, hcomparators, hshed, halim] at hstill
      exact hstill

end Sys2Proof.Machine
end

section
/-! PROOFS. The profile cursors: the records of a window, and the placements (R136 to R140). -/

namespace Sys2Proof.Machine

open Sys2Proof

/-! ## The records of a window -/

section
variable {l : ProfileLog} {w : Option (Seq × Seq)}

/-- The oldest record of a window is the one with none of the window before it. -/
theorem oldestIn_eq {i : Nat} (hi : i < l.records.length) (hin : inWindow w l.records[i].sequence = true)
    (hfirst : ∀ r ∈ l.records.take i, inWindow w r.sequence = false) : l.oldestIn w = some l.records[i].sequence := by
  have hsplit : l.records = l.records.take i ++ l.records[i] :: l.records.drop (i + 1) := by
    rw [List.getElem_cons_drop, List.take_append_drop]
  have hfind : l.records.find? (fun r => inWindow w r.sequence) = some l.records[i] := by
    rw [List.find?_eq_some_iff_append]
    exact ⟨hin, _, _, hsplit, fun r hr => by rw [hfirst r hr]; rfl⟩
  rw [ProfileLog.oldestIn, hfind]
  rfl

/-- The newest record of a window is the one with none of the window after it. -/
theorem newestIn_eq {i : Nat} (hi : i < l.records.length) (hin : inWindow w l.records[i].sequence = true)
    (hlast : ∀ r ∈ l.records.drop (i + 1), inWindow w r.sequence = false) : l.newestIn w = some l.records[i].sequence := by
  have hsplit : l.records.reverse = (l.records.drop (i + 1)).reverse ++ l.records[i] :: (l.records.take i).reverse := by
    conv_lhs => rw [← List.take_append_drop i l.records, ← List.getElem_cons_drop (h := hi)]
    simp
  have hfind : l.records.reverse.find? (fun r => inWindow w r.sequence) = some l.records[i] := by
    rw [List.find?_eq_some_iff_append]
    exact ⟨hin, _, _, hsplit, fun r hr => by rw [hlast r (List.mem_reverse.mp hr)]; rfl⟩
  rw [ProfileLog.newestIn, hfind]
  rfl

theorem oldestIn_none (h : ∀ r ∈ l.records, inWindow w r.sequence = false) : l.oldestIn w = none := by
  rw [ProfileLog.oldestIn, List.find?_eq_none.mpr (fun r hr => by rw [h r hr]; decide)]
  rfl

theorem newestIn_none (h : ∀ r ∈ l.records, inWindow w r.sequence = false) : l.newestIn w = none := by
  rw [ProfileLog.newestIn, List.find?_eq_none.mpr (fun r hr => by rw [h r (List.mem_reverse.mp hr)]; decide)]
  rfl

theorem oldestIn_held {q : Seq} (h : l.oldestIn w = some q) : heldIn l.records q = true ∧ inWindow w q = true := by
  obtain ⟨r, hr, rfl⟩ := Option.map_eq_some_iff.mp h
  have hin := List.find?_some hr
  exact ⟨(heldIn_iff _ _).mpr ⟨r, List.mem_of_find?_eq_some hr, rfl⟩, hin⟩

theorem newestIn_held {q : Seq} (h : l.newestIn w = some q) : heldIn l.records q = true ∧ inWindow w q = true := by
  obtain ⟨r, hr, rfl⟩ := Option.map_eq_some_iff.mp h
  have hin := List.find?_some hr
  exact ⟨(heldIn_iff _ _).mpr ⟨r, List.mem_reverse.mp (List.mem_of_find?_eq_some hr), rfl⟩, hin⟩

theorem firstOf_forward {c : Cursor} (h : c.dir = .forward) : c.firstOf l = l.oldestIn c.window := by
  unfold Cursor.firstOf
  rw [h]

theorem firstOf_backward {c : Cursor} (h : c.dir = .backward) : c.firstOf l = l.newestIn c.window := by
  unfold Cursor.firstOf
  rw [h]

theorem firstOf_held {c : Cursor} {q : Seq} (h : c.firstOf l = some q) : heldIn l.records q = true ∧ inWindow c.window q = true := by
  unfold Cursor.firstOf at h
  split at h
  · exact oldestIn_held h
  · exact newestIn_held h

/-- Without a window the oldest and the newest record are the ends of the list. -/
theorem oldestIn_all : l.oldestIn none = l.records.head?.map LogRecord.sequence := by
  unfold ProfileLog.oldestIn
  cases l.records <;> rfl

theorem newestIn_all : l.newestIn none = l.records.getLast?.map LogRecord.sequence := by
  unfold ProfileLog.newestIn
  rw [← List.head?_reverse]
  cases l.records.reverse <;> rfl

theorem isBefore_iff {q : Seq} :
    l.isBefore q = true ↔ ∃ r, l.records.head? = some r ∧ 2 ^ 31 ≤ (q - r.sequence).toNat := by
  unfold ProfileLog.isBefore
  rw [oldestIn_all]
  cases l.records.head? <;> simp

end

/-! ## Placements -/

/-- A cursor with no record to stand on (R139, R140). -/
theorem placeNowhere_eq (c : Cursor) (l : ProfileLog) : c.placeNowhere l = l.nowhere c := by
  have hedge : l.edge = (l.records.getLast?).elim l.nextSeq LogRecord.sequence := by
    rw [ProfileLog.edge, newestIn_all]
    cases l.records.getLast? <;> rfl
  rw [Cursor.placeNowhere, hedge]
  rfl

/-- A cursor that stands where the log has a place for it. -/
def Cursor.Placed (c : Cursor) (l : ProfileLog) : Prop :=
  c.state = .atRecord ∧ heldIn l.records c.position = true ∨ c.state = .atEnd ∧ c.position = l.nextSeq ∨ c.state = .atEdge

theorem placeOn_placed {c : Cursor} {l : ProfileLog} {target : Option Seq} (h : ∀ q ∈ target, heldIn l.records q = true) :
    (c.placeOn l target).Placed l := by
  cases target with
  | some q => exact .inl ⟨rfl, h q rfl⟩
  | none =>
    show (c.placeNowhere l).Placed l
    unfold Cursor.placeNowhere
    split_ifs
    · exact .inr (.inl ⟨rfl, rfl⟩)
    · exact .inr (.inr rfl)

theorem nearest_held {c : Cursor} {l : ProfileLog} {q r : Seq} (h : c.nearest l q = some r) : heldIn l.records r = true := by
  unfold Cursor.nearest at h
  split_ifs at h with hheld
  · exact Option.some.inj h ▸ hheld
  · exact (oldestIn_held h).1
  · exact (newestIn_held h).1

section
variable {p : Port} {c : Cursor} {s : State}

theorem placeChecked_of_placed (h : c.Placed s.log) : placeChecked p c s = s.setPort p { s.port p with cursor := c } := by
  unfold placeChecked
  rcases h with ⟨hstate, hheld⟩ | ⟨hstate, hpos⟩ | hstate
  · rw [hstate]; exact if_pos hheld
  · rw [hstate]; exact if_pos hpos
  · rw [hstate]

/-- A placement at the end whose sequence has been given to a record stands on it (R135). -/
theorem placeChecked_written (hstate : c.state = .atEnd) (hpos : c.position ≠ s.log.nextSeq)
    (hheld : heldIn s.log.records c.position = true) :
    placeChecked p c s = s.setPort p { s.port p with cursor := { c with state := .atRecord } } := by
  unfold placeChecked
  rw [hstate]
  exact (if_neg hpos).trans (if_pos hheld)

/-- A placement whose record has been removed goes to OVERRUN (R135). -/
theorem placeChecked_lost (h : c.state = .atRecord ∨ c.state = .atEnd ∧ c.position ≠ s.log.nextSeq)
    (hheld : heldIn s.log.records c.position = false) : placeChecked p c s = s.setPort p { s.port p with
      cursor := { c with state := .overrun }, attn := (s.port p).attn.raise .logOverrun } := by
  have hlost : ¬ heldIn s.log.records c.position = true := by rw [hheld]; decide
  unfold placeChecked
  rcases h with hstate | ⟨hstate, hpos⟩
  · rw [hstate]; exact if_neg hlost
  · rw [hstate]; exact (if_neg hpos).trans (if_neg hlost)

theorem endReading_cursor (reply : List Byte) (e : ReadEffect) (k : Nat) :
    ((endReading p reply e k s).port p).cursor = ((applyEffect p e k s).port p).cursor := by
  simp [endReading, PortState.endRead]

/-- A placement taken at the rise of select, once its bytes were clocked out (R139, R140). -/
theorem applyEffect_place (n k : Nat) (h : c.Placed s.log) :
    ((applyEffect p (.place n c) k s).port p).cursor = (if n ≤ k then c else (s.port p).cursor)
      ∧ ((applyEffect p (.place n c) k s).port p).attn = (s.port p).attn := by
  unfold applyEffect
  dsimp only
  split_ifs
  · rw [placeChecked_of_placed h, State.setPort_port]
    exact ⟨rfl, rfl⟩
  · exact ⟨rfl, rfl⟩

end

end Sys2Proof.Machine
end

section
/-! PROOFS. The cursor commands (R139, R140). -/

namespace Sys2Proof.Machine

open Sys2Proof

/-! ## The answers of the cursor commands (R139, R140) -/

section
variable {p : Port} {s : State}

/-- A READ-class command that is answered outside Hold (R161). -/
theorem exec_read_answered {i : Instr} {code : Byte} {args : List Byte} (h : s.TakesPort p)
    (hbytes : readBytes i = some (p, code, args)) (hcode : code ≠ 0x21) {a : Answer} (ha : answerOf i s = unlessHold s a) :
    exec i s = .next (s.answered p code a.result (if a.result = .ok then a.data else []) a.effect) := by
  have hanswer : answerOf i s = a := ha.trans (if_neg (by rw [h.2]; decide))
  rw [exec_of_readBytes hbytes hcode, hanswer, snapshotRead_answered h.1]

theorem byteField_eq (n : Nat) : byteField n = [BitVec.ofNat 8 n] := by
  simp [byteField, beBytes]

theorem Direction.ofCode_eq {d : Byte} {dir : Direction} (h : d.toNat = dir.code) : Direction.ofCode d = some dir := by
  unfold Direction.ofCode
  rw [h]
  cases dir <;> rfl

/-- The cursor that Set Profile Cursor takes, by its target (R139). -/
theorem cursorTarget_eq (l : ProfileLog) (c : Cursor) {d tg : Byte} {dir : Direction} {q : Seq} (hd : d.toNat = dir.code) :
    (tg.toNat = 0 → cursorTarget l c d tg q = some (({ c with dir := dir } : Cursor).placeOn l (l.oldestIn c.window)))
      ∧ (tg.toNat = 1 → cursorTarget l c d tg q = some (({ c with dir := dir } : Cursor).placeOn l (l.newestIn c.window)))
      ∧ (tg.toNat = 2 → inWindow c.window q = true →
          cursorTarget l c d tg q = some (({ c with dir := dir } : Cursor).placeOn l (c.nearest l q))) := by
  unfold cursorTarget
  rw [Direction.ofCode_eq hd]
  refine ⟨fun h => by rw [h]; rfl, fun h => by rw [h]; rfl, fun h hq => ?_⟩
  rw [h]
  exact if_pos hq

theorem Direction.exists_code {d : Byte} (h : d.toNat ≤ 1) : ∃ dir : Direction, d.toNat = dir.code := by
  rcases Nat.le_one_iff_eq_zero_or_eq_one.mp h with h | h
  · exact ⟨.forward, h⟩
  · exact ⟨.backward, h⟩

/-- What Set Profile Cursor takes without a refusal is a placement of its target (R139). -/
theorem cursorTarget_taken {l : ProfileLog} {c : Cursor} {d tg : Byte} {dir : Direction} {q : Seq} (hd : d.toNat = dir.code)
    (htg : tg.toNat ≤ 1 ∨ tg.toNat = 2 ∧ inWindow c.window q = true) :
    ∃ target, cursorTarget l c d tg q = some (({ c with dir := dir } : Cursor).placeOn l target)
      ∧ (∀ r ∈ target, heldIn l.records r = true)
      ∧ (tg.toNat = 0 → target = l.oldestIn c.window) ∧ (tg.toNat = 1 → target = l.newestIn c.window)
      ∧ (tg.toNat = 2 → target = c.nearest l q) := by
  obtain ⟨hzero, hone, htwo⟩ := cursorTarget_eq l c (tg := tg) (q := q) hd
  rcases htg with hle | ⟨h2, hq⟩
  · rcases Nat.le_one_iff_eq_zero_or_eq_one.mp hle with h | h
    · exact ⟨_, hzero h, fun r hr => (oldestIn_held hr).1, fun _ => rfl, by omega, by omega⟩
    · exact ⟨_, hone h, fun r hr => (newestIn_held hr).1, by omega, fun _ => rfl, by omega⟩
  · exact ⟨_, htwo h2 hq, fun r hr => nearest_held hr, by omega, by omega, fun _ => rfl⟩

theorem cursorTarget_refused {l : ProfileLog} {c : Cursor} {d tg : Byte} {q : Seq}
    (h : 1 < d.toNat ∨ 2 < tg.toNat ∨ (tg.toNat = 2 ∧ inWindow c.window q = false)) : cursorTarget l c d tg q = none := by
  by_cases hd : 1 < d.toNat
  · have hdir : Direction.ofCode d = none := by
      unfold Direction.ofCode
      split
      next h0 => omega
      next h1 => omega
      next => rfl
    unfold cursorTarget
    rw [hdir]
  · obtain ⟨dir, hdir⟩ := Direction.exists_code (Nat.not_lt.mp hd)
    unfold cursorTarget
    rw [Direction.ofCode_eq hdir]
    rcases h.resolve_left hd with htg | ⟨htg, hq⟩
    · split
      next h0 => omega
      next h1 => omega
      next h2 => omega
      next => rfl
    · rw [htg]
      exact if_neg (by rw [hq]; decide)

theorem setCursorAnswer_taken {d tg : Byte} {q : Seq} {c : Cursor} (h : cursorTarget s.log (s.port p).cursor d tg q = some c) :
    setCursorAnswer p d tg q s = if s.log.clearBusy then .refuse .busy
      else { result := .ok, data := seqField c.position ++ byteField c.state.code, effect := .place 2 c } := by
  unfold setCursorAnswer
  rw [h]

theorem windowOfCode_eq {k : Byte} {low high : Seq} (hk : k.toNat ≤ 1) :
    windowOfCode k low high = some (if k.toNat = 0 then none else some (low, high)) := by
  unfold windowOfCode
  rcases Nat.le_one_iff_eq_zero_or_eq_one.mp hk with h | h <;> rw [h] <;> rfl

theorem windowOfCode_refused {k : Byte} {low high : Seq} (hk : 1 < k.toNat) : windowOfCode k low high = none := by
  unfold windowOfCode
  split
  next h0 => omega
  next h1 => omega
  next => rfl

theorem setWindowAnswer_taken {k : Byte} {low high : Seq} {w : Option (Seq × Seq)} (h : windowOfCode k low high = some w) :
    setWindowAnswer p k low high s = if s.log.clearBusy then .refuse .busy
      else { result := .ok, data := [], effect := .place 2 ((s.port p).cursor.inNewWindow s.log w) } := by
  unfold setWindowAnswer
  rw [h]

theorem exec_setProfileCursor {d tg : Byte} {q : Seq} {a : Answer} (h : s.TakesPort p) (ha : setCursorAnswer p d tg q s = a) :
    exec (.setProfileCursor p d tg q) s
      = .next (s.answered p 0x1F a.result (if a.result = .ok then a.data else []) a.effect) :=
  exec_read_answered (i := .setProfileCursor p d tg q) h rfl (by decide) (congrArg (unlessHold s) ha)

theorem exec_setProfileWindow {k : Byte} {low high : Seq} {a : Answer} (h : s.TakesPort p)
    (ha : setWindowAnswer p k low high s = a) : exec (.setProfileWindow p k low high) s
      = .next (s.answered p 0x20 a.result (if a.result = .ok then a.data else []) a.effect) :=
  exec_read_answered (i := .setProfileWindow p k low high) h rfl (by decide) (congrArg (unlessHold s) ha)

/-- The rise of select after a placement taken from an answer: with tag and result clocked out the cursor is placed, and
otherwise it stands as it was (R139, R140). -/
theorem exec_selectRise_placing (hmain : s.sup.mainSupply = true) {c : Cursor} (hc : c.Placed s.log) (code : Byte)
    (data bytes : List Byte) (k : Nat) (x f : Bool) : ∃ u,
    exec (.selectRise p bytes k x f) (s.answered p code .ok data (.place 2 c)) = .next u ∧ (u.port p).tx = .idle
      ∧ (u.port p).cursor = (if 2 ≤ bytes.length then c else (s.port p).cursor)
      ∧ (u.port p).attn = ((s.answered p code .ok data (.place 2 c)).port p).attn := by
  set t := s.answered p code .ok data (.place 2 c) with ht
  have hlog : t.log = s.log := by simp [ht, State.answered]
  have hcursor : (t.port p).cursor = (s.port p).cursor := by simp [ht, State.answered]
  obtain ⟨hplaced, hattn⟩ := applyEffect_place (p := p) (s := t) 2 bytes.length (hlog.symm ▸ hc)
  refine ⟨_, exec_selectRise_replying (by rwa [State.answered_sup]) (State.answered_tx ..) bytes k x f, endReading_tx .., ?_, ?_⟩
  · rw [endReading_cursor, hplaced, hcursor]
  · rw [endReading_attn, hattn]

end

/-- Settles O49: the targets by `oldestIn_eq`, `newestIn_eq` and `Cursor.nearest`, the placement by `placeChecked`. -/
theorem cursorCommandsPlace : Obligations.CursorCommandsPlace := by
  unfold Obligations.CursorCommandsPlace
  refine ⟨fun p s htakes => ⟨fun d tg q hbad => ?_, fun k a b hbad => ?_, fun hbusy => ⟨fun d tg q hd htg => ?_, fun k a b hk => ?_⟩⟩,
    fun p d tg dir q s htakes hfree hd htg => ?_, fun p k low high s htakes hfree hk => ?_,
    fun p code reply n c bytes k x f s hmain htx hlong => ?_⟩
  · have hanswer : setCursorAnswer p d tg q s = .refuse .range := by
      unfold setCursorAnswer
      rw [cursorTarget_refused hbad]
    exact exec_setProfileCursor htakes hanswer
  · have hanswer : setWindowAnswer p k a b s = .refuse .range := by
      unfold setWindowAnswer
      rw [windowOfCode_refused hbad]
    exact exec_setProfileWindow htakes hanswer
  · obtain ⟨dir, hdir⟩ := Direction.exists_code hd
    obtain ⟨target, htaken, -⟩ := cursorTarget_taken (l := s.log) hdir htg
    have hanswer : setCursorAnswer p d tg q s = .refuse .busy := by rw [setCursorAnswer_taken htaken, if_pos hbusy]
    exact exec_setProfileCursor htakes hanswer
  · have hanswer : setWindowAnswer p k a b s = .refuse .busy := by
      rw [setWindowAnswer_taken (windowOfCode_eq hk), if_pos hbusy]
    exact exec_setProfileWindow htakes hanswer
  · intro w
    obtain ⟨target, htaken, hheld, hzero, hone, htwo⟩ := cursorTarget_taken (l := s.log) hd htg
    set c := ({ (s.port p).cursor with dir := dir } : Cursor).placeOn s.log target with hc
    have hanswer : setCursorAnswer p d tg q s
        = { result := .ok, data := seqField c.position ++ byteField c.state.code, effect := .place 2 c } := by
      rw [setCursorAnswer_taken htaken, if_neg (by rw [hfree]; decide)]
    have hon : ∀ r, target = some r → c = ⟨r, .atRecord, dir, w⟩ := fun r hr => by rw [hc, hr]; rfl
    refine ⟨_, c, exec_setProfileCursor htakes hanswer, ?_, fun hnone => ?_,
      fun i hi hin => ?_, fun bytes k x f => ?_⟩
    · rw [if_pos rfl, byteField_eq]; rfl
    · have htarget : target = none := by
        rcases htg with hle | ⟨h2, hq⟩
        · rcases Nat.le_one_iff_eq_zero_or_eq_one.mp hle with h | h
          · rw [hzero h]; exact oldestIn_none hnone
          · rw [hone h]; exact newestIn_none hnone
        · rw [htwo h2, Cursor.nearest, if_neg, oldestIn_none hnone, newestIn_none hnone, ite_self]
          intro hqheld
          obtain ⟨r, hr, rfl⟩ := (heldIn_iff _ _).mp hqheld
          exact absurd ((hnone r hr).symm.trans hq) (by decide)
      rw [hc, htarget]
      exact placeNowhere_eq _ _
    · refine ⟨fun h hfirst => hon _ ((hzero h).trans (oldestIn_eq hi hin hfirst)),
        fun h hlast => hon _ ((hone h).trans (newestIn_eq hi hin hlast)), fun h hq => hon _ ?_, fun h hgone => ?_⟩
      · rw [htwo h, Cursor.nearest, hq, if_pos ((heldIn_iff _ _).mpr ⟨_, List.getElem_mem hi, rfl⟩)]
      · have hnot : ¬ heldIn s.log.records q = true := fun hqheld => by
          obtain ⟨r, hr, hrq⟩ := (heldIn_iff _ _).mp hqheld
          exact hgone r hr hrq
        refine ⟨fun hbefore hfirst => hon _ ?_, fun hbefore hlast => hon _ ?_⟩
        · rw [htwo h, Cursor.nearest, if_neg hnot, if_pos (isBefore_iff.mpr hbefore)]
          exact oldestIn_eq hi hin hfirst
        · rw [htwo h, Cursor.nearest, if_neg hnot, if_neg (fun hb => hbefore (isBefore_iff.mp hb))]
          exact newestIn_eq hi hin hlast
    · rw [if_pos rfl]
      exact exec_selectRise_placing htakes.1.1 (placeOn_placed hheld) _ _ bytes k x f
  · intro w dir
    set c := (s.port p).cursor.inNewWindow s.log w with hc
    have hanswer : setWindowAnswer p k low high s = { result := .ok, data := [], effect := .place 2 c } := by
      rw [setWindowAnswer_taken (windowOfCode_eq hk), if_neg (by rw [hfree]; decide)]
    have hplaced : c = ({ (s.port p).cursor with window := w } : Cursor).placeOn s.log
        (({ (s.port p).cursor with window := w } : Cursor).firstOf s.log) := rfl
    have hheld : ∀ r ∈ ({ (s.port p).cursor with window := w } : Cursor).firstOf s.log, heldIn s.log.records r = true :=
      fun r hr => (firstOf_held hr).1
    have hon : ∀ r, ({ (s.port p).cursor with window := w } : Cursor).firstOf s.log = some r → c = ⟨r, .atRecord, dir, w⟩ :=
      fun r hr => by rw [hplaced, hr]; rfl
    refine ⟨_, c, exec_setProfileWindow htakes hanswer, rfl, fun hnone => ?_,
      fun i hi hin => ⟨fun hdir hfirst => hon _ ?_, fun hdir hlast => hon _ ?_⟩, fun bytes n x f =>
        exec_selectRise_placing htakes.1.1 (hplaced ▸ placeOn_placed hheld) _ _ bytes n x f⟩
    · have hfirst : ({ (s.port p).cursor with window := w } : Cursor).firstOf s.log = none := by
        unfold Cursor.firstOf
        split
        · exact oldestIn_none hnone
        · exact newestIn_none hnone
      rw [hplaced, hfirst]
      exact placeNowhere_eq _ _
    · exact (firstOf_forward (c := { (s.port p).cursor with window := w }) hdir).trans (oldestIn_eq hi hin hfirst)
    · exact (firstOf_backward (c := { (s.port p).cursor with window := w }) hdir).trans (newestIn_eq hi hin hlast)
  · have happly : applyEffect p (.place n c) bytes.length s = placeChecked p c s := if_pos hlong
    refine ⟨_, exec_selectRise_replying hmain htx bytes k x f, endReading_tx .., fun h => ?_, fun ⟨hstate, hpos, hheld⟩ => ?_,
      fun ⟨hstate, hheld⟩ => ?_⟩
    · rw [endReading_cursor, endReading_attn, happly, placeChecked_of_placed h, State.setPort_port]
      exact ⟨rfl, rfl⟩
    · rw [endReading_cursor, endReading_attn, happly, placeChecked_written hstate hpos hheld, State.setPort_port]
      exact ⟨rfl, rfl⟩
    · rw [endReading_cursor, endReading_attn, happly, placeChecked_lost hstate hheld, State.setPort_port]
      exact ⟨rfl, by rw [AttentionUnit.has_raise]; simp⟩

end Sys2Proof.Machine
end

section
/-! PROOFS. Read Profile: the walk of a cursor through the log, and the words of a record (R136 to R138, R192). -/

namespace Sys2Proof.Machine

open Sys2Proof

/-! ## The words of a record (R192) -/

theorem beBytes_mod (v : Nat) : beBytes 4 (v % 2 ^ 32) = beBytes 4 v := by
  have hbyte : ∀ k, k < 4 → BitVec.ofNat 8 (v % 2 ^ 32 / 256 ^ k) = BitVec.ofNat 8 (v / 256 ^ k) := fun k hk => by
    apply BitVec.eq_of_toNat_eq
    rw [BitVec.toNat_ofNat, BitVec.toNat_ofNat]
    interval_cases k <;> omega
  simp only [beBytes]
  rw [hbyte 3 (by omega), hbyte 2 (by omega), hbyte 1 (by omega), hbyte 0 (by omega)]

theorem toNat_append_eq {m n : Nat} (x : BitVec m) (y : BitVec n) : (x ++ y).toNat = x.toNat * 2 ^ n + y.toNat := by
  rw [BitVec.toNat_append, ← Nat.shiftLeft_add_eq_or_of_lt y.isLt, Nat.shiftLeft_eq]

theorem RecordKind.typeCode_lt (k : RecordKind) : k.typeCode < 16 := by
  cases k with
  | data mask => exact mask.isLt
  | _ => decide

theorem firstWord_toNat {b : LogBody} (h : b.payload.length ≤ 20) : b.firstWord.toNat
    = b.kind.kindCode * 2 ^ 28 + (4 + b.payload.length) * 2 ^ 23 + b.kind.typeCode * 2 ^ 19 + b.rate.number * 2 ^ 16
      + b.status.toNat := by
  have hkind : b.kind.kindCode ≤ 2 := by cases b.kind <;> simp [RecordKind.kindCode]
  have htype := b.kind.typeCode_lt
  have hrate : b.rate.number ≤ 6 := by cases b.rate <;> decide
  have hstatus : b.status.toNat < 2 ^ 15 := b.status.isLt
  unfold LogBody.firstWord LogBody.words
  simp only [toNat_append_eq, BitVec.toNat_ofNat]
  omega

theorem logRecordBytes_eq {r : LogRecord} (h : r.body.payload.length ≤ 20) : logRecordBytes r
    = beBytes 4 (r.body.kind.kindCode * 2 ^ 28 + (4 + r.body.payload.length) * 2 ^ 23 + r.body.kind.typeCode * 2 ^ 19
        + r.body.rate.number * 2 ^ 16 + r.body.status.toNat)
      ++ beBytes 4 r.sequence.toNat ++ beBytes 4 r.body.stamp.day ++ beBytes 4 r.body.stamp.sec
      ++ r.body.payload.flatMap (fun w => beBytes 4 w.toNat) := by
  have hpayload : (r.body.payload.map fun w => beBytes 4 w.toNat).flatten = r.body.payload.flatMap fun w => beBytes 4 w.toNat :=
    List.flatMap_def.symm
  unfold logRecordBytes LogRecord.toWords
  rw [List.map_append, List.flatten_append, hpayload, ← firstWord_toNat h]
  simp only [List.map_cons, List.map_nil, List.flatten_cons, List.flatten_nil, BitVec.toNat_ofNat, List.append_nil, beBytes_mod,
    List.append_assoc]

/-! ## Windows -/

theorem inWindow_iff (w : Option (Seq × Seq)) (q : Seq) : inWindow w q = true ↔ match w with
    | none => True
    | some x => (x.1.toNat ≤ x.2.toNat ∧ x.1.toNat ≤ q.toNat ∧ q.toNat ≤ x.2.toNat)
        ∨ (x.2.toNat < x.1.toNat ∧ (x.1.toNat ≤ q.toNat ∨ q.toNat ≤ x.2.toNat)) := by
  cases w with
  | none => simp [inWindow]
  | some x =>
    obtain ⟨low, high⟩ := x
    have hlow := low.isLt
    have hhigh := high.isLt
    have hq := q.isLt
    simp only [inWindow, decide_eq_true_eq, BitVec.toNat_sub]
    omega

/-! ## The records of a safe log are consecutive (R127) -/

section
variable {l : ProfileLog} (h : l.Safe)
include h

theorem ProfileLog.Safe.length_le : l.records.length ≤ 4096 := by
  obtain ⟨hwords, -⟩ := h
  have hlen := four_mul_length_le_wordsOf l.records
  have hall : logWords = 16384 := rfl
  omega

theorem ProfileLog.Safe.getElem_sequence {i : Nat} (hi : i < l.records.length) :
    (l.records[i]).sequence = l.nextSeq - BitVec.ofNat 32 (l.records.length - i) := h.2.1 i hi

/-- A sequence names one record of the log. -/
theorem ProfileLog.Safe.sequence_inj {i j : Nat} (hi : i < l.records.length) (hj : j < l.records.length)
    (heq : (l.records[i]).sequence = (l.records[j]).sequence) : i = j := by
  have hlen := h.length_le
  rw [h.getElem_sequence hi, h.getElem_sequence hj] at heq
  have hnat := congrArg BitVec.toNat heq
  simp only [BitVec.toNat_sub, BitVec.toNat_ofNat] at hnat
  have hnext := l.nextSeq.isLt
  omega

theorem ProfileLog.Safe.sequence_succ {i : Nat} (hi : i + 1 < l.records.length) :
    (l.records[i + 1]).sequence = (l.records[i]).sequence + 1 := by
  have hlen := h.length_le
  rw [h.getElem_sequence hi, h.getElem_sequence (Nat.lt_of_succ_lt hi)]
  apply BitVec.eq_of_toNat_eq
  have hone : (1 : Seq).toNat = 1 := rfl
  simp only [BitVec.toNat_sub, BitVec.toNat_add, BitVec.toNat_ofNat, hone]
  have hnext := l.nextSeq.isLt
  omega

/-- The record at a cursor that stands on it. -/
theorem ProfileLog.Safe.find_sequence {i : Nat} (hi : i < l.records.length) :
    l.records.find? (fun r => r.sequence == (l.records[i]).sequence) = some l.records[i] := by
  rw [List.find?_eq_some_iff_getElem]
  refine ⟨beq_self_eq_true _, i, hi, rfl, fun j hj => ?_⟩
  have hne : (l.records[j]).sequence ≠ (l.records[i]).sequence := fun heq =>
    Nat.ne_of_lt hj (h.sequence_inj (Nat.lt_trans hj hi) hi heq)
  simpa using hne

theorem ProfileLog.Safe.newestIn_all_iff {i : Nat} (hi : i < l.records.length) :
    l.newestIn none = some (l.records[i]).sequence ↔ i + 1 = l.records.length := by
  have hlast : l.records.getLast? = some (l.records[l.records.length - 1]) := by
    rw [List.getLast?_eq_getElem?, List.getElem?_eq_getElem]
  rw [newestIn_all, hlast]
  refine ⟨fun heq => ?_, fun heq => ?_⟩
  · have hsame := h.sequence_inj (by omega) hi (Option.some.inj heq)
    omega
  · have hsame : l.records.length - 1 = i := by omega
    simp [hsame]

theorem ProfileLog.Safe.oldestIn_all_iff {i : Nat} (hi : i < l.records.length) :
    l.oldestIn none = some (l.records[i]).sequence ↔ i = 0 := by
  have hfirst : l.records.head? = some (l.records[0]) := by
    rw [List.head?_eq_getElem?, List.getElem?_eq_getElem]
  rw [oldestIn_all, hfirst]
  refine ⟨fun heq => (h.sequence_inj (by omega) hi (Option.some.inj heq)).symm, fun heq => ?_⟩
  subst heq
  rfl

end

end Sys2Proof.Machine
end

section
/-! PROOFS. The walk of Read Profile (R136 to R138). -/

namespace Sys2Proof.Machine

open Sys2Proof

/-! ## Records and cursors in step (R137) -/

/-- The records from a position on, in a direction. -/
def ProfileLog.span (l : ProfileLog) (dir : Direction) (i : Nat) : List LogRecord :=
  if dir = .forward then l.records.drop i else (l.records.take (i + 1)).reverse

/-- The sequence at which a window ends, in a direction (R137). -/
def Cursor.lastSequence (c : Cursor) : Option Seq :=
  if c.dir = .forward then c.window.map Prod.snd else c.window.map Prod.fst

theorem after_congr {l : ProfileLog} {c d : Cursor} (hdir : d.dir = c.dir) (hwindow : d.window = c.window) (r : LogRecord) :
    l.after d r = l.after c r := by
  unfold ProfileLog.after
  rw [hdir, hwindow]

theorem after_dir (l : ProfileLog) (c : Cursor) (r : LogRecord) : (l.after c r).dir = c.dir ∧ (l.after c r).window = c.window := by
  unfold ProfileLog.after
  split
  · split_ifs <;> exact ⟨rfl, rfl⟩
  · split_ifs <;> exact ⟨rfl, rfl⟩

theorem windowEnd_iff (x : Seq × Seq → Seq) (w : Option (Seq × Seq)) (q : Seq) :
    w.any (fun w => x w == q) = true ↔ w.map x = some q := by
  cases w <;> simp

section
variable {l : ProfileLog} (h : l.Safe) {i : Nat} (hi : i < l.records.length)
include h

/-- A cursor on a record steps as the table of R137 says. -/
theorem stepped_eq {c : Cursor} (hstate : c.state = .atRecord) (hpos : c.position = (l.records[i]).sequence) :
    c.stepped l = l.after c l.records[i] := by
  have hat : c = { c with position := (l.records[i]).sequence, state := .atRecord } := by rw [← hpos, ← hstate]
  unfold Cursor.stepped ProfileLog.after
  cases c.dir with
  | forward =>
    dsimp only
    have hlast : l.newestIn none = some c.position ↔ l.records.getLast? = some l.records[i] := by
      rw [hpos, h.newestIn_all_iff hi, List.getLast?_eq_getElem?]
      refine ⟨fun heq => ?_, fun heq => ?_⟩
      · rw [← heq, Nat.add_sub_cancel, List.getElem?_eq_getElem hi]
      · obtain ⟨hlt, hget⟩ := List.getElem?_eq_some_iff.mp heq
        have hsame := h.sequence_inj hlt hi (congrArg LogRecord.sequence hget)
        omega
    simp only [windowEnd_iff Prod.snd, hlast]
    rw [hpos]
    split_ifs
    · rw [hat]
    · rfl
    · rw [hat]
  | backward =>
    dsimp only
    have hfirst : l.oldestIn none = some c.position ↔ l.records.head? = some l.records[i] := by
      rw [hpos, h.oldestIn_all_iff hi, List.head?_eq_getElem?]
      refine ⟨fun heq => ?_, fun heq => ?_⟩
      · subst heq
        exact List.getElem?_eq_getElem hi
      · obtain ⟨hlt, hget⟩ := List.getElem?_eq_some_iff.mp heq
        exact (h.sequence_inj hlt hi (congrArg LogRecord.sequence hget)).symm
    simp only [windowEnd_iff Prod.fst, hfirst]
    rw [hpos]
    by_cases hend : c.window.map Prod.fst = some (l.records[i]).sequence
    · rw [if_pos hend, if_pos (.inl hend), hat]
    · rw [if_neg hend]
      by_cases hhead : l.records.head? = some l.records[i]
      · rw [if_pos hhead, if_pos (.inr hhead), hat]
      · rw [if_neg hhead, if_neg (by rw [not_or]; exact ⟨hend, hhead⟩), hat]

end

theorem readRecords_of_not_at {l : ProfileLog} {c : Cursor} (h : c.state ≠ .atRecord) (n : Nat) : readRecords l n c = [] := by
  cases n with
  | zero => rfl
  | succ n => exact if_neg h

theorem upTo_nil (edge : Option Seq) : upTo edge [] = [] := rfl

theorem upTo_cons (edge : Option Seq) (r : LogRecord) (rest : List LogRecord) :
    upTo edge (r :: rest) = if edge = some r.sequence then [r] else r :: upTo edge rest := rfl

theorem span_forward {l : ProfileLog} {i : Nat} (hi : i < l.records.length) :
    l.span .forward i = l.records[i] :: l.span .forward (i + 1) := by
  simp only [ProfileLog.span, if_true]
  exact (List.getElem_cons_drop hi).symm

theorem span_backward {l : ProfileLog} {i : Nat} (hi : i < l.records.length) :
    l.span .backward i = l.records[i] :: (l.records.take i).reverse := by
  simp only [ProfileLog.span, reduceCtorEq, if_false]
  rw [List.take_succ_eq_append_getElem hi, List.reverse_append]
  rfl

/-- After a record a cursor stands at the edge of its window, at the end of the log in its direction, or on the next
record of its span (R137). -/
theorem after_cases {l : ProfileLog} (h : l.Safe) {i : Nat} (hi : i < l.records.length) (c : Cursor) :
    (c.lastSequence = some (l.records[i]).sequence ∧ (l.after c l.records[i]).state = .atEdge)
      ∨ (c.lastSequence ≠ some (l.records[i]).sequence ∧ l.span c.dir i = [l.records[i]]
          ∧ (l.after c l.records[i]).Placed l ∧ (l.after c l.records[i]).state ≠ .atRecord)
      ∨ (c.lastSequence ≠ some (l.records[i]).sequence ∧ ∃ j, ∃ hj : j < l.records.length,
          l.span c.dir i = l.records[i] :: l.span c.dir j
            ∧ l.after c l.records[i] = { c with position := (l.records[j]).sequence, state := .atRecord }) := by
  unfold Cursor.lastSequence ProfileLog.after
  cases c.dir with
  | forward =>
    simp only [if_true]
    by_cases hend : c.window.map Prod.snd = some (l.records[i]).sequence
    · exact .inl ⟨hend, by rw [if_pos hend]⟩
    · rw [if_neg hend, span_forward hi]
      by_cases hmore : i + 1 < l.records.length
      · have hnot : l.records.getLast? ≠ some l.records[i] := fun heq => by
          have hnew : l.newestIn none = some (l.records[i]).sequence := by rw [newestIn_all, heq]; rfl
          have := (h.newestIn_all_iff hi).mp hnew
          omega
        exact .inr (.inr ⟨hend, i + 1, hmore, rfl, by rw [if_neg hnot, h.sequence_succ hmore]⟩)
      · have hlen : i + 1 = l.records.length := by omega
        have hnew : l.records.getLast? = some l.records[i] := by
          rw [List.getLast?_eq_getElem?, ← hlen, Nat.add_sub_cancel, List.getElem?_eq_getElem hi]
        refine .inr (.inl ⟨hend, ?_, ?_⟩)
        · simp only [ProfileLog.span, if_true, hlen, List.drop_length]
        · rw [if_pos hnew]
          exact ⟨.inr (.inl ⟨rfl, rfl⟩), CursorState.noConfusion⟩
  | backward =>
    simp only [reduceCtorEq, if_false]
    by_cases hend : c.window.map Prod.fst = some (l.records[i]).sequence
    · exact .inl ⟨hend, by rw [if_pos (.inl hend)]⟩
    · rw [span_backward hi]
      cases i with
      | zero =>
        have hhead : l.records.head? = some l.records[0] := by rw [List.head?_eq_getElem?, List.getElem?_eq_getElem hi]
        refine .inr (.inl ⟨hend, rfl, ?_⟩)
        rw [if_pos (.inr hhead)]
        exact ⟨.inr (.inr rfl), CursorState.noConfusion⟩
      | succ i =>
        have hnot : l.records.head? ≠ some l.records[i + 1] := fun heq => by
          have hold : l.oldestIn none = some (l.records[i + 1]).sequence := by rw [oldestIn_all, heq]; rfl
          exact absurd ((h.oldestIn_all_iff hi).mp hold) (Nat.succ_ne_zero i)
        have hback : (l.records[i + 1]).sequence - 1 = (l.records[i]).sequence := by
          rw [h.sequence_succ hi, BitVec.add_sub_cancel]
        exact .inr (.inr ⟨hend, i, Nat.lt_of_succ_lt hi, rfl, by rw [if_neg (not_or.mpr ⟨hend, hnot⟩), hback]⟩)

/-- The records returned from a cursor on a record, each with the cursor after it, are those of the span up to the edge of
the window (R137). -/
theorem readRecords_eq {l : ProfileLog} (h : l.Safe) (n : Nat) {c : Cursor} {i : Nat} (hi : i < l.records.length)
    (hstate : c.state = .atRecord) (hpos : c.position = (l.records[i]).sequence) :
    readRecords l n c = ((upTo c.lastSequence (l.span c.dir i)).take n).map (fun r => (r, l.after c r)) := by
  induction n generalizing c i with
  | zero => simp [readRecords]
  | succ n ih =>
    have hfound : l.records.find? (fun r => r.sequence == c.position) = some l.records[i] := by
      rw [hpos]; exact h.find_sequence hi
    have hread : readRecords l (n + 1) c = (l.records[i], l.after c l.records[i]) :: readRecords l n (l.after c l.records[i]) := by
      rw [readRecords, if_pos hstate, hfound]
      dsimp only
      rw [stepped_eq h hi hstate hpos]
    rw [hread]
    rcases after_cases h hi c with ⟨hend, hstop⟩ | ⟨hend, hspan, -, hstop⟩ | ⟨hend, j, hj, hspan, hafter⟩
    · obtain ⟨rest, hspan⟩ : ∃ rest, l.span c.dir i = l.records[i] :: rest := by
        cases c.dir with
        | forward => exact ⟨_, span_forward hi⟩
        | backward => exact ⟨_, span_backward hi⟩
      rw [readRecords_of_not_at (by rw [hstop]; decide), hspan, upTo_cons, if_pos hend, List.take_succ_cons, List.take_nil]
      rfl
    · rw [readRecords_of_not_at hstop, hspan, upTo_cons, if_neg hend, upTo_nil, List.take_succ_cons, List.take_nil]
      rfl
    · have hlast : (l.after c l.records[i]).lastSequence = c.lastSequence := by rw [hafter]; rfl
      have hdir : (l.after c l.records[i]).dir = c.dir := by rw [hafter]
      have hwindow : (l.after c l.records[i]).window = c.window := by rw [hafter]
      rw [ih hj (by rw [hafter]) (by rw [hafter]), hlast, hdir, hspan, upTo_cons, if_neg hend, List.take_succ_cons, List.map_cons]
      exact congrArg _ (List.map_congr_left fun r _ => by rw [after_congr hdir hwindow])

/-- A cursor after a record of a safe log has a place in it. -/
theorem after_placed {l : ProfileLog} (h : l.Safe) {r : LogRecord} (hr : r ∈ l.records) (c : Cursor) : (l.after c r).Placed l := by
  obtain ⟨i, hi, rfl⟩ := List.getElem_of_mem hr
  rcases after_cases h hi c with ⟨-, hstop⟩ | ⟨-, -, hplaced, -⟩ | ⟨-, j, hj, -, hafter⟩
  · exact .inr (.inr hstop)
  · exact hplaced
  · rw [hafter]
    exact .inl ⟨rfl, (heldIn_iff _ _).mpr ⟨_, List.getElem_mem hj, rfl⟩⟩

theorem span_subset {l : ProfileLog} {dir : Direction} {i : Nat} {r : LogRecord} (hr : r ∈ l.span dir i) : r ∈ l.records := by
  unfold ProfileLog.span at hr
  split_ifs at hr
  · exact List.mem_of_mem_drop hr
  · exact List.mem_of_mem_take (List.mem_reverse.mp hr)

theorem upTo_prefix (edge : Option Seq) (xs : List LogRecord) : upTo edge xs <+: xs := by
  induction xs with
  | nil => exact List.prefix_refl _
  | cons r rest ih =>
    rw [upTo_cons]
    split_ifs
    · exact ⟨rest, rfl⟩
    · exact (List.prefix_cons_inj r).mpr ih

/-- The records up to a sequence end with it, or go on to the last. -/
theorem upTo_getLast {edge : Option Seq} {xs : List LogRecord} {r : LogRecord} (h : (upTo edge xs).getLast? = some r) :
    edge = some r.sequence ∨ xs.getLast? = some r := by
  induction xs with
  | nil => exact absurd h (by simp [upTo_nil])
  | cons x rest ih =>
    rw [upTo_cons] at h
    split_ifs at h with hend
    · obtain rfl : x = r := by simpa using h
      exact .inl hend
    · cases rest with
      | nil => exact .inr h
      | cons y rest =>
        have hne : upTo edge (y :: rest) ≠ [] := by
          rw [upTo_cons]; split_ifs <;> exact List.cons_ne_nil _ _
        rw [List.getLast?_cons_of_ne_nil hne] at h
        rw [List.getLast?_cons_cons]
        exact ih h

/-! ## The reply and its effect (R138) -/

/-- The cursor that a read of `k` bytes leaves, where the first `j` records were clocked out whole. -/
theorem advanceSteps_filter {steps : List (LogRecord × Cursor)} {before j k : Nat} (hj : j ≤ steps.length)
    (hin : j = 0 ∨ before + 4 * ((steps.take j).map (fun x => x.1.body.words)).sum ≤ k)
    (hout : j < steps.length → k < before + 4 * ((steps.take (j + 1)).map (fun x => x.1.body.words)).sum) :
    (advanceSteps before steps).filter (fun x => decide (x.1 ≤ k)) = advanceSteps before (steps.take j) := by
  induction steps generalizing before j with
  | nil => simp [advanceSteps]
  | cons x rest ih =>
    obtain ⟨r, c⟩ := x
    cases j with
    | zero =>
      have hlate := hout (Nat.succ_pos _)
      simp only [Nat.zero_add, List.take_succ_cons, List.take_zero, List.map_cons, List.map_nil, List.sum_cons, List.sum_nil,
        Nat.add_zero] at hlate
      have hnone := ih (before := before + 4 * r.body.words) (j := 0) (Nat.zero_le _) (.inl rfl) fun _ => by omega
      rw [advanceSteps, List.filter_cons_of_neg (by simp only [decide_eq_true_eq]; omega), hnone]
      simp [advanceSteps]
    | succ j =>
      have hsome := hin.resolve_left (Nat.succ_ne_zero j)
      simp only [List.take_succ_cons, List.map_cons, List.sum_cons] at hsome
      rw [List.length_cons] at hj hout
      have hrest := ih (before := before + 4 * r.body.words) (j := j) (by omega) (.inr (by omega)) fun hlt => by
        have hlate := hout (by omega)
        simp only [List.take_succ_cons, List.map_cons, List.sum_cons] at hlate
        omega
      rw [advanceSteps, List.filter_cons_of_pos (by simp only [decide_eq_true_eq]; omega), hrest, List.take_succ_cons, advanceSteps]

theorem advanceSteps_cursors (before : Nat) (steps : List (LogRecord × Cursor)) :
    (advanceSteps before steps).map Prod.snd = steps.map Prod.snd := by
  induction steps generalizing before with
  | nil => rfl
  | cons x rest ih =>
    obtain ⟨r, c⟩ := x
    rw [advanceSteps, List.map_cons, List.map_cons, ih]

end Sys2Proof.Machine
end

section
/-! PROOFS. Read Profile (R136 to R138). -/

namespace Sys2Proof.Machine

open Sys2Proof

theorem after_atEnd_iff (l : ProfileLog) (c : Cursor) (r : LogRecord) :
    (l.after c r).state = .atEnd ↔
      c.dir = .forward ∧ c.window.map Prod.snd ≠ some r.sequence ∧ l.records.getLast? = some r := by
  unfold ProfileLog.after
  cases c.dir with
  | forward => dsimp only; split_ifs <;> simp_all
  | backward => dsimp only; split_ifs <;> simp

section
variable {l : ProfileLog} {c : Cursor}

theorem readStart_of_at (h : c.state = .atRecord) : c.readStart l = c := if_neg (by rw [h]; decide)

/-- Out of OVERRUN a read sets out from the first record of its window (R136). -/
theorem readStart_of_overrun (h : c.state = .overrun) {q : Seq} (hfirst : c.firstOf l = some q) :
    c.readStart l = { c with position := q, state := .atRecord } := by
  rw [Cursor.readStart, if_pos h, Cursor.recovered, hfirst]

theorem readStart_lost (h : c.state = .overrun) (hnone : c.firstOf l = none) :
    c.readStart l = { c with position := l.edge, state := .atEdge } := by
  rw [Cursor.readStart, if_pos h, Cursor.recovered, hnone]

end

/-- A record is taken from a cursor that stands on one. -/
theorem upTo_cons_ne_nil (edge : Option Seq) (r : LogRecord) (rest : List LogRecord) : upTo edge (r :: rest) ≠ [] := by
  rw [upTo_cons]
  split_ifs <;> exact List.cons_ne_nil _ _

theorem span_cons {l : ProfileLog} {i : Nat} (hi : i < l.records.length) (dir : Direction) :
    ∃ rest, l.span dir i = l.records[i] :: rest := by
  cases dir with
  | forward => exact ⟨_, span_forward hi⟩
  | backward => exact ⟨_, span_backward hi⟩

/-- The status of a Read Profile (R136, R137). -/
theorem profileStatus_eq {l : ProfileLog} {i m : Nat} (hi : i < l.records.length) (found start : Cursor) :
    let taken := (upTo start.lastSequence (l.span start.dir i)).take m
    profileStatus found m start (taken.map fun r => (r, l.after start r))
      = if found.state = .overrun then 3 else if taken.length = m then 0
        else if start.dir = .forward ∧ taken.getLast?.map LogRecord.sequence ≠ start.lastSequence then 1 else 2 := by
  intro taken
  unfold profileStatus
  rw [List.length_map]
  by_cases hover : found.state = .overrun
  · rw [if_pos hover, if_pos hover]
  · rw [if_neg hover, if_neg hover]
    by_cases hfull : taken.length = m
    · rw [if_pos hfull, if_pos hfull]
    · rw [if_neg hfull, if_neg hfull]
      have hall : taken = upTo start.lastSequence (l.span start.dir i) := by
        have hlen : taken.length = min m (upTo start.lastSequence (l.span start.dir i)).length := List.length_take
        exact List.take_of_length_le (by omega)
      obtain ⟨rest, hspan⟩ := span_cons hi start.dir
      obtain ⟨r, hr⟩ : ∃ r, taken.getLast? = some r := by
        rw [hall, hspan]
        exact ⟨_, List.getLast?_eq_some_getLast (upTo_cons_ne_nil _ _ _)⟩
      have hlast : lastCursor start (taken.map fun r => (r, l.after start r)) = l.after start r := by
        rw [lastCursor, List.getLast?_map, hr]
        rfl
      have hends : (l.after start r).state = .atEnd ↔ start.dir = .forward ∧ start.lastSequence ≠ some r.sequence := by
        rw [after_atEnd_iff]
        refine and_congr_right fun hdir => ?_
        have hedge : start.lastSequence = start.window.map Prod.snd := if_pos hdir
        rw [← hedge]
        refine and_iff_left_of_imp fun hne => ?_
        have hgo := (upTo_getLast (hall ▸ hr)).resolve_left hne
        rw [hdir, ProfileLog.span, if_pos rfl, List.getLast?_drop, if_neg (Nat.not_le.mpr hi)] at hgo
        exact hgo
      have hseq : taken.getLast?.map LogRecord.sequence ≠ start.lastSequence ↔ start.lastSequence ≠ some r.sequence := by
        rw [hr]
        exact ⟨fun h heq => h heq.symm, fun h heq => h heq.symm⟩
      rw [hlast]
      by_cases h : start.dir = .forward ∧ start.lastSequence ≠ some r.sequence
      · rw [if_pos (hends.mpr h), if_pos ⟨h.1, hseq.mpr h.2⟩]
      · rw [if_neg (fun hat => h (hends.mp hat)), if_neg (fun hn => h ⟨hn.1, hseq.mp hn.2⟩)]

section
variable {p : Port} {s : State}

theorem exec_readProfile {n : Byte} (h : s.TakesPort p) (hfree : s.log.clearBusy = false) (hsome : s.log.records ≠ []) :
    exec (.readProfile p n) s = .next (s.answered p 0x1B .ok
      (1 :: (((readRecords s.log (profileCount n) ((s.port p).cursor.readStart s.log)).map fun x => logRecordBytes x.1).flatten
        ++ [profileStatus (s.port p).cursor (profileCount n) ((s.port p).cursor.readStart s.log)
          (readRecords s.log (profileCount n) ((s.port p).cursor.readStart s.log))]))
      (.advance (advanceSteps 3 (readRecords s.log (profileCount n) ((s.port p).cursor.readStart s.log))))) := by
  have hempty : ¬ s.log.records.isEmpty = true := fun h => hsome (List.isEmpty_iff.mp h)
  have hanswer : profileAnswer p n s = { result := .ok, data := _, effect := _ } := if_neg (by rw [hfree]; decide)
  refine (exec_read_answered (i := .readProfile p n) h rfl (by decide) (congrArg (unlessHold s) hanswer)).trans ?_
  rw [if_pos rfl, profileData, profileEffect, if_neg hempty, if_neg hempty]

/-- The rise of select after a Read Profile: the cursor is placed after the last record clocked out whole, and stands as it
was without one (R138). -/
theorem exec_selectRise_reading (hmain : s.sup.mainSupply = true) {c : Cursor} (hcursor : (s.port p).cursor = c)
    (data : List Byte) {taken : List LogRecord} {after : LogRecord → Cursor} (hplaced : ∀ r ∈ taken, (after r).Placed s.log)
    (bytes : List Byte) (k : Nat) (d f : Bool) {j : Nat} (hj : j ≤ taken.length)
    (hin : j = 0 ∨ 3 + 4 * ((taken.take j).map (fun r => r.body.words)).sum ≤ bytes.length)
    (hout : j < taken.length → bytes.length < 3 + 4 * ((taken.take (j + 1)).map (fun r => r.body.words)).sum) :
    ∃ u, exec (.selectRise p bytes k d f) (s.answered p 0x1B .ok data
        (.advance (advanceSteps 3 (taken.map fun r => (r, after r))))) = .next u
      ∧ (u.port p).cursor = (match (taken.take j).getLast? with
        | some r => after r
        | none => c)
      ∧ (u.port p).tx = .idle
      ∧ (u.port p).attn = ((s.answered p 0x1B .ok data (.advance (advanceSteps 3 (taken.map fun r => (r, after r))))).port p).attn
      ∧ u.log = s.log := by
  set steps := taken.map fun r => (r, after r) with hsteps
  set t := s.answered p 0x1B .ok data (.advance (advanceSteps 3 steps)) with ht
  have htlog : t.log = s.log := by simp [ht, State.answered]
  have htcursor : (t.port p).cursor = c := by rw [← hcursor]; simp [ht, State.answered]
  have hreached : reachedCursor (advanceSteps 3 steps) bytes.length = ((taken.take j).getLast?).map after := by
    have hwords : ∀ i, ((steps.take i).map fun x => x.1.body.words) = (taken.take i).map fun r => r.body.words := fun i => by
      rw [hsteps, ← List.map_take, List.map_map]
      rfl
    have hlen : steps.length = taken.length := List.length_map ..
    rw [reachedCursor, advanceSteps_filter (j := j) (by omega) (by rw [hwords]; exact hin) (by rw [hwords, hlen]; exact hout),
      ← List.getLast?_map, advanceSteps_cursors, hsteps, ← List.map_take, List.map_map, List.getLast?_map]
    rfl
  refine ⟨_, exec_selectRise_replying (by rwa [State.answered_sup]) (State.answered_tx ..) bytes k d f, ?_, endReading_tx .., ?_, ?_⟩
  · rw [endReading_cursor, applyEffect, hreached]
    cases hlast : (taken.take j).getLast? with
    | none => exact htcursor
    | some r =>
      have hr : r ∈ taken := List.mem_of_mem_take (List.mem_of_getLast? hlast)
      show ((placeChecked p (after r) t).port p).cursor = after r
      rw [placeChecked_of_placed (htlog.symm ▸ hplaced r hr), State.setPort_port]
  · rw [endReading_attn, applyEffect, hreached]
    cases hlast : (taken.take j).getLast? with
    | none => rfl
    | some r =>
      have hr : r ∈ taken := List.mem_of_mem_take (List.mem_of_getLast? hlast)
      show ((placeChecked p (after r) t).port p).attn = _
      rw [placeChecked_of_placed (htlog.symm ▸ hplaced r hr), State.setPort_port]
  · exact (endReading_log ..).trans htlog

end

/-- Settles O48: the records by `readRecords_eq`, the status by `profileStatus_eq`, and the cursor by
`exec_selectRise_reading`. -/
theorem readProfileWalksTheLog : Obligations.ReadProfileWalksTheLog := by
  unfold Obligations.ReadProfileWalksTheLog
  refine ⟨fun r hlen => ⟨rfl, logRecordBytes_eq hlen⟩, inWindow_iff, fun p n i s htakes hs hfree hi hin hstands => ?_,
    fun p n status s htakes hfree hsome hstands => ?_⟩
  · intro c m span edge taken
    set start := c.readStart s.log with hstart
    have hat : start = { c with position := (s.log.records[i]).sequence, state := .atRecord } := by
      rcases hstands with ⟨hstate, hpos⟩ | ⟨hstate, hdir, hfirst⟩ | ⟨hstate, hdir, hlast⟩
      · rw [hstart, readStart_of_at hstate, ← hpos, ← hstate]
      · exact readStart_of_overrun hstate ((firstOf_forward hdir).trans (oldestIn_eq hi hin hfirst))
      · exact readStart_of_overrun hstate ((firstOf_backward hdir).trans (newestIn_eq hi hin hlast))
    have hdir : start.dir = c.dir := by rw [hat]
    have hwindow : start.window = c.window := by rw [hat]
    have hlast : start.lastSequence = edge := by unfold Cursor.lastSequence; rw [hdir, hwindow]
    have hspan : s.log.span start.dir i = span := by rw [hdir]; rfl
    have hsteps : readRecords s.log m start = taken.map fun r => (r, s.log.after c r) := by
      rw [readRecords_eq hs m hi (by rw [hat]) (by rw [hat]), hlast, hspan]
      exact List.map_congr_left fun r _ => by rw [after_congr hdir hwindow]
    have hstatus := profileStatus_eq (m := m) hi c start
    dsimp only at hstatus
    rw [hlast, hspan, hdir] at hstatus
    have hmapped : ((upTo edge span).take m).map (fun r => (r, s.log.after start r)) = taken.map fun r => (r, s.log.after c r) :=
      List.map_congr_left fun r _ => by rw [after_congr hdir hwindow]
    rw [hmapped] at hstatus
    have hsome : s.log.records ≠ [] := List.ne_nil_of_length_pos (Nat.zero_lt_of_lt hi)
    have hexec := exec_readProfile (n := n) htakes hfree hsome
    have hread : readRecords s.log (profileCount n) ((s.port p).cursor.readStart s.log)
        = taken.map fun r => (r, s.log.after c r) := hsteps
    rw [hread, List.map_map] at hexec
    refine ⟨_, .advance (advanceSteps 3 (taken.map fun r => (r, s.log.after c r))), hexec, ?_, fun bytes k d f j hj hin hout => ?_⟩
    · refine congrArg (fun data => s.answered p 0x1B .ok (1 :: data) _) ?_
      refine congrArg₂ (fun x y => x ++ [y]) rfl ?_
      exact hstatus
    · exact exec_selectRise_reading htakes.1.1 rfl _
        (fun r hr => after_placed hs (span_subset (i := i) (dir := c.dir)
          ((upTo_prefix edge span).subset (List.mem_of_mem_take hr))) c) bytes k d f hj hin hout
  · set c := (s.port p).cursor with hc
    have hcount : profileCount n ≠ 0 := by unfold profileCount clampTo; omega
    have hstart : (c.readStart s.log).state ≠ .atRecord ∧ profileStatus c (profileCount n) (c.readStart s.log) [] = status := by
      have hnone : ∀ start : Cursor, lastCursor start [] = start := fun _ => rfl
      unfold profileStatus
      rw [hnone, List.length_nil, if_neg (Ne.symm hcount)]
      rcases hstands with ⟨hstate, rfl⟩ | ⟨hstate, rfl⟩ | ⟨hstate, rfl, hout⟩
      · have hkept : c.readStart s.log = c := if_neg (by rw [hstate]; decide)
        rw [hkept, hstate]
        exact ⟨by decide, rfl⟩
      · have hkept : c.readStart s.log = c := if_neg (by rw [hstate]; decide)
        rw [hkept, hstate]
        exact ⟨by decide, rfl⟩
      · have hfirst : c.firstOf s.log = none := by
          cases hdir : c.dir with
          | forward => rw [firstOf_forward hdir, oldestIn_none hout]
          | backward => rw [firstOf_backward hdir, newestIn_none hout]
        rw [readStart_lost hstate hfirst, if_pos hstate]
        exact ⟨CursorState.noConfusion, rfl⟩
    have hexec := exec_readProfile (n := n) htakes hfree hsome
    rw [readRecords_of_not_at hstart.1, ← hc, hstart.2] at hexec
    exact ⟨_, _, hexec, rfl, fun bytes k d f => exec_selectRise_reading (taken := []) (after := fun _ => c) htakes.1.1 rfl _
      (fun r hr => absurd hr List.not_mem_nil) bytes k d f (j := 0) (Nat.le_refl 0) (.inl rfl) (fun h => absurd h (Nat.lt_irrefl 0))⟩

end Sys2Proof.Machine
end

section
/-! PROOFS. The fields of the READ-class replies (R17, R44, R57, R60, R61, R81, R82, R120, R125, R144, R157, R173). -/

namespace Sys2Proof.Machine

open Sys2Proof

/-! ## Bytes (section 12.1) -/

theorem beBytes_length (n v : Nat) : (beBytes n v).length = n := by
  induction n with
  | zero => rfl
  | succ n ih => rw [beBytes, List.length_cons, ih]

theorem beBytes_getElem (n v k : Nat) (h : k < n) : (beBytes n v)[k]? = some (BitVec.ofNat 8 (v / 256 ^ (n - 1 - k))) := by
  induction n generalizing k with
  | zero => exact absurd h (Nat.not_lt_zero k)
  | succ n ih =>
    cases k with
    | zero => rfl
    | succ k =>
      rw [beBytes, List.getElem?_cons_succ, ih k (Nat.lt_of_succ_lt_succ h)]
      have hplace : n - 1 - k = n + 1 - 1 - (k + 1) := by omega
      rw [hplace]

theorem boolField_eq (b : Bool) : byteField (boolCode b) = [if b then 1 else 0] := by cases b <;> rfl

theorem onOffField_eq (b : Bool) : byteField (onOffCode b) = [if !b then 1 else 0] := by cases b <;> rfl

theorem boolCode_eq (b : Bool) : boolCode b = if b then 1 else 0 := rfl

theorem SyncMode.code_eq (x : SyncMode) : x.code = if x = .internal then 0 else 1 := by cases x <;> rfl
theorem RegisterMode.code_eq (x : RegisterMode) : x.code = if x = .rollover then 0 else 1 := by cases x <;> rfl
theorem Basis.code_eq (x : Basis) : x.code = if x = .kw then 0 else 1 := by cases x <;> rfl
theorem Polarity.code_eq (x : Polarity) : x.code = if x = .activeHigh then 0 else 1 := by cases x <;> rfl
theorem Direction.code_eq (x : Direction) : x.code = if x = .forward then 0 else 1 := by cases x <;> rfl

/-! ## Registers (R57) -/

theorem registerField_eq (cfg : Config) (a : Energy) : registerField cfg a =
    (match cfg.registerMode with
      | .rollover => beBytes 8 (a.toNat / 1000 % 10 ^ cfg.digits)
          ++ [BitVec.ofNat 8 (if 255 < a.toNat / 1000 / 10 ^ cfg.digits then 255 else a.toNat / 1000 / 10 ^ cfg.digits)]
      | .saturate => beBytes 8 (if a.toNat / 1000 ≤ 10 ^ cfg.digits - 1 then a.toNat / 1000 else 10 ^ cfg.digits - 1)
          ++ [BitVec.ofNat 8 0]) := by
  have hcount : ∀ x : Nat, min x 255 = if 255 < x then 255 else x := fun x => by split_ifs <;> omega
  have hshown : ∀ x m : Nat, min x m = if x ≤ m then x else m := fun x m => Nat.min_def
  unfold registerField energyField
  rw [byteField_eq]
  cases cfg.registerMode with
  | rollover => simp only [reportedValue, rolloverCount, whOf, hcount]
  | saturate => simp only [reportedValue, rolloverCount, whOf, hshown]

/-! ## Records -/

theorem pendingField_eq (x : PendingSchedule) : byteField x.code ++ optionField 2 (beBytes 2) x.effectiveDay
    = (match x with
      | .none => [0, 0, 0, 0]
      | .loading _ => [1, 0, 0, 0]
      | .armed _ day => 2 :: 1 :: beBytes 2 day) := by
  rw [byteField_eq]
  cases x <;> rfl

theorem pointedField_eq (s : State) : optionField 5 instantField s.pointedInstant
    = (match s.clock.pointer.bind (fun i => s.store.closeDates[i]?) with
      | some day => 1 :: (beBytes 2 day ++ beBytes 3 s.config.closeSecond)
      | none => List.replicate 6 0) := by
  unfold State.pointedInstant
  cases s.clock.pointer with
  | none => rfl
  | some i =>
    show optionField 5 instantField ((s.store.closeDates[i]?).map _) = match s.store.closeDates[i]? with
      | some day => _
      | none => _
    cases s.store.closeDates[i]? <;> rfl

theorem closeField_eq (x : CloseState) : byteField x.code ++ optionField 1 causeField x.cause
    = (match x with
      | .idle => [0, 0, 0]
      | .closing y => 1 :: 1 :: [BitVec.ofNat 8 y.cause.code]
      | .resuming y => 2 :: 1 :: [BitVec.ofNat 8 y.cause.code]) := by
  rw [byteField_eq]
  cases x with
  | idle => rfl
  | closing y => exact congrArg (fun z => 1 :: 1 :: z) (byteField_eq _)
  | resuming y => exact congrArg (fun z => 2 :: 1 :: z) (byteField_eq _)

theorem calibrationBits_eq (cfg : Config) :
    calibrationBits cfg = ∑ c : Fin 4, if (cfg.channels.get c).calLock then 2 ^ c.val else 0 := by
  rw [Fin.sum_univ_four]
  unfold calibrationBits boolCode PerFour.get
  simp

/-! ## Codes -/

theorem fourOfByte_eq {b : Byte} {c : Fin 4} (h : b.toNat = c.val) : fourOfByte b = some c := by
  unfold fourOfByte
  rw [h]
  fin_cases c <;> rfl

theorem fourOfByte_none {b : Byte} (h : 3 < b.toNat) : fourOfByte b = none := by
  unfold fourOfByte
  split <;> first | omega | rfl

theorem Rate.ofNumber_number (r : Rate) : Rate.ofNumber r.number = some r := by cases r <;> rfl

theorem Rate.ofNumber_none {n : Nat} (h : n = 0 ∨ 6 < n) : Rate.ofNumber n = none := by
  unfold Rate.ofNumber
  split <;> first | omega | rfl

theorem RateSet.ofCode_eq {b : Byte} {r : RateSet} (h : b.toNat = r.code) : RateSet.ofCode b = some r := by
  unfold RateSet.ofCode
  cases r with
  | all => exact if_pos (eq_of_toNat_eq h)
  | one r =>
    have hne : b ≠ 0x0A := fun heq => by
      rw [heq] at h
      cases r <;> exact absurd h (by decide)
    rw [if_neg hne, h]
    exact congrArg (Option.map _) (Rate.ofNumber_number r)

theorem RateSet.ofCode_none {b : Byte} (h : b.toNat = 0 ∨ 6 < b.toNat) (hall : b.toNat ≠ 0x0A) : RateSet.ofCode b = none := by
  unfold RateSet.ofCode
  rw [if_neg (fun heq => hall (congrArg BitVec.toNat heq)), Rate.ofNumber_none h]
  rfl

end Sys2Proof.Machine
end

section
/-! PROOFS. The READ-class commands (R17, R44, R57, R60, R61, R81, R82, R120, R125, R136, R144, R157, R169, R173, R184). -/

namespace Sys2Proof.Machine

open Sys2Proof

/-! ## What a READ row answers -/

section
variable {p : Port} {s : State} {i : Instr} {code : Byte} {args : List Byte}

theorem unlessHold_of_not (h : s.sup.hold = false) (a : Answer) : unlessHold s a = a := if_neg (by rw [h]; decide)

/-- A READ row that answers with data. -/
theorem exec_read_ok (hsel : s.Selected p) (hbytes : readBytes i = some (p, code, args)) (hcode : code ≠ 0x21) {data sent : List Byte}
    (ha : answerOf i s = .ok data) (hdata : data = sent) : exec i s = .next (s.answered p code .ok sent .none) := by
  rw [exec_of_readBytes hbytes hcode, ha, snapshotRead_answered hsel, ← hdata]
  rfl

/-- A READ row that answers with data where its argument names some. -/
theorem exec_read_found (hsel : s.Selected p) (hbytes : readBytes i = some (p, code, args)) (hcode : code ≠ 0x21)
    {found : Option (List Byte)} {sent : List Byte} (ha : answerOf i s = .orRange found) (hfound : found = some sent) :
    exec i s = .next (s.answered p code .ok sent .none) :=
  exec_read_ok hsel hbytes hcode (ha.trans (congrArg Answer.orRange hfound)) rfl

/-- A READ row that is refused. -/
theorem exec_read_refused (hsel : s.Selected p) (hbytes : readBytes i = some (p, code, args)) (hcode : code ≠ 0x21) {r : Result}
    (ha : answerOf i s = .refuse r) : exec i s = .next (s.answered p code r [] .none) := by
  rw [exec_of_readBytes hbytes hcode, ha, snapshotRead_answered hsel]
  exact congrArg (fun data => Host.Outcome.next (s.answered p code r data .none)) (ite_self ([] : List Byte))

section
variable (h : s.TakesPort p) (hbytes : readBytes i = some (p, code, args)) (hcode : code ≠ 0x21)
include h hbytes hcode

theorem exec_taken_ok {data sent : List Byte} (ha : answerOf i s = unlessHold s (.ok data)) (hdata : data = sent) :
    exec i s = .next (s.answered p code .ok sent .none) :=
  exec_read_ok h.1 hbytes hcode (ha.trans (unlessHold_of_not h.2 _)) hdata

theorem exec_taken_found {found : Option (List Byte)} {sent : List Byte} (ha : answerOf i s = unlessHold s (.orRange found))
    (hfound : found = some sent) : exec i s = .next (s.answered p code .ok sent .none) :=
  exec_read_found h.1 hbytes hcode (ha.trans (unlessHold_of_not h.2 _)) hfound

theorem exec_taken_refused {r : Result} (ha : answerOf i s = unlessHold s (.refuse r)) :
    exec i s = .next (s.answered p code r [] .none) :=
  exec_read_refused h.1 hbytes hcode (ha.trans (unlessHold_of_not h.2 _))

theorem exec_taken_range {found : Option (List Byte)} (ha : answerOf i s = unlessHold s (.orRange found))
    (hnone : found = none) : exec i s = .next (s.answered p code .range [] .none) :=
  exec_taken_refused h hbytes hcode (ha.trans (congrArg (fun x => unlessHold s (.orRange x)) hnone))

end

/-- In Hold all but four READ rows are refused (R184). -/
theorem answerOf_hold (hhold : s.sup.hold = true) (h : readBytes i = some (p, code, args))
    (hcode : code.toNat ∉ [0x10, 0x11, 0x15, 0x16]) : answerOf i s = .refuse .hold := by
  cases i
  case readStatus => obtain ⟨rfl, rfl, rfl⟩ := h; exact absurd (by decide) hcode
  case readTime => obtain ⟨rfl, rfl, rfl⟩ := h; exact absurd (by decide) hcode
  case readRegisters => obtain ⟨rfl, rfl, rfl⟩ := h; exact absurd (by decide) hcode
  case readSubInterval => obtain ⟨rfl, rfl, rfl⟩ := h; exact absurd (by decide) hcode
  all_goals first | exact if_pos hhold | cases h

theorem exec_read_hold (hsel : s.Selected p) (hhold : s.sup.hold = true) (h : readBytes i = some (p, code, args))
    (hcode : code.toNat ∉ [0x10, 0x11, 0x15, 0x16]) : exec i s = .next (s.answered p code .hold [] .none) := by
  by_cases hpreview : code = 0x21
  · subst hpreview
    cases i
    case requestPreview =>
      obtain ⟨rfl, -, rfl⟩ := h
      change Host.Outcome.next (takeRequestPreview _ s) = _
      rw [takeRequestPreview]
      dsimp only
      rw [snapshotRead_answered hsel]
      simp [unlessHold, hhold, Answer.refuse]
    all_goals exact absurd h (by simp [readBytes])
  · exact exec_read_refused hsel h hpreview (answerOf_hold hhold h hcode)

end

/-! ## Bits -/

theorem bitByte_eq (b : Bool) : BitVec.ofNat 8 (boolCode b) = if b then 1 else 0 := by cases b <;> rfl

theorem statusBits_eq {s : State} {p : Port} (hsel : s.Selected p) : statusBits s p =
    (if (s.port p).latch then 1 else 0) + (if (s.port p).arm then 2 else 0)
      + (if s.pins.guard then 4 else 0) + (if s.sup.hold then 8 else 0) + (if s.clock.timeValid then 16 else 0)
      + (if s.attnAsserted p then 32 else 0) + (if s.store.writing.isSome then 64 else 0)
      + (if s.store.writing.map StoreWrite.port = some .customer then 128 else 0) := by
  have hattn : s.attnAsserted p = (s.port p).attn.level := by
    simp [State.attnAsserted, State.running, hsel.1]
  have hwriter : s.store.writing.any (fun w => w.port == .customer)
      = decide (s.store.writing.map StoreWrite.port = some .customer) := by
    cases s.store.writing with
    | none => rfl
    | some w => cases hw : w.port <;> simp [hw]
  unfold statusBits
  rw [hattn, hwriter]
  simp only [boolCode_eq, mul_ite, mul_one, mul_zero, State.storeBusy, decide_eq_true_eq]

theorem resultFlagsCode_eq (f : ResultFlags) (m : Bool) : resultFlagsCode f m =
    (if f.ratchetApplied then 1 else 0) + (if f.minApplied then 2 else 0) + (if f.pfAdjusted then 4 else 0)
      + (if f.clamped then 8 else 0) + (if f.noDemand then 16 else 0) + (if m then 128 else 0) := by
  unfold resultFlagsCode
  simp only [boolCode_eq, mul_ite, mul_one, mul_zero]

theorem windowReasons_eq (w : Window) :
    boolCode w.failFill + 2 * boolCode w.failPickup + 4 * boolCode w.failFlagged
      = (if w.failFill then 1 else 0) + (if w.failPickup then 2 else 0) + (if w.failFlagged then 4 else 0) := by
  simp only [boolCode_eq, mul_ite, mul_one, mul_zero]

/-! ## Schedules and registers -/

theorem tableField_switches (t : Tables) {n : Byte} {d : Fin 4} (h : n.toNat = d.val) : tableField t n
    = some ((t.switches.get d).flatMap (fun x => beBytes 2 x.minute ++ [BitVec.ofNat 8 x.rate])
        ++ [BitVec.ofNat 8 (t.switches.get d).length]) := by
  have hpoint : switchPointField = fun x => beBytes 2 x.minute ++ [BitVec.ofNat 8 x.rate] :=
    funext fun x => congrArg (beBytes 2 x.minute ++ ·) (byteField_eq _)
  unfold tableField
  rw [fourOfByte_eq h, hpoint]
  dsimp only
  rw [byteField_eq, List.flatMap_def]

theorem tableField_week (t : Tables) {n : Byte} (h : n.toNat = 4) : tableField t n
    = some (([t.week.mon, t.week.tue, t.week.wed, t.week.thu, t.week.fri, t.week.sat, t.week.sun].flatMap
        (fun d => [BitVec.ofNat 8 d.val])) ++ [7]) := by
  unfold tableField
  rw [fourOfByte_none (by omega), h]
  rfl

theorem tableField_holidays (t : Tables) {n : Byte} (h : n.toNat = 5) : tableField t n
    = some (t.holidays.flatMap (beBytes 2) ++ [BitVec.ofNat 8 t.holidays.length]) := by
  rw [← byteField_eq, List.flatMap_def]
  unfold tableField
  rw [fourOfByte_none (by omega), h]
  rfl

theorem tableField_none (t : Tables) {n : Byte} (h : 5 < n.toNat) : tableField t n = none := by
  unfold tableField
  rw [fourOfByte_none (by omega)]
  dsimp only
  split <;> first | omega | rfl

theorem tableField_isSome (t : Tables) {n : Byte} (h : n.toNat ≤ 5) : (tableField t n).isSome = true := by
  rcases Nat.lt_or_ge n.toNat 4 with hday | hother
  · rw [tableField_switches t (d := ⟨n.toNat, hday⟩) rfl]; rfl
  · rcases (show n.toNat = 4 ∨ n.toNat = 5 by omega) with hn | hn
    · rw [tableField_week t hn]; rfl
    · rw [tableField_holidays t hn]; rfl

section
variable {s : State} {a n : Byte}

theorem scheduleReply_none (h : 1 < a.toNat ∨ 5 < n.toNat) : scheduleReply s a n = none := by
  unfold scheduleReply
  split
  case h_3 => rfl
  all_goals have hn : 5 < n.toNat := by omega
  case h_1 => exact tableField_none _ hn
  case h_2 =>
    split
    · rw [tableField_none _ hn]; rfl
    · exact tableField_none _ hn

theorem scheduleReply_noPending (ha : a.toNat = 1) (hn : n.toNat ≤ 5) (h : s.store.pendSched = .none) :
    scheduleReply s a n = some [0] := by
  obtain ⟨x, hx⟩ := Option.isSome_iff_exists.mp (tableField_isSome s.store.active hn)
  unfold scheduleReply
  rw [ha, h, hx]
  rfl

theorem scheduleReply_table {t : Tables} (h : a.toNat = 0 ∧ t = s.store.active
    ∨ a.toNat = 1 ∧ (s.store.pendSched = .loading t ∨ ∃ day, s.store.pendSched = .armed t day)) :
    scheduleReply s a n = tableField t n := by
  unfold scheduleReply
  rcases h with ⟨ha, rfl⟩ | ⟨ha, hpend⟩
  · rw [ha]
    rfl
  · unfold Store.pendingTables
    rcases hpend with hpend | ⟨day, hpend⟩ <;> (rw [ha, hpend]; rfl)

end

theorem registersReply_none {s : State} {code : Byte} (h : code.toNat = 0 ∨ (7 ≤ code.toNat ∧ code.toNat ≠ 0x0A ∧ code.toNat < 0x20)
    ∨ 0x23 < code.toNat) : registersReply s code = none := by
  have hrate : RateSet.ofCode code = none := RateSet.ofCode_none (by omega) (by omega)
  have hchannel : fourOfByte (code - 0x20) = none := fourOfByte_none (by bv_omega)
  unfold registersReply
  rw [hrate]
  dsimp only
  rw [hchannel]
  rfl

theorem fourOfByte_channelCode {code : Byte} {c : Fin 4} (h : code.toNat = 0x20 + c.val) : fourOfByte (code - 0x20) = some c :=
  fourOfByte_eq (by have := c.isLt; bv_omega)

theorem RateSet.ofCode_channelCode {code : Byte} {c : Fin 4} (h : code.toNat = 0x20 + c.val) : RateSet.ofCode code = none :=
  RateSet.ofCode_none (by omega) (by omega)

section
variable {s : State} {code : Byte}

theorem registersReply_rate {r : RateSet} (h : code.toNat = r.code) : registersReply s code
    = some (byteField s.config.digits ++ byteField s.config.registerMode.code
        ++ (s.tot.acc.get r).toList.flatMap (registerField s.config) ++ (s.tot.period.get r).toList.flatMap whField) := by
  unfold registersReply
  rw [RateSet.ofCode_eq h]
  rfl

theorem registersReply_channel {c : Fin 4} (h : code.toNat = 0x20 + c.val) : registersReply s code
    = some (byteField s.config.digits ++ byteField s.config.registerMode.code
        ++ (s.chans.get c).cum.toList.flatMap (registerField s.config)) := by
  unfold registersReply
  rw [RateSet.ofCode_channelCode h]
  dsimp only
  rw [fourOfByte_channelCode h]
  rfl

theorem maximaReply_rate {r : RateSet} (h : code.toNat = r.code) : maximaReply s code
    = some (maxRecordBytes (s.dem.maxima.get r).kw ++ maxRecordBytes (s.dem.maxima.get r).kva) := by
  unfold maximaReply
  rw [RateSet.ofCode_eq h]
  rfl

theorem maximaReply_none (h : code.toNat = 0 ∨ 6 < code.toNat) (hall : code.toNat ≠ 0x0A) : maximaReply s code = none := by
  unfold maximaReply
  rw [RateSet.ofCode_none h hall]
  rfl

end

/-! ## Configuration items (section 12.8) -/

theorem itemReply_of {s : State} {n : BitVec 16} {item : ItemName} {v : Nat} (h : ItemName.ofNumber n = some item)
    (hv : item.value s.config = v) : itemReply s n = some (beBytes 4 v) := by
  unfold itemReply
  rw [h, ← hv]
  rfl

theorem ofNumber_lockAndLimit (k : Fin 4) :
    ItemName.ofNumber (BitVec.ofNat 16 (0x0150 + k.val)) = some (.calibrationLock k)
      ∧ ItemName.ofNumber (BitVec.ofNat 16 (0x0800 + 0x10 * k.val)) = some (.limit k 0)
      ∧ ItemName.ofNumber (BitVec.ofNat 16 (0x0801 + 0x10 * k.val)) = some (.limit k 1)
      ∧ ItemName.ofNumber (BitVec.ofNat 16 (0x0802 + 0x10 * k.val)) = some (.limit k 2)
      ∧ ItemName.ofNumber (BitVec.ofNat 16 (0x0803 + 0x10 * k.val)) = some (.limit k 3)
      ∧ ItemName.ofNumber (BitVec.ofNat 16 (0x0804 + 0x10 * k.val)) = some (.limit k 4)
      ∧ ItemName.ofNumber (BitVec.ofNat 16 (0x0805 + 0x10 * k.val)) = some (.limit k 5) := by
  fin_cases k <;> exact ⟨rfl, rfl, rfl, rfl, rfl, rfl, rfl⟩

/-- The numbers of the items that Write Config Item does not write. -/
def readOnlyNumbers : List Nat :=
  [0x0150, 0x0151, 0x0152, 0x0153, 0x0800, 0x0801, 0x0802, 0x0803, 0x0804, 0x0805, 0x0810, 0x0811, 0x0812, 0x0813, 0x0814,
    0x0815, 0x0820, 0x0821, 0x0822, 0x0823, 0x0824, 0x0825, 0x0830, 0x0831, 0x0832, 0x0833, 0x0834, 0x0835, 0x0900]

theorem sixOfNat_val {n : Nat} {j : Fin 6} (h : sixOfNat n = some j) : n = j.val := by
  unfold sixOfNat at h
  split at h <;> cases h <;> rfl

/-- A read-only item has its number in the list. -/
theorem mem_readOnlyNumbers {n : BitVec 16} {item : ItemName} (h : ItemName.ofNumber n = some item)
    (hro : item.readOnly = true) : n.toNat ∈ readOnlyNumbers := by
  have hlimit : ∀ (k : Nat) (j : Fin 6), n.toNat / 16 = k → sixOfNat (n.toNat % 16) = some j → n.toNat = 16 * k + j.val :=
    fun k j hk hj => by
      have := sixOfNat_val hj
      omega
  unfold ItemName.ofNumber at h
  split at h
  case h_6 =>
    split at h
    case h_28 =>
      split at h
      case h_5 => cases h
      all_goals
        rename_i j hdiv hsix
        rw [hlimit _ _ hdiv hsix]
        fin_cases j <;> decide
    all_goals first | (rename_i hn; rw [hn]; decide) | (cases h; cases hro)
  case h_5 =>
    rename_i c hdiv hfour
    have hc := (fourOfByte_ofNat (n.toNat % 16) (by omega) c).mp hfour
    rw [show n.toNat = 16 * 0x15 + c.val by omega]
    fin_cases c <;> decide
  all_goals cases h; cases hro

/-- A number that no item has is answered by no value. -/
theorem itemReply_none {s : State} {n : BitVec 16} (hw : n.toNat ∉ writtenNumbers) (hr : n.toNat ∉ readOnlyNumbers) :
    itemReply s n = none := by
  unfold itemReply
  cases h : ItemName.ofNumber n with
  | none => rfl
  | some item =>
    cases hro : item.readOnly with
    | false => exact absurd (mem_writtenNumbers h hro) hw
    | true => exact absurd (mem_readOnlyNumbers h hro) hr

end Sys2Proof.Machine
end

section
/-! PROOFS. The READ-class replies, field by field. -/

namespace Sys2Proof.Machine

open Sys2Proof

section
variable {p : Port} {s : State} {b : Byte}

/-- Read Period of an entry of the history (R120). -/
theorem periodAnswer_entry (h : b.toNat ≤ 12) : periodAnswer p b s
    = if (!s.closeIdle) = true then .refuse .busy else .ok (periodField (s.per.history.reverse[b.toNat]?)) := by
  have hpreview : b ≠ 0x80 := fun heq => by
    rw [heq] at h
    exact absurd h (by decide)
  exact (if_neg hpreview).trans (if_neg (Nat.not_lt.mpr h))

theorem periodAnswer_idle (h : b.toNat ≤ 12) (hidle : s.per.close = .idle) :
    periodAnswer p b s = .ok (periodField (s.per.history.reverse[b.toNat]?)) := by
  rw [periodAnswer_entry h, (State.closeIdle_iff s).mpr hidle]
  rfl

end

/-- The numbers of all the items, in ascending order (section 12.8). -/
def readableNumbers : List Nat :=
  [0x0100, 0x0101, 0x0102, 0x0103, 0x0110, 0x0111, 0x0112, 0x0113, 0x0120, 0x0121, 0x0122, 0x0123,
    0x0130, 0x0131, 0x0132, 0x0133, 0x0140, 0x0141, 0x0150, 0x0151, 0x0152, 0x0153, 0x0200, 0x0201, 0x0202,
    0x0203, 0x0204, 0x0400, 0x0401, 0x0402, 0x0500, 0x0501, 0x0502, 0x0503, 0x0600, 0x0601, 0x0602, 0x0603,
    0x0604, 0x0605, 0x0606, 0x0607, 0x0608, 0x0609, 0x060A, 0x0700, 0x0800, 0x0801, 0x0802, 0x0803, 0x0804,
    0x0805, 0x0810, 0x0811, 0x0812, 0x0813, 0x0814, 0x0815, 0x0820, 0x0821, 0x0822, 0x0823, 0x0824, 0x0825,
    0x0830, 0x0831, 0x0832, 0x0833, 0x0834, 0x0835, 0x0900]

theorem writtenNumbers_readable {n : Nat} (h : n ∈ writtenNumbers) : n ∈ readableNumbers :=
  (show ∀ m ∈ writtenNumbers, m ∈ readableNumbers by decide) n h

theorem readOnlyNumbers_readable {n : Nat} (h : n ∈ readOnlyNumbers) : n ∈ readableNumbers :=
  (show ∀ m ∈ readOnlyNumbers, m ∈ readableNumbers by decide) n h

/-- Settles O53: each READ-class reply, taken apart into its fields. -/
theorem readCommandsAnswer : Obligations.ReadCommandsAnswer := by
  unfold Obligations.ReadCommandsAnswer
  refine ⟨fun n v => ⟨beBytes_length n v, beBytes_getElem n v⟩, ⟨rfl, rfl, rfl, rfl, rfl, rfl, rfl, rfl, rfl, rfl⟩, ?_⟩
  intro p s hsel byte bit at5 none0 five four energy wh reg sum reactive max26 block77 period number4 sequence4 cause1
  have hbyte : ∀ n, byteField n = byte n := byteField_eq
  have hbit : ∀ b, byteField (boolCode b) = bit b := boolField_eq
  have honOff : ∀ b, byteField (onOffCode b) = bit (!b) := onOffField_eq
  have hreg : registerField s.config = reg := funext fun a => registerField_eq s.config a
  have hmax : ∀ m, maxRecordBytes m = max26 m := fun m => by cases m <;> rfl
  have hblock : rateBlockBytes = block77 := funext fun b => by
    unfold rateBlockBytes
    rw [hbyte, hmax, hmax]
    rfl
  have hperiod : ∀ r, periodRecordBytes r = period r := fun r => by
    unfold periodRecordBytes
    rw [hbyte, hbyte, hbyte, hbyte, hbyte, hblock, resultFlagsCode_eq, Basis.code_eq, ← List.flatMap_def]
    rfl
  have hcause : ∀ c, optionField 1 causeField c = cause1 c := fun c => by
    cases c with
    | none => rfl
    | some c => exact congrArg (1 :: ·) (hbyte c.code)
  have hnumber : ∀ r : Option PeriodRecord, optionField 4 (fun q => beBytes 4 (BitVec.toNat q)) (r.map PeriodRecord.number)
      = number4 r := fun r => by cases r <;> rfl
  have hsequence : ∀ r : Option LogRecord, optionField 4 seqField (r.map LogRecord.sequence) = sequence4 r :=
    fun r => by cases r <;> rfl
  refine ⟨fun hhold i code args h hcode => exec_read_hold hsel hhold h hcode, ?_, ?_, ?_, fun code hcode => ?_, fun code r hcode => ?_,
    fun code c hcode => ?_, fun hhold => ?_⟩
  · -- Read Status
    refine exec_read_ok (i := .readStatus p) hsel rfl (by decide) rfl ?_
    unfold statusReply
    simp only [byteField_eq, statusBits_eq hsel, calibrationBits_eq]
    cases s.per.close <;> cases s.log.clearBusy <;> rfl
  · -- Read Time
    refine exec_read_ok (i := .readTime p) hsel rfl (by decide) rfl ?_
    unfold timeReply
    rw [pointedField_eq, List.append_assoc _ (byteField s.store.pendSched.code), pendingField_eq, hbit, hbit, SyncMode.code_eq,
      hbyte, hbyte, hbyte, hbyte, hbyte]
    rfl
  · -- Read Sub-interval
    refine exec_read_ok (i := .readSubInterval p) hsel rfl (by decide) rfl ?_
    have hreactive : (totalize s.config s.partials).eq.toNat = reactive := by
      refine (reactiveOf_toNat _ _ _).trans ?_
      simp only [totalOf_toNat]
      rfl
    have htotals : quintField (totalize s.config s.partials)
        = [sum .impActive, sum .expActive, sum .lagging, sum .leading, reactive].flatMap (beBytes 8) := by
      have hsum : ∀ q, sum q = (totalOf s.config s.partials q).toNat := fun q => (totalOf_toNat s q).symm
      rw [← hreactive, hsum, hsum, hsum, hsum]
      rfl
    unfold subIntervalReply
    rw [htotals, hbyte]
    cases s.tot.last with
    | none => rfl
    | some r =>
      unfold subRecordBytes optionField
      dsimp only
      rw [hbyte]
      rfl
  · -- Read Registers
    exact exec_read_refused (i := .readRegisters p code) hsel rfl (by decide)
      (congrArg Answer.orRange (registersReply_none hcode))
  · refine exec_read_found (i := .readRegisters p code) hsel rfl (by decide) rfl ((registersReply_rate hcode).trans ?_)
    rw [hreg, RegisterMode.code_eq, hbyte, hbyte]
    rfl
  · refine exec_read_found (i := .readRegisters p code) hsel rfl (by decide) rfl ((registersReply_channel hcode).trans ?_)
    rw [hreg, RegisterMode.code_eq, hbyte, hbyte]
    rfl
  have htake : s.TakesPort p := ⟨hsel, hhold⟩
  refine ⟨fun a n h => ?_, fun a n ha hn hnone => ?_, fun a n t h => ⟨fun d hd => ?_, fun hn => ?_, fun hn => ?_⟩, ?_,
    fun b => ⟨fun h => ?_, fun c h => ?_⟩, ?_, fun b => ⟨fun h => ?_, fun r h => ?_⟩, fun b => ⟨?_, ?_, ?_, ?_, ?_⟩, ?_,
    fun n hbusy => ?_, fun n hbusy hempty => ?_, ?_, ?_, ?_, fun n hn => ?_⟩
  · -- Read Schedule
    exact exec_taken_range htake (i := .readSchedule p a n) rfl (by decide) rfl (scheduleReply_none h)
  · exact exec_taken_found htake (i := .readSchedule p a n) rfl (by decide) rfl (scheduleReply_noPending ha hn hnone)
  · exact exec_taken_found htake (i := .readSchedule p a n) rfl (by decide) rfl ((scheduleReply_table h).trans (tableField_switches t hd))
  · exact exec_taken_found htake (i := .readSchedule p a n) rfl (by decide) rfl ((scheduleReply_table h).trans (tableField_week t hn))
  · exact exec_taken_found htake (i := .readSchedule p a n) rfl (by decide) rfl ((scheduleReply_table h).trans (tableField_holidays t hn))
  · -- Read Close Dates
    refine exec_taken_ok htake (i := .readCloseDates p) rfl (by decide) rfl ?_
    unfold closeDatesReply
    rw [hbyte, List.flatMap_def]
  · -- Read Channel Status
    exact exec_taken_range htake (i := .readChannelStatus p b) rfl (by decide) rfl (congrArg (Option.map _) (fourOfByte_none h))
  · refine exec_taken_found htake (i := .readChannelStatus p b) rfl (by decide) rfl
      ((congrArg (Option.map _) (fourOfByte_eq h)).trans (congrArg some ?_))
    unfold channelReply
    dsimp only
    rw [hreg, hbit, hbit, hbyte, hbyte, hbyte]
    cases (s.chans.get c).expected with
    | none => rfl
    | some q =>
      unfold optionField
      dsimp only
      rw [hbyte]
      rfl
  · -- Read Demand
    refine exec_taken_ok htake (i := .readDemand p) rfl (by decide) rfl ?_
    have hsummary : summaryField = fun x => beBytes 4 x.sequence.toNat ++ byte x.rate.number ++ beBytes 2 x.status.toNat
        ++ energy x.ep ++ energy x.eq := funext fun x => by
      unfold summaryField
      rw [hbyte]
      rfl
    unfold demandReply
    rw [hsummary, honOff, hbyte, hbyte, hbyte, hbyte, List.flatMap_def]
    cases s.dem.window with
    | none => rfl
    | some w =>
      unfold windowField optionField
      dsimp only
      rw [windowReasons_eq, hbit, hbyte, hbyte, hbyte]
      rfl
  · -- Read Maxima
    exact exec_taken_range htake (i := .readMaxima p b) rfl (by decide) rfl (maximaReply_none h.1 h.2)
  · refine exec_taken_found htake (i := .readMaxima p b) rfl (by decide) rfl ((maximaReply_rate h).trans ?_)
    rw [hmax, hmax]
  · -- Read Period
    intro h
    refine exec_taken_ok htake (i := .readPeriod p b) rfl (by decide) (congrArg (unlessHold s) (if_pos (eq_of_toNat_eq h))) ?_
    cases (s.port p).previewRec with
    | none => rfl
    | some r => exact congrArg (1 :: ·) (hperiod r)
  · rintro ⟨hhigh, hpreview⟩
    exact exec_taken_refused htake (i := .readPeriod p b) rfl (by decide) (congrArg (unlessHold s)
      ((if_neg fun h => hpreview (congrArg BitVec.toNat h)).trans (if_pos hhigh)))
  · intro hlow hclose
    refine exec_taken_refused htake (i := .readPeriod p b) rfl (by decide) (congrArg (unlessHold s)
      ((periodAnswer_entry hlow).trans (if_pos ?_)))
    rw [Bool.not_eq_true', ← Bool.not_eq_true]
    exact fun h => hclose ((State.closeIdle_iff s).mp h)
  · intro hlow hclose hlen
    refine exec_taken_ok htake (i := .readPeriod p b) rfl (by decide) (congrArg (unlessHold s) (periodAnswer_idle hlow hclose)) ?_
    rw [List.getElem?_eq_none (by rwa [List.length_reverse])]
    rfl
  · intro hlen hlow hclose
    refine exec_taken_ok htake (i := .readPeriod p b) rfl (by decide) (congrArg (unlessHold s) (periodAnswer_idle hlow hclose)) ?_
    rw [List.getElem?_eq_getElem (by rwa [List.length_reverse]), List.getElem_reverse]
    exact congrArg (1 :: ·) (hperiod _)
  · -- Read Period State
    refine exec_taken_ok htake (i := .readPeriodState p) rfl (by decide) rfl ?_
    unfold periodStateReply
    rw [hnumber, hnumber, hnumber, closeField_eq, hcause, hbit, hbit, hbyte, hbyte]
    cases s.per.close <;> rfl
  · -- Read Profile
    exact exec_taken_refused htake (i := .readProfile p n) rfl (by decide) (congrArg (unlessHold s) (if_pos hbusy))
  · have hanswer : profileAnswer p n s = .ok [0, 4] := by
      unfold profileAnswer profileData profileEffect
      rw [hbusy, hempty]
      rfl
    exact exec_taken_ok htake (i := .readProfile p n) rfl (by decide) (congrArg (unlessHold s) hanswer) rfl
  · -- Read Profile State
    refine exec_taken_ok htake (i := .readProfileState p) rfl (by decide) rfl ?_
    unfold profileStateReply
    rw [oldestIn_all, newestIn_all, hsequence, hsequence, hbit, hbit, hbyte]
    unfold cursorField
    rw [Direction.code_eq, hbyte, hbyte]
    cases (s.port p).cursor.window <;> simp only [List.append_assoc] <;> rfl
  · -- Read Limits
    refine exec_taken_ok htake (i := .readLimits p) rfl (by decide) rfl ?_
    have hcomparator : ∀ k, comparatorField (s.config.limits.get k) (s.lim.comparators.get k)
        = bit (s.config.limits.get k).enabled ++ byte (if (s.config.limits.get k).quantity = .kw then 0 else 1)
            ++ beBytes 4 (s.config.limits.get k).threshold ++ beBytes 4 (s.config.limits.get k).hysteresis
            ++ beBytes 2 (s.config.limits.get k).minHold ++ byte (s.config.limits.get k).shed.val
            ++ byte (s.lim.comparators.get k).state.code ++ beBytes 2 (s.lim.comparators.get k).timer := fun k => by
      unfold comparatorField
      rw [hbit, Basis.code_eq, hbyte, hbyte, hbyte]
    have hshed : s.lim.shed.toList.map (fun b => BitVec.ofNat 8 (boolCode b))
        = ([0, 1, 2, 3] : List (Fin 4)).flatMap (fun k => bit (s.lim.shed.get k)) := by
      simp only [bitByte_eq]
      rfl
    have hlimits : ((s.config.limits.zipWith comparatorField s.lim.comparators).toList).flatten
        = ([0, 1, 2, 3] : List (Fin 4)).flatMap (fun k => comparatorField (s.config.limits.get k) (s.lim.comparators.get k)) := rfl
    unfold limitsReply
    rw [hlimits, hshed, hbyte, hbyte, hbyte]
    simp only [hcomparator]
  · -- Read Config Item
    have hitem : ∀ {n v : Nat} {item : ItemName}, ItemName.ofNumber (BitVec.ofNat 16 n) = some item → item.value s.config = v →
        exec (.readConfigItem p (BitVec.ofNat 16 n)) s = .next (s.answered p 0x1E .ok (beBytes 4 v) .none) :=
      fun hn hv => exec_taken_found htake (i := .readConfigItem p _) rfl (by decide) rfl (itemReply_of hn hv)
    refine ⟨fun i => ?_, hitem rfl (Polarity.code_eq _), hitem rfl rfl, hitem rfl rfl, hitem rfl (SyncMode.code_eq _),
      hitem rfl rfl, hitem rfl rfl, hitem rfl rfl, hitem rfl rfl, hitem rfl rfl, hitem rfl (RegisterMode.code_eq _),
      hitem rfl rfl, hitem rfl rfl, hitem rfl rfl, hitem rfl rfl, hitem rfl (Basis.code_eq _), hitem rfl rfl, hitem rfl rfl,
      hitem rfl rfl, hitem rfl rfl, hitem rfl rfl, hitem rfl rfl, hitem rfl rfl, hitem rfl rfl, hitem rfl rfl, hitem rfl rfl,
      hitem rfl rfl, hitem rfl rfl⟩
    obtain ⟨hk, hss, henable, hweight⟩ := ofNumber_channel i
    obtain ⟨hlock, hon, hquantity, hthreshold, hhysteresis, hhold, hshed⟩ := ofNumber_lockAndLimit i
    exact ⟨hitem hk rfl, hitem hss rfl, hitem henable rfl, hitem hweight rfl, hitem hlock rfl, hitem hon rfl,
      hitem hquantity (Basis.code_eq _), hitem hthreshold rfl, hitem hhysteresis rfl, hitem hhold rfl, hitem hshed rfl⟩
  · exact exec_taken_range htake (i := .readConfigItem p n) rfl (by decide) rfl (itemReply_none
      (fun h => hn (writtenNumbers_readable h)) (fun h => hn (readOnlyNumbers_readable h)))

end Sys2Proof.Machine
end
